-- ==== Sys2Proof/Word.lean ====
section
/-! DEFINITION. The one word the spec treats as bits throughout: a byte of the radio link, of an accessory
transaction, or of the configuration image. Quantities the spec gives as integers with a range (mA, mV, permille,
microseconds) are `Nat` or `Int`, computed exactly as 00_scope.md, Arithmetic, asks. -/

namespace Sys2Proof

/-- One byte on LINK_IN, LINK_OUT or the accessory port, or one byte of the configuration image. -/
abbrev Byte := BitVec 8

end Sys2Proof
end

