-- ==== Sys2Proof/Machine/Arith.lean ====
section
/-! DEFINITION. Arithmetic helpers: limiting, most-significant-first byte order (R173), the CRC-8 of the radio
frames (R137) and the CRC-16 of the configuration image (R174), and the fixed times of the spec in microseconds. -/

namespace Sys2Proof.Machine

/-- `x` limited to `lo..hi`. -/
def clampInt (lo hi x : Int) : Int := max lo (min hi x)

/-- The sign of `x`: +1, 0 or −1 (00_scope.md, Arithmetic). -/
def signInt (x : Int) : Int := if 0 < x then 1 else if x < 0 then -1 else 0

/-- The bits `lo .. lo+width-1` of `n`. -/
def bits (n lo width : Nat) : Nat := n / 2 ^ lo % 2 ^ width

/-- Bit `i` of `n`. -/
def bit (n i : Nat) : Bool := n / 2 ^ i % 2 == 1

/-- The unsigned number a list of bytes spells, most significant byte first (R173). -/
def beNat (bs : List Byte) : Nat := bs.foldl (fun acc b => acc * 256 + b.toNat) 0

/-- The two's complement number a list of bytes spells, most significant byte first (R173). -/
def beInt (bs : List Byte) : Int :=
  let n := beNat bs
  if 2 * n < 2 ^ (8 * bs.length) then n else (n : Int) - 2 ^ (8 * bs.length)

/-- `n` on one byte. -/
def byteOf (n : Nat) : Byte := BitVec.ofNat 8 n

/-- `n` on two bytes, most significant first. -/
def word16 (n : Nat) : List Byte := [byteOf (n / 256), byteOf n]

/-- `n` on three bytes, most significant first. -/
def word24 (n : Nat) : List Byte := [byteOf (n / 65536), byteOf (n / 256), byteOf n]

/-- `n` on four bytes, most significant first. -/
def word32 (n : Nat) : List Byte := [byteOf (n / 16777216), byteOf (n / 65536), byteOf (n / 256), byteOf n]

/-- A flag of a layout: one byte, 0 for clear and 1 for set (R173). -/
def flagByte (b : Bool) : Byte := if b then 1 else 0

/-- A code or small number of a layout, 0xFF where absent (R173). -/
def codeByte : Option Nat → Byte
  | some n => byteOf n
  | none => 0xFF

/-- A signed quantity of a layout: two bytes, two's complement (R173). -/
def signed16 (x : Int) : List Byte := word16 (BitVec.ofInt 16 x).toNat

/-- A signed quantity of a layout, 0x8000 where absent (R173). -/
def signed16Opt : Option Int → List Byte
  | some x => signed16 x
  | none => word16 0x8000

/-- An unsigned quantity of a layout: two bytes, stopping at 65,534 so that 0xFFFF stays the mark for absent (R173). -/
def unsigned16 (n : Nat) : List Byte := word16 (min n 65534)

/-- An unsigned quantity of a layout, 0xFFFF where absent, stopped or none (R173). -/
def unsigned16Opt : Option Nat → List Byte
  | some n => unsigned16 n
  | none => word16 0xFFFF

/-- A wide quantity of a layout, 0xFFFFFFFF where absent (R173). -/
def wide32Opt : Option Nat → List Byte
  | some n => word32 n
  | none => word32 0xFFFFFFFF

/-- A list of ids on `places` bytes, the unused places 0xFF (R173). -/
def idList (places : Nat) (ids : List Nat) : List Byte :=
  (ids.map byteOf ++ List.replicate places (0xFF : Byte)).take places

/-- `k` rounds of a bitwise CRC register of width `w`: shift out the most significant bit, add the polynomial when it
was set. -/
def crcRounds {w : Nat} (poly : BitVec w) : Nat → BitVec w → BitVec w
  | 0, r => r
  | k + 1, r => crcRounds poly k (if r.msb then (r <<< 1) ^^^ poly else r <<< 1)

/-- The CRC-8 of R137: polynomial 0x2F, initial value 0x00, each byte most significant bit first, not reflected,
nothing added or inverted at the end. -/
def crc8 (bs : List Byte) : Byte := bs.foldl (fun r b => crcRounds 0x2F#8 8 (r ^^^ b)) 0

/-- The CRC-16 of R174: polynomial 0x1021, initial value 0xFFFF, each byte most significant bit first, not reflected,
no final inversion. -/
def crc16 (bs : List Byte) : BitVec 16 :=
  bs.foldl (fun r b => crcRounds 0x1021#16 8 (r ^^^ (b.setWidth 16).shiftLeft 8)) 0xFFFF#16

/-- One millisecond on the model's clock, which counts microseconds (log 2). -/
def msec : Nat := 1000

/-- The PMON's sample-set period, 2 ms (R1). -/
def samplePeriod : Nat := 2 * msec

/-- The budget period, the drive step and the winch step, 10 ms (R29, R68, R96). -/
def stepPeriod : Nat := 10 * msec

/-- The light frame, 20 ms (R124). -/
def lightPeriod : Nat := 20 * msec

/-- TRIP_HOLD, a fixed 1,000 ms (R11). -/
def tripHold : Nat := 1000 * msec

/-- The longest gap between two bytes of a radio frame, 500 µs (R136). -/
def linkGap : Nat := 500

/-- The wait before a reply is sent, 200 µs (R143). -/
def replyDelay : Nat := 200

/-- The time a reply takes on the line, 500 µs (R143). -/
def replyLength : Nat := 500

/-- The pendant settle time, 20 ms (R144). -/
def settleTime : Nat := 20 * msec

/-- The wake time, 5 ms (R162). -/
def wakeTime : Nat := 5 * msec

/-- The time a LOAD takes, 5 ms (R158). -/
def loadTime : Nat := 5 * msec

/-- The time a STORE takes, 40 ms (R164). -/
def storeTime : Nat := 40 * msec

end Sys2Proof.Machine
end

