-- ==== Sys2Proof/Machine/Types.lean ====
section
/-! DEFINITION. The named sets of values of the spec (Table 11-3 gives their codes) and the small records that
hold one thing per measured quantity, per function, per consumer, per servo, per light output or per order slot. -/

namespace Sys2Proof.Machine

/-- The ten measured quantities of Table 1-1, in the order of their BENCH_INJECT codes (Table 11-3). -/
inductive Quantity
  | tap1 | tap2 | tap3 | tap4 | packVoltage | packCurrent | servoCurrent | railVoltage | packTemp | motorTemp
deriving DecidableEq, Repr

/-- The seven vehicle functions of Table 3-1, in the order of their ids. -/
inductive Fn
  | throttle | steer | steerMode | gear | diff | winch | scene
deriving DecidableEq, Repr

/-- The four consumers of the budget (Table 2-1), in the order the BUDGET block reports them (R42). -/
inductive Consumer
  | servo | drive | winch | lights
deriving DecidableEq, Repr

/-- The five servos SRV0..SRV4 (section 4.2). -/
inductive Servo
  | frontSteer | rearSteer | gear | frontDiff | rearDiff
deriving DecidableEq, Repr

/-- The eight light outputs L0..L7. -/
inductive Lamp
  | l0 | l1 | l2 | l3 | l4 | l5 | l6 | l7
deriving DecidableEq, Repr

/-- The two pendant button lines (R144). -/
inductive PendantLine
  | pendIn | pendOut
deriving DecidableEq, Repr

/-- The protection state (section 1.3). -/
inductive ProtState
  | normal | warn | cutoff | lockout
deriving DecidableEq, Repr

/-- The cutoff cause, present in CUTOFF only (section 1.3). -/
inductive CutCause
  | lowVolt | hardTrip
deriving DecidableEq, Repr

/-- The pack switch (section 1.5): OPEN, PRECHARGING, CLOSED. -/
inductive SwitchState
  | opened | precharging | closed
deriving DecidableEq, Repr

/-- The run state (R156). -/
inductive RunState
  | halted | loading | arming | running | sleep | benchDry | benchWet
deriving DecidableEq, Repr

/-- The sleep origin (R161). -/
inductive SleepOrigin
  | fromHalted | fromRunning
deriving DecidableEq, Repr

/-- The holder of a function (R45): radio link, accessory port, pendant, failsafe. -/
inductive Holder
  | dl | ap | pd | fs
deriving DecidableEq, Repr

/-- The radio link state (R49). -/
inductive LinkState
  | never | fresh | lost
deriving DecidableEq, Repr

/-- The direction of the drive (section 4.1). -/
inductive DriveDir
  | forward | backward | none
deriving DecidableEq, Repr

/-- The winch drive direction (section 5.1). -/
inductive WinchDir
  | haul | payout | none
deriving DecidableEq, Repr

/-- The gear position (section 4.1). -/
inductive Gear
  | low | high
deriving DecidableEq, Repr

/-- The steering mode (section 4.2). -/
inductive SteerMode
  | front | rear | counter | crab
deriving DecidableEq, Repr

/-- The kind of a winch order (Table 5-2). -/
inductive OrderKind
  | haul | payout | haulTurns | payoutTurns
deriving DecidableEq, Repr

/-- How a winch order ended (Table 5-2). -/
inductive OrderResult
  | ok | stall | starved | timeout | preempted | cancelled | lineEnd
deriving DecidableEq, Repr

/-- The status codes of Table 8-1. -/
inductive Status
  | ok | okClamped | busy | refusedState | notHolder | overridden | notAllowed | badValue | queueFull | badLength
  | unknown | configField
deriving DecidableEq, Repr

/-- The reason carried by a CONFIG_FIELD answer (Table 11-3). -/
inductive FieldReason
  | none | range | relation | notChecked
deriving DecidableEq, Repr

/-- The sixteen entries of the fault set (Table 8-3). -/
inductive FaultEntry
  | hardTrip | lockout | lowCutoff | prechargeFail | servoShort | ocLimit | tap | packSensor | motorSensor
  | winchStall | winchStarved | dlLost | apLost | configBad | storeFail | lowWarn
deriving DecidableEq, Repr

/-- The five dwell timers of R7. -/
inductive Dwell
  | warnEntry | warnExit | cut | crit | rearm
deriving DecidableEq, Repr

/-- The kinds of reset (00_scope.md, Reset kinds). -/
inductive FullResetKind
  | powerOn | brownOut | pin
deriving DecidableEq, Repr

/-- The seven blocks READ returns (R150). -/
inductive ReadBlock
  | pack | budget | grants | drive | steer | winch | lights
deriving DecidableEq, Repr

/-- The rows of the command RUNCTL: its highest flag, LOAD and START counting as one place (R157). -/
inductive RunctlRow
  | halt | sleep | benchDry | benchWet | load | start | noFlag
deriving DecidableEq, Repr

/-- One thing for each measured quantity. -/
structure PerQuantity (α : Type) where
  tap1 : α
  tap2 : α
  tap3 : α
  tap4 : α
  packVoltage : α
  packCurrent : α
  servoCurrent : α
  railVoltage : α
  packTemp : α
  motorTemp : α
deriving DecidableEq, Repr

/-- One thing for each function. -/
structure PerFn (α : Type) where
  throttle : α
  steer : α
  steerMode : α
  gear : α
  diff : α
  winch : α
  scene : α
deriving DecidableEq, Repr

/-- One thing for each consumer. -/
structure PerConsumer (α : Type) where
  servo : α
  drive : α
  winch : α
  lights : α
deriving DecidableEq, Repr

/-- One thing for each servo. -/
structure PerServo (α : Type) where
  frontSteer : α
  rearSteer : α
  gear : α
  frontDiff : α
  rearDiff : α
deriving DecidableEq, Repr

/-- One thing for each light output. -/
structure PerLamp (α : Type) where
  l0 : α
  l1 : α
  l2 : α
  l3 : α
  l4 : α
  l5 : α
  l6 : α
  l7 : α
deriving DecidableEq, Repr

/-- One thing for each order slot of the ring (R101). -/
structure PerSlot (α : Type) where
  s0 : α
  s1 : α
  s2 : α
  s3 : α
deriving DecidableEq, Repr

/-- One thing for each dwell timer. -/
structure PerDwell (α : Type) where
  warnEntry : α
  warnExit : α
  cut : α
  crit : α
  rearm : α
deriving DecidableEq, Repr

/-- The 350 bytes of a configuration: 158 bytes of settings and the 192-byte scene table (section 9.5). The bytes are
kept as stored, so bits that Table 11-6 leaves unassigned survive (R174). -/
structure Settings where
  bytes : List Byte
deriving DecidableEq, Repr

end Sys2Proof.Machine
end

