-- ==== Sys2Proof/Machine/Records.lean ====
section
/-! DEFINITION. Reading, writing, building and listing the small records of Types.lean. -/

namespace Sys2Proof.Machine

/-- Every Quantity, in the order of its codes. -/
def Quantity.all : List Quantity := [.tap1, .tap2, .tap3, .tap4, .packVoltage, .packCurrent, .servoCurrent, .railVoltage, .packTemp, .motorTemp]

/-- The code of a Quantity (its place in that order). -/
def Quantity.code : Quantity → Nat
  | .tap1 => 0
  | .tap2 => 1
  | .tap3 => 2
  | .tap4 => 3
  | .packVoltage => 4
  | .packCurrent => 5
  | .servoCurrent => 6
  | .railVoltage => 7
  | .packTemp => 8
  | .motorTemp => 9

/-- The entry of `r` for `i`. -/
def PerQuantity.get {α : Type} (r : PerQuantity α) : Quantity → α
  | .tap1 => r.tap1
  | .tap2 => r.tap2
  | .tap3 => r.tap3
  | .tap4 => r.tap4
  | .packVoltage => r.packVoltage
  | .packCurrent => r.packCurrent
  | .servoCurrent => r.servoCurrent
  | .railVoltage => r.railVoltage
  | .packTemp => r.packTemp
  | .motorTemp => r.motorTemp

/-- `r` with the entry for `i` replaced. -/
def PerQuantity.set {α : Type} (r : PerQuantity α) (i : Quantity) (a : α) : PerQuantity α :=
  match i with
  | .tap1 => { r with tap1 := a }
  | .tap2 => { r with tap2 := a }
  | .tap3 => { r with tap3 := a }
  | .tap4 => { r with tap4 := a }
  | .packVoltage => { r with packVoltage := a }
  | .packCurrent => { r with packCurrent := a }
  | .servoCurrent => { r with servoCurrent := a }
  | .railVoltage => { r with railVoltage := a }
  | .packTemp => { r with packTemp := a }
  | .motorTemp => { r with motorTemp := a }

/-- The record whose entry for each index is given by `g`. -/
def PerQuantity.build {α : Type} (g : Quantity → α) : PerQuantity α :=
  ⟨g .tap1, g .tap2, g .tap3, g .tap4, g .packVoltage, g .packCurrent, g .servoCurrent, g .railVoltage, g .packTemp, g .motorTemp⟩

/-- The entries in order. -/
def PerQuantity.toList {α : Type} (r : PerQuantity α) : List α :=
  [r.tap1, r.tap2, r.tap3, r.tap4, r.packVoltage, r.packCurrent, r.servoCurrent, r.railVoltage, r.packTemp, r.motorTemp]

/-- Every Fn, in the order of its codes. -/
def Fn.all : List Fn := [.throttle, .steer, .steerMode, .gear, .diff, .winch, .scene]

/-- The code of a Fn (its place in that order). -/
def Fn.code : Fn → Nat
  | .throttle => 0
  | .steer => 1
  | .steerMode => 2
  | .gear => 3
  | .diff => 4
  | .winch => 5
  | .scene => 6

/-- The entry of `r` for `i`. -/
def PerFn.get {α : Type} (r : PerFn α) : Fn → α
  | .throttle => r.throttle
  | .steer => r.steer
  | .steerMode => r.steerMode
  | .gear => r.gear
  | .diff => r.diff
  | .winch => r.winch
  | .scene => r.scene

/-- `r` with the entry for `i` replaced. -/
def PerFn.set {α : Type} (r : PerFn α) (i : Fn) (a : α) : PerFn α :=
  match i with
  | .throttle => { r with throttle := a }
  | .steer => { r with steer := a }
  | .steerMode => { r with steerMode := a }
  | .gear => { r with gear := a }
  | .diff => { r with diff := a }
  | .winch => { r with winch := a }
  | .scene => { r with scene := a }

/-- The record whose entry for each index is given by `g`. -/
def PerFn.build {α : Type} (g : Fn → α) : PerFn α :=
  ⟨g .throttle, g .steer, g .steerMode, g .gear, g .diff, g .winch, g .scene⟩

/-- The entries in order. -/
def PerFn.toList {α : Type} (r : PerFn α) : List α :=
  [r.throttle, r.steer, r.steerMode, r.gear, r.diff, r.winch, r.scene]

/-- Every Consumer, in the order of its codes. -/
def Consumer.all : List Consumer := [.servo, .drive, .winch, .lights]

/-- The code of a Consumer (its place in that order). -/
def Consumer.code : Consumer → Nat
  | .servo => 0
  | .drive => 1
  | .winch => 2
  | .lights => 3

/-- The entry of `r` for `i`. -/
def PerConsumer.get {α : Type} (r : PerConsumer α) : Consumer → α
  | .servo => r.servo
  | .drive => r.drive
  | .winch => r.winch
  | .lights => r.lights

/-- `r` with the entry for `i` replaced. -/
def PerConsumer.set {α : Type} (r : PerConsumer α) (i : Consumer) (a : α) : PerConsumer α :=
  match i with
  | .servo => { r with servo := a }
  | .drive => { r with drive := a }
  | .winch => { r with winch := a }
  | .lights => { r with lights := a }

/-- The record whose entry for each index is given by `g`. -/
def PerConsumer.build {α : Type} (g : Consumer → α) : PerConsumer α :=
  ⟨g .servo, g .drive, g .winch, g .lights⟩

/-- The entries in order. -/
def PerConsumer.toList {α : Type} (r : PerConsumer α) : List α :=
  [r.servo, r.drive, r.winch, r.lights]

/-- Every Servo, in the order of its codes. -/
def Servo.all : List Servo := [.frontSteer, .rearSteer, .gear, .frontDiff, .rearDiff]

/-- The code of a Servo (its place in that order). -/
def Servo.code : Servo → Nat
  | .frontSteer => 0
  | .rearSteer => 1
  | .gear => 2
  | .frontDiff => 3
  | .rearDiff => 4

/-- The entry of `r` for `i`. -/
def PerServo.get {α : Type} (r : PerServo α) : Servo → α
  | .frontSteer => r.frontSteer
  | .rearSteer => r.rearSteer
  | .gear => r.gear
  | .frontDiff => r.frontDiff
  | .rearDiff => r.rearDiff

/-- `r` with the entry for `i` replaced. -/
def PerServo.set {α : Type} (r : PerServo α) (i : Servo) (a : α) : PerServo α :=
  match i with
  | .frontSteer => { r with frontSteer := a }
  | .rearSteer => { r with rearSteer := a }
  | .gear => { r with gear := a }
  | .frontDiff => { r with frontDiff := a }
  | .rearDiff => { r with rearDiff := a }

/-- The record whose entry for each index is given by `g`. -/
def PerServo.build {α : Type} (g : Servo → α) : PerServo α :=
  ⟨g .frontSteer, g .rearSteer, g .gear, g .frontDiff, g .rearDiff⟩

/-- The entries in order. -/
def PerServo.toList {α : Type} (r : PerServo α) : List α :=
  [r.frontSteer, r.rearSteer, r.gear, r.frontDiff, r.rearDiff]

/-- Every Lamp, in the order of its codes. -/
def Lamp.all : List Lamp := [.l0, .l1, .l2, .l3, .l4, .l5, .l6, .l7]

/-- The code of a Lamp (its place in that order). -/
def Lamp.code : Lamp → Nat
  | .l0 => 0
  | .l1 => 1
  | .l2 => 2
  | .l3 => 3
  | .l4 => 4
  | .l5 => 5
  | .l6 => 6
  | .l7 => 7

/-- The entry of `r` for `i`. -/
def PerLamp.get {α : Type} (r : PerLamp α) : Lamp → α
  | .l0 => r.l0
  | .l1 => r.l1
  | .l2 => r.l2
  | .l3 => r.l3
  | .l4 => r.l4
  | .l5 => r.l5
  | .l6 => r.l6
  | .l7 => r.l7

/-- `r` with the entry for `i` replaced. -/
def PerLamp.set {α : Type} (r : PerLamp α) (i : Lamp) (a : α) : PerLamp α :=
  match i with
  | .l0 => { r with l0 := a }
  | .l1 => { r with l1 := a }
  | .l2 => { r with l2 := a }
  | .l3 => { r with l3 := a }
  | .l4 => { r with l4 := a }
  | .l5 => { r with l5 := a }
  | .l6 => { r with l6 := a }
  | .l7 => { r with l7 := a }

/-- The record whose entry for each index is given by `g`. -/
def PerLamp.build {α : Type} (g : Lamp → α) : PerLamp α :=
  ⟨g .l0, g .l1, g .l2, g .l3, g .l4, g .l5, g .l6, g .l7⟩

/-- The entries in order. -/
def PerLamp.toList {α : Type} (r : PerLamp α) : List α :=
  [r.l0, r.l1, r.l2, r.l3, r.l4, r.l5, r.l6, r.l7]

/-- The entry of `r` for `i`. -/
def PerSlot.get {α : Type} (r : PerSlot α) : Fin 4 → α
  | 0 => r.s0
  | 1 => r.s1
  | 2 => r.s2
  | 3 => r.s3

/-- `r` with the entry for `i` replaced. -/
def PerSlot.set {α : Type} (r : PerSlot α) (i : Fin 4) (a : α) : PerSlot α :=
  match i with
  | 0 => { r with s0 := a }
  | 1 => { r with s1 := a }
  | 2 => { r with s2 := a }
  | 3 => { r with s3 := a }

/-- The record whose entry for each index is given by `g`. -/
def PerSlot.build {α : Type} (g : Fin 4 → α) : PerSlot α :=
  ⟨g 0, g 1, g 2, g 3⟩

/-- The entries in order. -/
def PerSlot.toList {α : Type} (r : PerSlot α) : List α :=
  [r.s0, r.s1, r.s2, r.s3]

/-- Every Dwell, in the order of its codes. -/
def Dwell.all : List Dwell := [.warnEntry, .warnExit, .cut, .crit, .rearm]

/-- The code of a Dwell (its place in that order). -/
def Dwell.code : Dwell → Nat
  | .warnEntry => 0
  | .warnExit => 1
  | .cut => 2
  | .crit => 3
  | .rearm => 4

/-- The entry of `r` for `i`. -/
def PerDwell.get {α : Type} (r : PerDwell α) : Dwell → α
  | .warnEntry => r.warnEntry
  | .warnExit => r.warnExit
  | .cut => r.cut
  | .crit => r.crit
  | .rearm => r.rearm

/-- `r` with the entry for `i` replaced. -/
def PerDwell.set {α : Type} (r : PerDwell α) (i : Dwell) (a : α) : PerDwell α :=
  match i with
  | .warnEntry => { r with warnEntry := a }
  | .warnExit => { r with warnExit := a }
  | .cut => { r with cut := a }
  | .crit => { r with crit := a }
  | .rearm => { r with rearm := a }

/-- The record whose entry for each index is given by `g`. -/
def PerDwell.build {α : Type} (g : Dwell → α) : PerDwell α :=
  ⟨g .warnEntry, g .warnExit, g .cut, g .crit, g .rearm⟩

/-- The entries in order. -/
def PerDwell.toList {α : Type} (r : PerDwell α) : List α :=
  [r.warnEntry, r.warnExit, r.cut, r.crit, r.rearm]

/-- Every entry of the fault set, highest priority first (Table 8-3). -/
def FaultEntry.all : List FaultEntry :=
  [.hardTrip, .lockout, .lowCutoff, .prechargeFail, .servoShort, .ocLimit, .tap, .packSensor, .motorSensor, .winchStall, .winchStarved, .dlLost, .apLost, .configBad, .storeFail, .lowWarn]

/-- The index of a fault-set entry, which is also its priority (Table 8-3, R151). -/
def FaultEntry.code : FaultEntry → Nat
  | .hardTrip => 0
  | .lockout => 1
  | .lowCutoff => 2
  | .prechargeFail => 3
  | .servoShort => 4
  | .ocLimit => 5
  | .tap => 6
  | .packSensor => 7
  | .motorSensor => 8
  | .winchStall => 9
  | .winchStarved => 10
  | .dlLost => 11
  | .apLost => 12
  | .configBad => 13
  | .storeFail => 14
  | .lowWarn => 15

end Sys2Proof.Machine
end

