-- ==== Sys2Proof/Machine/Image.lean ====
section
/-! DEFINITION. The configuration image (section 11.3): the factory bytes, every setting read from its place in
Table 11-6 as "its stored number multiplied by the field's unit, with the offset added for the three voltage
thresholds" (R174), and the check of R163. Multi-byte fields stand most significant byte first (log 9). -/

namespace Sys2Proof.Machine


/-- Factory image bytes 0..42 (Table 11-6): pack, protection and budget settings. -/
def factoryPack : List Byte :=
  [49, 44, 15, 100, 80, 50, 15, 50, 40, 10, 40, 100, 0, 200, 45, 60, 75, 100, 80, 50, 20, 70, 90, 110, 100, 75, 40, 0, 85, 20, 15, 3, 50, 60, 4, 60, 40, 0, 40, 3, 30, 25, 223]

/-- Factory image bytes 43..59 (Table 11-6): function records, link timing and model tag. -/
def factoryFunction : List Byte :=
  [106, 2, 106, 1, 106, 37, 106, 35, 106, 36, 234, 6, 106, 55, 25, 10, 0]

/-- Factory image bytes 60..99 (Table 11-6): channel calibration records. -/
def factoryChannel : List Byte :=
  [128, 6, 64, 40, 128, 6, 64, 40, 128, 6, 64, 40, 128, 6, 64, 40, 128, 6, 64, 40, 128, 6, 64, 40, 128, 6, 64, 40, 128, 6, 64, 40, 128, 6, 64, 40, 128, 6, 64, 40]

/-- Factory image bytes 100..134 (Table 11-6): drive and steering settings. -/
def factoryDrive : List Byte :=
  [0, 50, 30, 30, 10, 110, 190, 100, 150, 200, 0, 100, 150, 200, 0, 100, 150, 200, 0, 100, 150, 200, 0, 100, 150, 200, 0, 190, 110, 190, 110, 100, 0, 10, 0]

/-- Factory image bytes 135..157 (Table 11-6): winch, light and run-control settings. -/
def factoryWinch : List Byte :=
  [34, 60, 32, 20, 10, 30, 20, 60, 60, 20, 20, 10, 10, 10, 40, 30, 10, 15, 30, 10, 0, 255, 255]

/-- The scene table of an all-OFF scene: every entry level 0, period 5, phase 0, follow source BRAKE (R120). -/
def factoryDarkScene : List Byte :=
  [0, 0, 5, 0, 0, 5, 0, 0, 5, 0, 0, 5, 0, 0, 5, 0, 0, 5, 0, 0, 5, 0, 0, 5]

/-- Factory scene 1 of Table 6-2. -/
def factoryScene1 : List Byte :=
  [193, 232, 5, 193, 232, 5, 195, 232, 5, 195, 232, 5, 203, 232, 5, 0, 0, 5, 0, 0, 5, 235, 232, 5]

/-- Factory scene 2 of Table 6-2. -/
def factoryScene2 : List Byte :=
  [193, 232, 5, 193, 232, 5, 195, 232, 5, 195, 232, 5, 203, 232, 5, 193, 232, 5, 129, 88, 5, 235, 232, 5]

/-- Factory scene 3 of Table 6-2. -/
def factoryScene3 : List Byte :=
  [65, 244, 5, 65, 244, 5, 211, 232, 5, 219, 232, 5, 0, 0, 5, 0, 0, 5, 193, 232, 5, 227, 232, 5]

/-- The factory default configuration: every default of Tables 2-2, 3-2, 4-1, 4-2, 5-1, 6-1, 6-2, 9-1 and 9-2, in
the layout of Table 11-6. -/
def factorySettings : Settings :=
  ⟨factoryPack ++ factoryFunction ++ factoryChannel ++ factoryDrive ++ factoryWinch ++
    factoryDarkScene ++ factoryScene1 ++ factoryScene2 ++ factoryScene3 ++ factoryDarkScene ++ factoryDarkScene ++
    factoryDarkScene ++ factoryDarkScene⟩


/-! ### Reading bytes -/

/-- The stored byte at an offset, as a number. -/
def Settings.at (c : Settings) (offset : Nat) : Nat := (c.bytes.getD offset 0).toNat

/-- The stored two-byte number at an offset, most significant byte first. -/
def Settings.at16 (c : Settings) (offset : Nat) : Nat := c.at offset * 256 + c.at (offset + 1)

/-- The stored byte at an offset as a two's complement number. -/
def Settings.signedAt (c : Settings) (offset : Nat) : Int :=
  if c.at offset < 128 then c.at offset else (c.at offset : Int) - 256

/-! ### The settings (Table 11-6) -/

/-- PACK_LIMIT, mA. -/
def Settings.packLimit (c : Settings) : Nat := bits (c.at16 0) 0 10 * 100

/-- CELLS. -/
def Settings.cells (c : Settings) : Nat := bits (c.at16 0) 12 3

/-- BASE_LOAD, mA. -/
def Settings.baseLoad (c : Settings) : Nat := c.at 2 * 10

/-- V_WARN, mV. -/
def Settings.vWarn (c : Settings) : Nat := c.at 3 * 10 + 2500

/-- V_CUT, mV. -/
def Settings.vCut (c : Settings) : Nat := c.at 4 * 10 + 2500

/-- V_CRIT, mV. -/
def Settings.vCrit (c : Settings) : Nat := c.at 5 * 10 + 2500

/-- V_REARM, mV. -/
def Settings.vRearm (c : Settings) : Nat := c.at 6 * 10

/-- V_HYS, mV. -/
def Settings.vHys (c : Settings) : Nat := c.at 7

/-- WARN_DWELL, ms. -/
def Settings.warnDwell (c : Settings) : Nat := c.at 8 * 50

/-- CUT_DWELL, ms. -/
def Settings.cutDwell (c : Settings) : Nat := c.at 9 * 50

/-- REARM_DWELL, ms. -/
def Settings.rearmDwell (c : Settings) : Nat := c.at 10 * 50

/-- OC_CONT, mA. -/
def Settings.ocCont (c : Settings) : Nat := c.at 11 * 250

/-- OC_TRIP_Q, in the units of Q. -/
def Settings.ocTripQ (c : Settings) : Nat := c.at16 12 * 1000

/-- PT_HYS, degrees. -/
def Settings.ptHys (c : Settings) : Nat := bits (c.at 28) 0 4

/-- MT_HYS, degrees. -/
def Settings.mtHys (c : Settings) : Nat := bits (c.at 28) 4 4

/-- PRECHARGE_MS. -/
def Settings.prechargeMs (c : Settings) : Nat := c.at 29 * 10

/-- SERVO_FLOOR, mA. -/
def Settings.servoFloor (c : Settings) : Nat := c.at 30 * 100

/-- SERVO_MARGIN, mA. -/
def Settings.servoMargin (c : Settings) : Nat := c.at 31 * 100

/-- SERVO_CEIL, mA. -/
def Settings.servoCeil (c : Settings) : Nat := c.at 32 * 100

/-- DRIVE_RATED, mA. -/
def Settings.driveRated (c : Settings) : Nat := c.at 33 * 250

/-- DRIVE_FLOOR, mA. -/
def Settings.driveFloor (c : Settings) : Nat := c.at 34 * 250

/-- DRIVE_CEIL, mA. -/
def Settings.driveCeil (c : Settings) : Nat := c.at 35 * 250

/-- WINCH_RATED, mA. -/
def Settings.winchRated (c : Settings) : Nat := c.at 36 * 250

/-- WINCH_FLOOR, mA. -/
def Settings.winchFloor (c : Settings) : Nat := c.at 37 * 250

/-- WINCH_CEIL, mA. -/
def Settings.winchCeil (c : Settings) : Nat := c.at 38 * 250

/-- LIGHTS_FLOOR, mA. -/
def Settings.lightsFloor (c : Settings) : Nat := c.at 39 * 100

/-- LIGHTS_CEIL, mA. -/
def Settings.lightsCeil (c : Settings) : Nat := c.at 40 * 100

/-- REDUCE_THRESH, permille. -/
def Settings.reduceThresh (c : Settings) : Nat := c.at 41 * 10

/-- DRIVE_EN. -/
def Settings.driveEn (c : Settings) : Bool := bit (c.at 42) 0

/-- WINCH_EN. -/
def Settings.winchEn (c : Settings) : Bool := bit (c.at 42) 1

/-- LIGHTS_EN. -/
def Settings.lightsEn (c : Settings) : Bool := bit (c.at 42) 2

/-- WINCH_FIRST. -/
def Settings.winchFirst (c : Settings) : Bool := bit (c.at 42) 3

/-- AUTO_START. -/
def Settings.autoStart (c : Settings) : Bool := bit (c.at 42) 4

/-- DL_TIMEOUT, ms. -/
def Settings.dlTimeout (c : Settings) : Nat := c.at 57 * 10

/-- AP_TIMEOUT, ms. -/
def Settings.apTimeout (c : Settings) : Nat := c.at 58 * 50

/-- MODEL_TAG. -/
def Settings.modelTag (c : Settings) : Nat := c.at 59

/-- RATE, permille per drive step. -/
def Settings.rate (c : Settings) : Nat := c.at16 100

/-- DRAG, permille. -/
def Settings.drag (c : Settings) : Nat := c.at 102 * 10

/-- WINCH_DRIVE_CAP, permille. -/
def Settings.winchDriveCap (c : Settings) : Nat := c.at 103 * 10

/-- GEAR_SHIFT_MAX, permille. -/
def Settings.gearShiftMax (c : Settings) : Nat := c.at 104 * 10

/-- GEAR_LOW_US. -/
def Settings.gearLowUs (c : Settings) : Nat := c.at 105 * 10

/-- GEAR_HIGH_US. -/
def Settings.gearHighUs (c : Settings) : Nat := c.at 106 * 10

/-- SRV3 LOCK_US. -/
def Settings.frontLockUs (c : Settings) : Nat := c.at 127 * 10

/-- SRV3 OPEN_US. -/
def Settings.frontOpenUs (c : Settings) : Nat := c.at 128 * 10

/-- SRV4 LOCK_US. -/
def Settings.rearLockUs (c : Settings) : Nat := c.at 129 * 10

/-- SRV4 OPEN_US. -/
def Settings.rearOpenUs (c : Settings) : Nat := c.at 130 * 10

/-- REAR_SHARE, percent. -/
def Settings.rearShare (c : Settings) : Nat := c.at 131

/-- REAR_FADE, percent. -/
def Settings.rearFade (c : Settings) : Nat := c.at 132

/-- MODE_BAND, permille. -/
def Settings.modeBand (c : Settings) : Nat := c.at 133 * 10

/-- SERVO_SLEW, µs per frame. -/
def Settings.servoSlew (c : Settings) : Nat := bits (c.at 134) 0 6 * 10

/-- REAR_DIR, +1 or −1. -/
def Settings.rearDir (c : Settings) : Int := if bit (c.at 134) 6 then -1 else 1

/-- SERVO_FRAME, ms. -/
def Settings.servoFrameMs (c : Settings) : Nat := if bit (c.at 134) 7 then 10 else 20

/-- PULSES_PER_TURN. -/
def Settings.pulsesPerTurn (c : Settings) : Nat := bits (c.at 135) 0 4

/-- WINCH_RETRIES. -/
def Settings.winchRetries (c : Settings) : Nat := bits (c.at 135) 4 2

/-- LINE_MAX, turns. -/
def Settings.lineMax (c : Settings) : Nat := c.at 136

/-- STALL_I, mA. -/
def Settings.stallI (c : Settings) : Nat := c.at 137 * 250

/-- STALL_T, ms. -/
def Settings.stallT (c : Settings) : Nat := c.at 138 * 10

/-- NO_PULSE_T, ms. -/
def Settings.noPulseT (c : Settings) : Nat := c.at 139 * 50

/-- RETRY_PAUSE, ms. -/
def Settings.retryPause (c : Settings) : Nat := c.at 140 * 10

/-- STARVE_T, ms. -/
def Settings.starveT (c : Settings) : Nat := c.at 141 * 50

/-- DL_WINCH_SPEED, permille. -/
def Settings.dlWinchSpeed (c : Settings) : Nat := c.at 142 * 10

/-- PD_SPEED, permille. -/
def Settings.pdSpeed (c : Settings) : Nat := c.at 143 * 10

/-- TURN_THRESH, permille. -/
def Settings.turnThresh (c : Settings) : Nat := c.at 153 * 10

/-- ARM_NEUTRAL, ms. -/
def Settings.armNeutral (c : Settings) : Nat := c.at 154 * 50

/-- IDLE_SLEEP, s. -/
def Settings.idleSleep (c : Settings) : Nat := c.at 155 * 15

/-- PT_T1..PT_T3, degrees, for `k` in 1..3. -/
def Settings.ptThreshold (c : Settings) (k : Nat) : Int := c.signedAt (13 + k)

/-- MT_T1..MT_T3, degrees, for `k` in 1..3. Table 11-6 marks PT_T1..PT_T3 alone as signed, so these bytes are read
unsigned, which lets every value of their range 0..150 be stored (DEDUCED, log 32). -/
def Settings.mtThreshold (c : Settings) (k : Nat) : Int := c.at (20 + k)

/-- PT_D0..PT_D3, percent. -/
def Settings.ptDerate (c : Settings) (band : Nat) : Nat := c.at (17 + band)

/-- MT_D0..MT_D3, percent. -/
def Settings.mtDerate (c : Settings) (band : Nat) : Nat := c.at (24 + band)

/-- The eighteen bits of ATTN_DEFAULT: fault indexes 0..15 at 156–157, ORDER_DONE and GRANT_LOST in byte 42. -/
def Settings.attnDefault (c : Settings) : BitVec 18 :=
  BitVec.ofNat 18 (c.at16 156 + 65536 * bits (c.at 42) 6 2)

/-- rated_mA of one light output. -/
def Settings.ratedMa (c : Settings) (l : Lamp) : Nat := c.at (144 + l.code) * 10

/-- The essential flag of one light output. -/
def Settings.essential (c : Settings) (l : Lamp) : Bool := bit (c.at 152) l.code

/-! ### Function records (R46) -/

/-- The offset of a function's two-byte record. -/
def Fn.recordAt (f : Fn) : Nat := 43 + 2 * f.code

/-- THROTTLE and STEER are proportional, the other five are switches (Table 3-1). -/
def Fn.proportional : Fn → Bool
  | .throttle => true
  | .steer => true
  | _ => false

/-- The highest value of a switch function other than WINCH, whose lowest is 0 (Table 3-1). -/
def Fn.topCode : Fn → Int
  | .steerMode => 3
  | .gear => 1
  | .diff => 3
  | .scene => 7
  | _ => 1000

/-- The neutral band, permille. -/
def Settings.neutralBand (c : Settings) (f : Fn) : Nat := bits (c.at f.recordAt) 0 5 * 10

/-- The allowed set as stored: whether it names DL. -/
def Settings.storedDl (c : Settings) (f : Fn) : Bool := bit (c.at f.recordAt) 5

/-- The allowed set as stored: whether it names AP. -/
def Settings.storedAp (c : Settings) (f : Fn) : Bool := bit (c.at f.recordAt) 6

/-- The allowed set as stored: whether it names PD. -/
def Settings.storedPd (c : Settings) (f : Fn) : Bool := bit (c.at f.recordAt) 7

/-- The allowed set in use, after the fixed overrides of R46. FS may hold any function (R45). -/
def Settings.allows (c : Settings) (f : Fn) : Holder → Bool
  | .dl => c.storedDl f || f.proportional
  | .ap => c.storedAp f
  | .pd => c.storedPd f && f == .winch
  | .fs => true

/-- The DL channel, 0 for none. -/
def Settings.dlChannel (c : Settings) (f : Fn) : Nat := bits (c.at (f.recordAt + 1)) 0 4

/-- The default holder as stored. -/
def Settings.storedDefault (c : Settings) (f : Fn) : Holder :=
  if bit (c.at (f.recordAt + 1)) 4 then .ap else .dl

/-- The default holder in use: none where it is not in the allowed set after the overrides (R46). -/
def Settings.defaultHolder (c : Settings) (f : Fn) : Option Holder :=
  if c.allows f (c.storedDefault f) then some (c.storedDefault f) else none

/-- Whether the failsafe action in use is HOLD; THROTTLE and WINCH always use NEUTRAL (R46). -/
def Settings.holds (c : Settings) (f : Fn) : Bool :=
  bit (c.at (f.recordAt + 1)) 5 && !(f == .throttle || f == .winch)

/-! ### Channel calibration (R140): two numbers packed as a radio channel pair, then the deadband -/

/-- The offset of the calibration record of channel `ch`, 1..10. -/
def calAt (ch : Nat) : Nat := 60 + 4 * (ch - 1)

/-- center of channel `ch`. -/
def Settings.calCenter (c : Settings) (ch : Nat) : Nat := c.at (calAt ch) * 16 + bits (c.at (calAt ch + 1)) 4 4

/-- half-span of channel `ch`. -/
def Settings.calHalfSpan (c : Settings) (ch : Nat) : Nat :=
  bits (c.at (calAt ch + 1)) 0 4 * 256 + c.at (calAt ch + 2)

/-- deadband of channel `ch`. -/
def Settings.calDeadband (c : Settings) (ch : Nat) : Nat := c.at (calAt ch + 3)

/-! ### Servo records -/

/-- The offset of a servo's four-byte record. -/
def Servo.recordAt (v : Servo) : Nat := 107 + 4 * v.code

/-- min of a servo, µs. -/
def Settings.servoMin (c : Settings) (v : Servo) : Nat := c.at v.recordAt * 10

/-- center of a servo, µs. -/
def Settings.servoCenter (c : Settings) (v : Servo) : Nat := c.at (v.recordAt + 1) * 10

/-- max of a servo, µs. -/
def Settings.servoMax (c : Settings) (v : Servo) : Nat := c.at (v.recordAt + 2) * 10

/-- trim of a servo, µs. -/
def Settings.servoTrim (c : Settings) (v : Servo) : Int := c.signedAt (v.recordAt + 3) * 10

/-! ### Budget consumers (Table 2-1) -/

/-- The floor of a consumer. -/
def Settings.floorOf (c : Settings) : Consumer → Nat
  | .servo => c.servoFloor
  | .drive => c.driveFloor
  | .winch => c.winchFloor
  | .lights => c.lightsFloor

/-- The ceiling of a consumer. -/
def Settings.ceilOf (c : Settings) : Consumer → Nat
  | .servo => c.servoCeil
  | .drive => c.driveCeil
  | .winch => c.winchCeil
  | .lights => c.lightsCeil

/-- The consumers in rank order, rank 0 first (R22). -/
def Settings.rankOrder (c : Settings) : List Consumer :=
  if c.winchFirst then [.servo, .winch, .drive, .lights] else [.servo, .drive, .winch, .lights]

/-- The rank of a consumer (R22). -/
def Settings.rankOf (c : Settings) : Consumer → Nat
  | .servo => 0
  | .winch => if c.winchFirst then 1 else 2
  | .drive => if c.winchFirst then 2 else 1
  | .lights => 3

/-- The line limit in pulses, LINE_MAX × PULSES_PER_TURN (section 5.1). -/
def Settings.lineLimit (c : Settings) : Nat := c.lineMax * c.pulsesPerTurn

/-! ### Scene entries (R120): three bytes each -/

/-- The fields of one scene-table entry; mode and follow source keep their stored codes, so that an entry which is
not in use may hold any code (R120). -/
structure SceneEntry where
  mode : Nat
  level : Nat
  period : Nat
  phase : Nat
  follow : Nat
deriving DecidableEq, Repr

/-- A scene entry read from its three bytes (Table 11-6). -/
def sceneEntryOf (b1 b2 b3 : Nat) : SceneEntry :=
  { mode := bits b1 0 2, phase := bits b1 2 1, follow := bits b1 3 3, level := bits b1 6 2 * 256 + b2, period := b3 }

/-- The offset of scene entry (s, o) in the image. -/
def sceneAt (scene output : Nat) : Nat := 158 + 3 * (8 * scene + output)

/-- Scene entry (s, o) of a configuration. -/
def Settings.sceneEntry (c : Settings) (scene output : Nat) : SceneEntry :=
  sceneEntryOf (c.at (sceneAt scene output)) (c.at (sceneAt scene output + 1)) (c.at (sceneAt scene output + 2))

/-- Whether an entry satisfies the level, period and follow-source checks of R120 (in that order). -/
def SceneEntry.levelOk (e : SceneEntry) : Bool := e.level ≤ 1000

/-- A BLINK entry's period lies in 2..20 (R120). -/
def SceneEntry.periodOk (e : SceneEntry) : Bool := e.mode != 2 || (2 ≤ e.period && e.period ≤ 20)

/-- A FOLLOW entry's follow source is one of the six (R120). -/
def SceneEntry.followOk (e : SceneEntry) : Bool := e.mode != 3 || e.follow ≤ 5

/-! ### The check of R163

Each field's range is one entry: the offset of the byte that holds its first bit, how many bytes it stands on, and
whether its value is in range. Each relation is one entry at the offset of the field it reports (log 9). -/

/-- One field's range check. -/
structure RangeCheck where
  offset : Nat
  width : Nat
  ok : Bool
deriving DecidableEq, Repr

/-- One relation check, at the offset of the field it reports. -/
structure RelationCheck where
  offset : Nat
  ok : Bool
deriving DecidableEq, Repr

/-- `lo ≤ n ≤ hi`. -/
def within (lo n hi : Nat) : Bool := lo ≤ n && n ≤ hi

/-- `lo ≤ n ≤ hi` for integers. -/
def withinInt (lo n hi : Int) : Bool := lo ≤ n && n ≤ hi

/-- Ranges of Tables 9-2 and 2-2 (offsets 0..42). -/
def packRanges (c : Settings) : List RangeCheck :=
  [ ⟨0, 2, within 5000 c.packLimit 60000⟩, ⟨0, 1, within 2 c.cells 4⟩, ⟨2, 1, within 0 c.baseLoad 500⟩,
    ⟨3, 1, within 2500 c.vWarn 4500⟩, ⟨4, 1, within 2500 c.vCut 4500⟩, ⟨5, 1, within 2500 c.vCrit 4500⟩,
    ⟨6, 1, within 0 c.vRearm 1000⟩, ⟨8, 1, within 50 c.warnDwell 12750⟩, ⟨9, 1, within 50 c.cutDwell 12750⟩,
    ⟨10, 1, within 50 c.rearmDwell 12750⟩, ⟨11, 1, within 1000 c.ocCont 60000⟩,
    ⟨12, 2, within 1000 c.ocTripQ 1000000⟩ ] ++
  [1, 2, 3].map (fun k => ⟨13 + k, 1, withinInt 0 (c.ptThreshold k) 150⟩) ++
  [0, 1, 2, 3].map (fun b => ⟨17 + b, 1, within 0 (c.ptDerate b) 100⟩) ++
  [1, 2, 3].map (fun k => ⟨20 + k, 1, withinInt 0 (c.mtThreshold k) 150⟩) ++
  [0, 1, 2, 3].map (fun b => ⟨24 + b, 1, within 0 (c.mtDerate b) 100⟩) ++
  [ ⟨28, 1, within 1 c.ptHys 15⟩, ⟨28, 1, within 1 c.mtHys 15⟩, ⟨29, 1, within 50 c.prechargeMs 1000⟩,
    ⟨30, 1, within 0 c.servoFloor 10000⟩, ⟨31, 1, within 0 c.servoMargin 2000⟩, ⟨32, 1, within 500 c.servoCeil 10000⟩,
    ⟨33, 1, within 1000 c.driveRated 60000⟩, ⟨34, 1, within 0 c.driveFloor 60000⟩, ⟨35, 1, within 0 c.driveCeil 60000⟩,
    ⟨36, 1, within 1000 c.winchRated 30000⟩, ⟨37, 1, within 0 c.winchFloor 30000⟩, ⟨38, 1, within 0 c.winchCeil 30000⟩,
    ⟨39, 1, within 0 c.lightsFloor 8000⟩, ⟨40, 1, within 0 c.lightsCeil 8000⟩, ⟨41, 1, within 0 c.reduceThresh 1000⟩ ]

/-- Ranges of the function records (R46, R174), the link times (R49, R54) and the calibration records (R140). -/
def linkRanges (c : Settings) : List RangeCheck :=
  Fn.all.flatMap (fun f =>
    [⟨f.recordAt, 1, within 0 (c.neutralBand f) 300⟩, ⟨f.recordAt + 1, 1, within 0 (c.dlChannel f) 10⟩]) ++
  [⟨57, 1, within 50 c.dlTimeout 2000⟩, ⟨58, 1, within 100 c.apTimeout 5000⟩] ++
  [1, 2, 3, 4, 5, 6, 7, 8, 9, 10].flatMap (fun ch =>
    [⟨calAt ch, 2, within 512 (c.calCenter ch) 3583⟩, ⟨calAt ch + 1, 2, within 100 (c.calHalfSpan ch) 2047⟩])

/-- Ranges of Tables 4-1 and 4-2 (offsets 100..134). -/
def driveRanges (c : Settings) : List RangeCheck :=
  [ ⟨100, 2, within 1 c.rate 1000⟩, ⟨102, 1, within 0 c.drag 1000⟩, ⟨103, 1, within 0 c.winchDriveCap 1000⟩,
    ⟨104, 1, within 0 c.gearShiftMax 1000⟩, ⟨105, 1, within 500 c.gearLowUs 2500⟩,
    ⟨106, 1, within 500 c.gearHighUs 2500⟩ ] ++
  Servo.all.flatMap (fun v =>
    [ ⟨v.recordAt, 1, within 500 (c.servoMin v) 2500⟩, ⟨v.recordAt + 1, 1, within 500 (c.servoCenter v) 2500⟩,
      ⟨v.recordAt + 2, 1, within 500 (c.servoMax v) 2500⟩, ⟨v.recordAt + 3, 1, withinInt (-200) (c.servoTrim v) 200⟩ ]) ++
  [ ⟨127, 1, within 500 c.frontLockUs 2500⟩, ⟨128, 1, within 500 c.frontOpenUs 2500⟩,
    ⟨129, 1, within 500 c.rearLockUs 2500⟩, ⟨130, 1, within 500 c.rearOpenUs 2500⟩,
    ⟨131, 1, within 0 c.rearShare 100⟩, ⟨132, 1, within 0 c.rearFade 100⟩, ⟨133, 1, within 0 c.modeBand 1000⟩,
    ⟨134, 1, within 0 c.servoSlew 500⟩ ]

/-- Ranges of Tables 5-1, 6-1 and 9-1 (offsets 135..155). -/
def winchRanges (c : Settings) : List RangeCheck :=
  [ ⟨135, 1, within 1 c.pulsesPerTurn 8⟩, ⟨136, 1, within 1 c.lineMax 255⟩, ⟨137, 1, within 1000 c.stallI 30000⟩,
    ⟨138, 1, within 50 c.stallT 2000⟩, ⟨139, 1, within 100 c.noPulseT 5000⟩, ⟨140, 1, within 100 c.retryPause 2000⟩,
    ⟨141, 1, within 100 c.starveT 10000⟩, ⟨142, 1, within 100 c.dlWinchSpeed 1000⟩, ⟨143, 1, within 100 c.pdSpeed 1000⟩ ] ++
  Lamp.all.map (fun l => ⟨144 + l.code, 1, within 0 (c.ratedMa l) 1000⟩) ++
  [ ⟨153, 1, within 0 c.turnThresh 1000⟩, ⟨154, 1, within 100 c.armNeutral 5000⟩, ⟨155, 1, within 0 c.idleSleep 3600⟩ ]

/-- Ranges of one scene entry (R120): the level stands on the first two bytes, the follow source on the first, the
period on the third. -/
def sceneRanges (c : Settings) (scene output : Nat) : List RangeCheck :=
  let e := c.sceneEntry scene output
  [⟨sceneAt scene output, 2, e.levelOk⟩, ⟨sceneAt scene output, 1, e.followOk⟩, ⟨sceneAt scene output + 2, 1, e.periodOk⟩]

/-- Every range check of the image, in offset order. -/
def rangeChecks (c : Settings) : List RangeCheck :=
  packRanges c ++ linkRanges c ++ driveRanges c ++ winchRanges c ++
    (List.range 8).flatMap (fun s => (List.range 8).flatMap (fun o => sceneRanges c s o))

/-- The function-record relations of R46, at the field each one names. -/
def fnRelations (c : Settings) (f : Fn) : List RelationCheck :=
  [ ⟨f.recordAt, !c.storedPd f || f == .winch⟩, ⟨f.recordAt, c.storedDl f || !f.proportional⟩,
    ⟨f.recordAt + 1, if c.storedDefault f == .ap then c.storedAp f else c.storedDl f⟩,
    ⟨f.recordAt + 1, c.dlChannel f != 0 || !f.proportional⟩ ]

/-- Every relation check of R163, in offset order. A floor above its ceiling reports the floor (R23); the other pairs
report the later field. -/
def relationChecks (c : Settings) : List RelationCheck :=
  [ ⟨4, c.vCut + 50 ≤ c.vWarn⟩, ⟨5, c.vCrit + 50 ≤ c.vCut⟩, ⟨15, c.ptThreshold 1 < c.ptThreshold 2⟩,
    ⟨16, c.ptThreshold 2 < c.ptThreshold 3⟩, ⟨22, c.mtThreshold 1 < c.mtThreshold 2⟩,
    ⟨23, c.mtThreshold 2 < c.mtThreshold 3⟩, ⟨30, c.servoFloor ≤ c.servoCeil⟩, ⟨34, c.driveFloor ≤ c.driveCeil⟩,
    ⟨37, c.winchFloor ≤ c.winchCeil⟩, ⟨39, c.lightsFloor ≤ c.lightsCeil⟩ ] ++
  Fn.all.flatMap (fnRelations c) ++
  [1, 2, 3, 4, 5, 6, 7, 8, 9, 10].map (fun ch => ⟨calAt ch + 3, c.calDeadband ch < c.calHalfSpan ch⟩) ++
  Servo.all.flatMap (fun v =>
    [⟨v.recordAt + 1, c.servoMin v < c.servoCenter v⟩, ⟨v.recordAt + 2, c.servoCenter v < c.servoMax v⟩])

/-- The lowest offset of a list, if it has one. -/
def lowest (offsets : List Nat) : Option Nat := offsets.foldl (fun acc n => some (acc.elim n (min n))) none

/-- The bad field at the lowest image offset, with its reason; RANGE where both a range and a relation fail there
(R163). -/
def firstBad (c : Settings) : Option (Nat × FieldReason) :=
  let badRange := lowest (((rangeChecks c).filter (fun k => !k.ok)).map (·.offset))
  let badRelation := lowest (((relationChecks c).filter (fun k => !k.ok)).map (·.offset))
  match badRange, badRelation with
  | none, none => none
  | some a, none => some (a, .range)
  | none, some b => some (b, .relation)
  | some a, some b => if a ≤ b then some (a, .range) else some (b, .relation)

/-- The lowest offset of a field that stands on a byte of `offset .. offset+len-1` and lies outside its own range
(R163, CFG_WRITE). -/
def firstBadTouched (c : Settings) (offset len : Nat) : Option Nat :=
  lowest (((rangeChecks c).filter
    (fun k => !k.ok && k.offset < offset + len && offset < k.offset + k.width)).map (·.offset))

/-- The bytes with `data` written from `offset` on. -/
def Settings.write (c : Settings) (offset : Nat) (data : List Byte) : Settings :=
  ⟨c.bytes.take offset ++ data ++ c.bytes.drop (offset + data.length)⟩

/-- The 352 bytes as CFG_READ and the store see them: the 350 bytes, then their CRC-16 most significant byte first
(R163, R174). -/
def Settings.withCrc (c : Settings) : List Byte := c.bytes ++ word16 (crc16 c.bytes).toNat

end Sys2Proof.Machine
end

