-- ==== Sys2Proof/Syntax.lean ====
section
/-! DEFINITION. The commands of the block: one constructor per row of spec/opcode_table.json, in the table's order,
each with the operands its rule gives it. A command of the accessory port carries the bytes written after its command
byte, exactly as the bus delivers them (R147), so that a wrong length is part of the command. A command that names a
timer's expiry is the moment of that expiry (log 2). -/

namespace Sys2Proof

open Sys2Proof.Machine

/-- What a RESET carries: the level of ADDR when the soft reset ends, at the moment it is taken (R146, log 22), and the bytes
written after its command byte. -/
structure ResetParams where
  strap : Bool
  bytes : List Byte
deriving DecidableEq, Repr

/-- A command of the CH-62. -/
inductive Instr
  /-- POWER_ON_RESET (R14, R155, R165). `strap` is the level of ADDR at the end of the reset (R146). -/
  | powerOnReset (strap : Bool)
  /-- BROWN_OUT_RESET (R14, R155). `strap` as above. -/
  | brownOutReset (strap : Bool)
  /-- PIN_RESET (R14, R155). `strap` as above. -/
  | pinReset (strap : Bool)
  /-- SAMPLE_SET (R1 to R8). `raw` is the sample of each input, before the calibration block and the clamp of R1. -/
  | sampleSet (raw : PerQuantity Int)
  /-- WARN_ENTRY_COMPLETE (R7, R8). -/
  | warnEntryComplete
  /-- WARN_EXIT_COMPLETE (R7, R8). -/
  | warnExitComplete
  /-- CUT_TIMER_COMPLETE (R7, R9). -/
  | cutTimerComplete
  /-- CRIT_TIMER_COMPLETE (R7, R12). -/
  | critTimerComplete
  /-- REARM_TIMER_COMPLETE (R7, R11). -/
  | rearmTimerComplete
  /-- OC_TRIP_ASSERT (R10, R19). -/
  | ocTripAssert
  /-- OC_TRIP_RELEASE (R10). -/
  | ocTripRelease
  /-- PRECHARGE_EXPIRY (R18). -/
  | prechargeExpiry
  /-- BUDGET_PERIOD (R15, R16, R29 to R37, R44). -/
  | budgetPeriod
  /-- SERVO_SHORT (R37). -/
  | servoShort
  /-- DRIVE_STEP (R68 to R77). -/
  | driveStep
  /-- SERVO_FRAME (R81 to R88). -/
  | servoFrame
  /-- WINCH_STEP (R96 to R112). -/
  | winchStep
  /-- ORDER_TIMEOUT (R108). -/
  | orderTimeout
  /-- ORDER_STARVED (R112). -/
  | orderStarved
  /-- RETRY_PAUSE_END (R110). -/
  | retryPauseEnd
  /-- CURRENT_CHECK_STALL (R109 to R111). -/
  | currentCheckStall
  /-- DRUM_CHECK_STALL (R109 to R111). -/
  | drumCheckStall
  /-- DRUM_PULSE (R93, R95, R107). -/
  | drumPulse
  /-- BENCH_DRUM_PULSE (R168). -/
  | benchDrumPulse
  /-- LIGHT_FRAME_BOUNDARY (R121 to R133). -/
  | lightFrameBoundary
  /-- RADIO_FRAME (R137 to R143). `bytes` are the 19 bytes of the complete frame, byte 1 first. -/
  | radioFrame (bytes : List Byte)
  /-- FRAMING_ERROR (R136). -/
  | framingError
  /-- LINK_GAP_TIMEOUT (R136). -/
  | linkGapTimeout
  /-- REPLY_TIMER_EXPIRY (R142, R143). -/
  | replyTimerExpiry
  /-- REPLY_SENT (R143). -/
  | replySent
  /-- DL_FRESHNESS_EXPIRY (R49, R50). -/
  | dlFreshnessExpiry
  /-- AP_LEASE_EXPIRY (R54). `f` is the function whose lease expires. -/
  | apLeaseExpiry (f : Fn)
  /-- PENDANT_EDGE (R144). `low` is the level of the line after the edge; low means pressed. -/
  | pendantEdge (line : PendantLine) (low : Bool)
  /-- PENDANT_SETTLE_EXPIRY (R144, R145). -/
  | pendantSettleExpiry (line : PendantLine)
  /-- WAKE_TIMER_EXPIRY (R162). -/
  | wakeTimerExpiry
  /-- ARMING_TIMER_EXPIRY (R160). -/
  | armingTimerExpiry
  /-- IDLE_SLEEP_EXPIRY (R161). -/
  | idleSleepExpiry
  /-- LOAD_END (R158, R159). -/
  | loadEnd
  /-- STORE_END (R164). `readBack` is the image as the RSC reads it back, 352 bytes. -/
  | storeEnd (readBack : List Byte)
  /-- ACP_UNKNOWN_WRITE (R147). `bytes` are all bytes of the write, the command byte first. -/
  | acpUnknownWrite (bytes : List Byte)
  /-- STATUS, command byte 0x01 (R149). -/
  | status (params : List Byte)
  /-- READ, 0x02 (R150). -/
  | read (params : List Byte)
  /-- READ_CAUSE, 0x03 (R155). -/
  | readCause (params : List Byte)
  /-- FAULT_NEXT, 0x04 (R152). -/
  | faultNext (params : List Byte)
  /-- FAULT_ACK, 0x05 (R152). -/
  | faultAck (params : List Byte)
  /-- ATTN_MASK, 0x06 (R154). -/
  | attnMask (params : List Byte)
  /-- LOCKOUT_CLEAR, 0x07 (R13). -/
  | lockoutClear (params : List Byte)
  /-- HALT: RUNCTL, 0x10, whose highest flag is HALT (R157). -/
  | halt (params : List Byte)
  /-- SLEEP: RUNCTL whose highest flag is SLEEP (R157, R161). -/
  | sleep (params : List Byte)
  /-- BENCH_DRY: RUNCTL whose highest flag is BENCH_DRY (R157, R166). -/
  | benchDry (params : List Byte)
  /-- BENCH_WET: RUNCTL whose highest flag is BENCH_WET (R157, R166). -/
  | benchWet (params : List Byte)
  /-- LOAD: RUNCTL with LOAD as its highest flag, with or without START (R157, R158). -/
  | load (params : List Byte)
  /-- START: RUNCTL with START alone (R157, R159). -/
  | start (params : List Byte)
  /-- RESET, 0x11 (R165). -/
  | reset (params : ResetParams)
  /-- CFG_READ, 0x12 (R163). -/
  | cfgRead (params : List Byte)
  /-- CFG_WRITE, 0x13 (R163). -/
  | cfgWrite (params : List Byte)
  /-- CFG_CHECK, 0x14 (R163). -/
  | cfgCheck (params : List Byte)
  /-- CFG_STORE, 0x15 (R164). -/
  | cfgStore (params : List Byte)
  /-- CLAIM, 0x20 (R56). -/
  | claim (params : List Byte)
  /-- SET, 0x21 (R57). -/
  | set (params : List Byte)
  /-- CLAIM_SET, 0x22 (R58). -/
  | claimSet (params : List Byte)
  /-- RELEASE, 0x23 (R59). -/
  | release (params : List Byte)
  /-- REFRESH, 0x24 (R60). -/
  | refresh (params : List Byte)
  /-- WINCH_POST, 0x30 (R103). -/
  | winchPost (params : List Byte)
  /-- WINCH_CANCEL, 0x31 (R114). -/
  | winchCancel (params : List Byte)
  /-- WINCH_REAP, 0x32 (R115). -/
  | winchReap (params : List Byte)
  /-- WINCH_RESUME, 0x33 (R116). -/
  | winchResume (params : List Byte)
  /-- WINCH_ZERO, 0x34 (R94). -/
  | winchZero (params : List Byte)
  /-- SCENE_WRITE, 0x38 (R122). -/
  | sceneWrite (params : List Byte)
  /-- BENCH_INJECT, 0x40 (R168). -/
  | benchInject (params : List Byte)
  /-- BENCH_STALL, 0x41 (R169). -/
  | benchStall (params : List Byte)
  /-- LINK_BYTE_RECEIVED (R136). -/
  | linkByteReceived (b : Byte)
  /-- RUNCTL_NO_FLAG: RUNCTL with none of its six flags set (R157). -/
  | runctlNoFlag (params : List Byte)
deriving DecidableEq, Repr

end Sys2Proof
end

