-- ==== Sys2Proof/Machine/State.lean ====
section
/-! DEFINITION. The state of the CH-62, block by block as 00_scope.md's Block overview lists them, the machine right
after a full reset, and the reasons a step can stop. Every time is in microseconds on the model's clock `now` (log 2):
a running one-shot timer is held as the time it expires, a dwell or stall timer as the time it started. -/

namespace Sys2Proof.Machine

/-- The calibration block (R1, R164): tap gains, shunt offset and gain, thermistor offsets (log 4). -/
structure Calibration where
  tap1Gain : Int
  tap2Gain : Int
  tap3Gain : Int
  tap4Gain : Int
  packGain : Int
  shuntOffset : Int
  shuntGain : Int
  servoOffset : Int
  servoGain : Int
  packTempOffset : Int
  motorTempOffset : Int
deriving DecidableEq, Repr

/-- What the configuration store holds (R158, R164): nothing yet, the partly written image of a store cut short, or
352 bytes written by a store. -/
inductive StoreImage
  | neverWritten
  | partlyWritten
  | written (bytes : List Byte)
deriving DecidableEq, Repr

/-- The levels of the input lines that are sampled or compared later (00_scope.md, Signals). -/
structure Lines where
  /-- OC_TRIP asserted. -/
  ocTrip : Bool
  /-- PEND_IN low. -/
  pendIn : Bool
  /-- PEND_OUT low. -/
  pendOut : Bool
  /-- ADDR high, as it stood at the end of the latest reset: no command changes it otherwise (log 22). -/
  addr : Bool
deriving DecidableEq, Repr

/-- One measured quantity (R1, R2, R168, R171): its window, oldest first; its published mean, absent while not ready;
whether it is substituted; whether its window is to be refilled at the next sample set. -/
structure Channel where
  window : List Int
  published : Option Int
  substituted : Bool
  refill : Bool
deriving DecidableEq, Repr

/-- The pack monitor. -/
structure Pmon where
  chan : PerQuantity Channel
  /-- The CELLS cell voltages of the latest derivation, cell 1 first (R3). -/
  cells : List Int
  /-- The published Vmin, absent until first published (R3). -/
  vmin : Option Int
  /-- The TAP fault (R4). -/
  tapFault : Bool
  /-- PACK_SENSOR (R5). -/
  packSensor : Bool
  /-- MOTOR_SENSOR (R5). -/
  motorSensor : Bool
  /-- The pack band, 0..3 (R6). -/
  packBand : Nat
  /-- The motor band, 0..3 (R6). -/
  motorBand : Nat
  /-- When the next sample set falls (R1). -/
  nextSample : Nat
deriving DecidableEq, Repr

/-- The protection controller. -/
structure Prot where
  st : ProtState
  /-- Present in CUTOFF only. -/
  cause : Option CutCause
  /-- Present while the cause is HARD_TRIP. -/
  tripTime : Option Nat
  /-- The start time of each dwell timer that runs (R7). -/
  dwell : PerDwell (Option Nat)
  /-- Whether the THROTTLE value has been 0 at every moment since the previous Vmin publication (R11). -/
  throttleRested : Bool
  /-- The over-current accumulator (R15). -/
  q : Nat
  /-- The LIMIT flag (R16). -/
  limit : Bool
  /-- The pack switch (R17 to R20). -/
  sw : SwitchState
  /-- When the precharge timer expires, while it runs. -/
  prechargeEnd : Option Nat
deriving DecidableEq, Repr

/-- What one run of stages 1 to 7 gives (R42), beside the demands and grants. -/
structure BudgetResult where
  a : Nat
  /-- A0 after stage 3. -/
  a0 : Nat
  kv : Nat
  kt : Nat
  /-- The LIMIT flag as stage 4 read it. -/
  limitRead : Bool
  /-- DRIVE and WINCH were excluded. -/
  excluded : Bool
  leftover : Nat
  demand : PerConsumer Nat
  grant : PerConsumer Nat
deriving DecidableEq, Repr

/-- The budget unit. -/
structure Bgt where
  rank : PerConsumer Nat
  floor : PerConsumer Nat
  ceiling : PerConsumer Nat
  /-- The published results (R29, R38). -/
  pub : BudgetResult
  /-- The trial results of BENCH-DRY (R44), absent elsewhere. -/
  trial : Option BudgetResult
  /-- Starved times, ms (R36). -/
  starved : PerConsumer Nat
  shortCount : Nat
  clearCount : Nat
  /-- SERVO_SHORT is active (R37). -/
  servoShort : Bool
  nextPeriod : Nat
deriving DecidableEq, Repr

/-- One function record (R45). -/
structure FnRecord where
  holder : Holder
  value : Int
  seq : Nat
  /-- When the AP lease expires, while it runs. -/
  lease : Option Nat
  reacquire : Bool
deriving DecidableEq, Repr

/-- The grant table. -/
structure Grt where
  fns : PerFn FnRecord
  link : LinkState
  /-- When the radio freshness timer expires, while it runs (R49). -/
  freshEnd : Option Nat
  /-- The last decoded radio value of each function (R51). -/
  lastDecoded : PerFn (Option Int)
  /-- The lost set (R63). -/
  lost : PerFn Bool
  /-- AP_LOST is active (R54). -/
  apLost : Bool
deriving DecidableEq, Repr

/-- The drive controller (section 4.1). -/
structure Drv where
  target : Int
  applied : Int
  dir : DriveDir
  budgetCap : Nat
  thermalCap : Nat
  /-- The interlock cap formed at the latest drive step, in force or not (R70, section 4.1). -/
  interlockCap : Nat
  cap : Nat
  interlock : Bool
  dragBrake : Bool
  brake : Bool
  reverse : Bool
  gear : Gear
  pendingGear : Option Gear
  /-- The DRIVE demand last published (R25). -/
  demand : Nat
  /-- DRV_PWM: the duty it carries, permille (R73). -/
  pwm : Nat
  /-- DRV_DIR is at the reverse level (R73). -/
  dirReverse : Bool
  /-- DRV_BRK: the duty it carries, absent while the line is released (R73). -/
  brk : Option Nat
  nextStep : Nat
deriving DecidableEq, Repr

/-- One servo record (section 4.2), and the pulse its line was last given: absent when the line is not pulsed. -/
structure ServoRecord where
  aim : Option Int
  emitted : Option Int
  boundHit : Bool
  line : Option Int
deriving DecidableEq, Repr

/-- The steering controller. -/
structure Str where
  mode : SteerMode
  pendingMode : Option SteerMode
  /-- Whether the latest frame was active (R92). -/
  active : Bool
  steerUsed : Int
  shareEff : Nat
  front : Int
  rear : Int
  servo : PerServo ServoRecord
  nextFrame : Nat
deriving DecidableEq, Repr

/-- What an ACTIVE order carries (section 5.4). -/
structure OrderRun where
  startTime : Nat
  pulseCount : Nat
  /-- Present during a retry pause. -/
  pauseStart : Option Nat
  /-- The current check's timer (R109). -/
  currentTimer : Option Nat
  /-- The drum check's timer (R109). -/
  drumTimer : Option Nat
  /-- The order became ACTIVE with the stall arm set (R169). -/
  armed : Bool
deriving DecidableEq, Repr

/-- Where an order is in its life; an EMPTY slot holds no order at all. -/
inductive OrderPhase
  | posted
  | active (run : OrderRun)
  | done
  | failed
deriving DecidableEq, Repr

/-- An order record (Table 5-2). -/
structure Order where
  kind : OrderKind
  speed : Nat
  turns : Option Nat
  /-- In units of 100 ms. -/
  timeout : Nat
  noRetry : Bool
  phase : OrderPhase
  result : Option OrderResult
  turnsDone : Nat
  retriesUsed : Nat
deriving DecidableEq, Repr

/-- The winch controller. -/
structure Wch where
  linePos : Int
  referenced : Bool
  dir : WinchDir
  speedCap : Nat
  /-- The applied winch duty. -/
  duty : Int
  moving : Bool
  /-- The direct stall hold is present (R111). -/
  stallHold : Bool
  /-- The two direct stall timers (R109). -/
  directCurrent : Option Nat
  directDrum : Option Nat
  stalledSign : Option Int
  /-- The latest counted drum pulse (R93). -/
  lastPulse : Option Nat
  slots : PerSlot (Option Order)
  postList : List (Fin 4)
  lastPosted : Fin 4
  runFlag : Bool
  /-- The WINCH demand last published (R26). -/
  demand : Nat
  /-- WCH_PWM: the duty it carries, permille (R98). -/
  pwm : Nat
  /-- The stall arm (R169). -/
  stallArm : Bool
  /-- The injected drum pulse rate, per second (R168). -/
  drumRate : Nat
  /-- When the next injected drum pulse falls, while the rate is above 0. -/
  nextBenchPulse : Option Nat
  nextStep : Nat
deriving DecidableEq, Repr

/-- One light output's figures (section 6.3), and the duty its line carries (R133). -/
structure LampRecord where
  base : Nat
  lit : Bool
  duty : Nat
  draw : Nat
  line : Nat
deriving DecidableEq, Repr

/-- The latched inputs of a light frame boundary (R124). -/
structure LightInputs where
  grant : Nat
  prot : ProtState
  run : RunState
  lightsEn : Bool
  steer : Int
  brake : Bool
  reverse : Bool
  winchRun : Bool
deriving DecidableEq, Repr

/-- The light controller. -/
structure Lgt where
  /-- The frame table: the 192 bytes of the scene table, or empty (R121). -/
  frameTable : List Byte
  pendingScene : Nat
  activeScene : Nat
  latched : Option LightInputs
  /-- The blink counter, 0..4,294,967,295 (R126). -/
  blink : Nat
  /-- The six follow sources at the latest boundary, in the order of their codes (R125). -/
  follow : List Bool
  lamp : PerLamp LampRecord
  /-- The lights were off by R128 at the latest boundary. -/
  off : Bool
  /-- The LIGHTS demand last published (R28, R128). -/
  pubDemand : Nat
  /-- The demand the LIGHTS block reports: the published one, or the trial demand in BENCH-DRY (R128). -/
  demand : Nat
  essentialDemand : Nat
  scale : Nat
  essentialScale : Nat
  reduced : Bool
  forced : Bool
  trimmed : Bool
  excess : Nat
  nextFrame : Nat
deriving DecidableEq, Repr

/-- The frame assembler (R136): HUNTING, or COLLECTING with the bytes so far. -/
inductive Assembler
  | hunting
  | collecting (bytes : List Byte)
deriving DecidableEq, Repr

/-- The reply transmitter (R143). -/
inductive ReplyTx
  | idle
  | waiting (counter : Nat) (expiry : Nat)
  | sending (bytes : List Byte) (endTime : Nat)
deriving DecidableEq, Repr

/-- The radio link receiver. -/
structure Dlr where
  asm : Assembler
  /-- When the 500 µs gap expires, while COLLECTING. -/
  gapEnd : Option Nat
  lastCounter : Option Nat
  /-- The ten raw channel values, channel 1 first. -/
  raw : Option (List Nat)
  reply : ReplyTx
deriving DecidableEq, Repr

/-- The pendant input block (R144). -/
structure Pnd where
  inPressed : Bool
  outPressed : Bool
  inSettle : Option Nat
  outSettle : Option Nat
deriving DecidableEq, Repr

/-- The cause record (R155). -/
structure Causes where
  powerOn : Bool
  brownOut : Bool
  pin : Bool
  soft : Bool
deriving DecidableEq, Repr

/-- The accessory port. -/
structure Acp where
  /-- The response buffer (R148). -/
  status : Status
  data : List Byte
  /-- The latched flags of the fault set, bit n for index n (R151). -/
  latched : BitVec 16
  /-- The attention mask (R154). -/
  mask : BitVec 18
  orderDone : Bool
  causes : Causes
  /-- The ADDR level sampled at the end of the latest reset (R146). -/
  addrHigh : Bool
deriving DecidableEq, Repr

/-- The bench save (R166). The last four are used on leaving BENCH-DRY only. -/
structure BenchSave where
  st : ProtState
  cause : Option CutCause
  tripTime : Option Nat
  q : Nat
  limit : Bool
  packBand : Nat
  motorBand : Nat
  linePos : Int
  referenced : Bool
  winchDir : WinchDir
  gear : Gear
deriving DecidableEq, Repr

/-- A LOAD in flight: when it ends, and whether it is the power-up load of R165. -/
structure LoadRun where
  endTime : Nat
  powerUp : Bool
deriving DecidableEq, Repr

/-- The run-state controller. -/
structure Rsc where
  run : RunState
  startInFlight : Bool
  pendingStart : Bool
  sleepOrigin : Option SleepOrigin
  /-- When the wake timer expires; a wake is in flight exactly while it runs (R162). -/
  wakeEnd : Option Nat
  armingEnd : Option Nat
  idleEnd : Option Nat
  load : Option LoadRun
  /-- When the STORE ends; a store is in flight exactly while this is present (R164). -/
  storeEnd : Option Nat
  work : Settings
  valid : Bool
  store : StoreImage
  /-- The calibration block in the store, and as read at the latest full reset (R164). -/
  calStored : Calibration
  cal : Calibration
  save : Option BenchSave
deriving DecidableEq, Repr

/-- The machine. -/
structure State where
  /-- The model's clock, microseconds (log 2). -/
  now : Nat
  lines : Lines
  pmon : Pmon
  prot : Prot
  bgt : Bgt
  grt : Grt
  drv : Drv
  str : Str
  wch : Wch
  lgt : Lgt
  dlr : Dlr
  pnd : Pnd
  acp : Acp
  rsc : Rsc
  /-- The commands waiting, first in first out (log 1). -/
  pending : List Instr
deriving DecidableEq, Repr

/-- Reasons the machine stops. The spec gives the part none: every command has an effect, a refusal status in the
response buffer, or, where its event cannot occur in the present state, no effect. The type is empty, which is safe. -/
inductive Fault
deriving DecidableEq, Repr

/-- Reasons a command has no meaning in the model. -/
inductive Refusal
  /-- Raised by `exec` alone, for a command whose meaning is not written. Safe: nothing is claimed of it. -/
  | notModelled (mnemonic : String)
deriving DecidableEq, Repr

/-! ### The state after a full reset -/

/-- A quantity with an empty window (R1). -/
def Channel.empty : Channel := { window := [], published := none, substituted := false, refill := false }

/-- The pack monitor after a full reset (R1, R2, R6, R14). -/
def Pmon.powerOn (now : Nat) : Pmon :=
  { chan := PerQuantity.build fun _ => Channel.empty, cells := [], vmin := none, tapFault := false,
    packSensor := false, motorSensor := false, packBand := 0, motorBand := 0, nextSample := now + samplePeriod }

/-- The protection controller after a full reset (R14 to R16, R20). -/
def Prot.powerOn : Prot :=
  { st := .normal, cause := none, tripTime := none, dwell := PerDwell.build fun _ => none, throttleRested := true,
    q := 0, limit := false, sw := .opened, prechargeEnd := none }

/-- No current to share, nothing asked, nothing granted (R43). -/
def BudgetResult.zero : BudgetResult :=
  { a := 0, a0 := 0, kv := 0, kt := 0, limitRead := false, excluded := false, leftover := 0,
    demand := PerConsumer.build fun _ => 0, grant := PerConsumer.build fun _ => 0 }

/-- The budget unit after a full reset (R43); ranks, floors and ceilings are 0 until the first period (log 6). -/
def Bgt.powerOn (now : Nat) : Bgt :=
  { rank := PerConsumer.build fun _ => 0, floor := PerConsumer.build fun _ => 0,
    ceiling := PerConsumer.build fun _ => 0, pub := BudgetResult.zero, trial := none,
    starved := PerConsumer.build fun _ => 0, shortCount := 0, clearCount := 0, servoShort := false,
    nextPeriod := now + stepPeriod }

/-- A function record held by FS with its neutral value (R67), its reacquire flag from the default holder (R48). -/
def FnRecord.failsafe (c : Settings) (f : Fn) (seq : Nat) : FnRecord :=
  { holder := .fs, value := 0, seq := seq, lease := none,
    reacquire := f.proportional && c.defaultHolder f == some .dl }

/-- The grant table after a full reset (R67). -/
def Grt.powerOn (c : Settings) : Grt :=
  { fns := PerFn.build fun f => FnRecord.failsafe c f 0, link := .never, freshEnd := none,
    lastDecoded := PerFn.build fun _ => none, lost := PerFn.build fun _ => false, apLost := false }

/-- The drive controller after any reset (R79). -/
def Drv.fresh (now : Nat) : Drv :=
  { target := 0, applied := 0, dir := .none, budgetCap := 0, thermalCap := 0, interlockCap := 0, cap := 0,
    interlock := false, dragBrake := false, brake := false, reverse := false, gear := .low, pendingGear := none, demand := 0, pwm := 0,
    dirReverse := false, brk := none, nextStep := now + stepPeriod }

/-- The steering controller after any reset (R91); the frame period is the one in force at that moment (R81). R91 gives no
value for the STEER value used and for whether the latest frame was active: 0 and no (DESIGN CHOICE, log 6). -/
def Str.fresh (c : Settings) (now : Nat) : Str :=
  { mode := .front, pendingMode := none, active := false, steerUsed := 0, shareEff := c.rearShare, front := 0,
    rear := 0, servo := PerServo.build fun _ => { aim := none, emitted := none, boundHit := false, line := none },
    nextFrame := now + c.servoFrameMs * msec }

/-- The winch controller after a full reset (R118). -/
def Wch.powerOn (now : Nat) : Wch :=
  { linePos := 0, referenced := false, dir := .none, speedCap := 0, duty := 0, moving := false, stallHold := false,
    directCurrent := none, directDrum := none, stalledSign := none, lastPulse := none,
    slots := PerSlot.build fun _ => none, postList := [], lastPosted := 3, runFlag := true, demand := 0, pwm := 0,
    stallArm := false, drumRate := 0, nextBenchPulse := none, nextStep := now + stepPeriod }

/-- The light controller after any reset (R135). -/
def Lgt.fresh (now : Nat) : Lgt :=
  { frameTable := [], pendingScene := 0, activeScene := 0, latched := none, blink := 0,
    follow := [false, false, false, false, false, false],
    lamp := PerLamp.build fun _ => { base := 0, lit := false, duty := 0, draw := 0, line := 0 }, off := true,
    pubDemand := 0, demand := 0, essentialDemand := 0, scale := 1000, essentialScale := 1000, reduced := false,
    forced := false, trimmed := false, excess := 0, nextFrame := now + lightPeriod }

/-- The radio link receiver after any reset (section 7, values after reset). -/
def Dlr.fresh : Dlr := { asm := .hunting, gapEnd := none, lastCounter := none, raw := none, reply := .idle }

/-- The pendant input block after any reset (R144). -/
def Pnd.fresh (now : Nat) : Pnd :=
  { inPressed := false, outPressed := false, inSettle := some (now + settleTime), outSettle := some (now + settleTime) }

/-- The accessory port after a full reset (R146, R148, R153 to R155). -/
def Acp.powerOn (c : Settings) (causes : Causes) (addrHigh : Bool) : Acp :=
  { status := .ok, data := [], latched := 0, mask := c.attnDefault, orderDone := false, causes := causes,
    addrHigh := addrHigh }

/-- The cause record of a power-on (R155). -/
def Causes.ofPowerOn : Causes := { powerOn := true, brownOut := false, pin := false, soft := false }

/-- The run-state controller after a full reset (R156, R158, R165): the power-up load is in flight. -/
def Rsc.powerOn (now : Nat) (store : StoreImage) (cal : Calibration) : Rsc :=
  { run := .loading, startInFlight := false, pendingStart := factorySettings.autoStart, sleepOrigin := none,
    wakeEnd := none, armingEnd := none, idleEnd := none, load := some ⟨now + loadTime, true⟩, storeEnd := none,
    work := factorySettings, valid := false, store := store, calStored := cal, cal := cal, save := none }

/-- The machine at the end of a full reset at time `now`: what survives is the store, the calibration block in it and
the levels of the lines; everything else takes its full-reset value. -/
def State.powerOn (now : Nat) (lines : Lines) (store : StoreImage) (cal : Calibration) (causes : Causes)
    (pending : List Instr) : State :=
  { now := now, lines := lines, pmon := Pmon.powerOn now, prot := Prot.powerOn, bgt := Bgt.powerOn now,
    grt := Grt.powerOn factorySettings, drv := Drv.fresh now, str := Str.fresh factorySettings now,
    wch := Wch.powerOn now, lgt := Lgt.fresh now, dlr := Dlr.fresh, pnd := Pnd.fresh now,
    acp := Acp.powerOn factorySettings causes lines.addr, rsc := Rsc.powerOn now store cal, pending := pending }

/-- A calibration block of zeros (log 6). -/
def Calibration.zero : Calibration :=
  { tap1Gain := 0, tap2Gain := 0, tap3Gain := 0, tap4Gain := 0, packGain := 0, shuntOffset := 0, shuntGain := 0,
    servoOffset := 0, servoGain := 0, packTempOffset := 0, motorTempOffset := 0 }

/-- The machine right after a power-on reset of a part whose store has never been written: OC_TRIP released, the
pendant lines high, ADDR low (log 6), no command waiting. -/
def State.reset : State :=
  State.powerOn 0 { ocTrip := false, pendIn := false, pendOut := false, addr := false } .neverWritten
    Calibration.zero Causes.ofPowerOn []

end Sys2Proof.Machine
end

