-- ==== Sys2Proof/Machine/Updates.lean ====
section
/-! DEFINITION. The one way the operations change the state: replace one block. -/

namespace Sys2Proof.Machine

/-- `s` with its `now` replaced. -/
def State.withNow (s : State) (x : Nat) : State := { s with now := x }

/-- `s` with its `lines` replaced. -/
def State.withLines (s : State) (x : Lines) : State := { s with lines := x }

/-- `s` with its `pmon` replaced. -/
def State.withPmon (s : State) (x : Pmon) : State := { s with pmon := x }

/-- `s` with its `prot` replaced. -/
def State.withProt (s : State) (x : Prot) : State := { s with prot := x }

/-- `s` with its `bgt` replaced. -/
def State.withBgt (s : State) (x : Bgt) : State := { s with bgt := x }

/-- `s` with its `grt` replaced. -/
def State.withGrt (s : State) (x : Grt) : State := { s with grt := x }

/-- `s` with its `drv` replaced. -/
def State.withDrv (s : State) (x : Drv) : State := { s with drv := x }

/-- `s` with its `str` replaced. -/
def State.withStr (s : State) (x : Str) : State := { s with str := x }

/-- `s` with its `wch` replaced. -/
def State.withWch (s : State) (x : Wch) : State := { s with wch := x }

/-- `s` with its `lgt` replaced. -/
def State.withLgt (s : State) (x : Lgt) : State := { s with lgt := x }

/-- `s` with its `dlr` replaced. -/
def State.withDlr (s : State) (x : Dlr) : State := { s with dlr := x }

/-- `s` with its `pnd` replaced. -/
def State.withPnd (s : State) (x : Pnd) : State := { s with pnd := x }

/-- `s` with its `acp` replaced. -/
def State.withAcp (s : State) (x : Acp) : State := { s with acp := x }

/-- `s` with its `rsc` replaced. -/
def State.withRsc (s : State) (x : Rsc) : State := { s with rsc := x }

/-- `s` with its `pending` replaced. -/
def State.withPending (s : State) (x : List Instr) : State := { s with pending := x }

end Sys2Proof.Machine
end

