-- ==== Sys2Proof/Machine/Operands.lean ====
section
/-! DEFINITION. The operand forms of the commands: the parameters of the accessory commands by Table 11-4 (most
significant byte first, R173), the codes of Table 11-3 in both directions, and the fields of a radio frame
(Table 11-1, R172). -/

namespace Sys2Proof.Machine

/-! ### Parameter bytes -/

/-- Parameter byte `i` as a number; the caller has checked the length. -/
def param (ps : List Byte) (i : Nat) : Nat := (ps.getD i 0).toNat

/-- The two-byte unsigned parameter at `i`. -/
def param16 (ps : List Byte) (i : Nat) : Nat := param ps i * 256 + param ps (i + 1)

/-- The two-byte signed parameter at `i`. -/
def paramSigned16 (ps : List Byte) (i : Nat) : Int := beInt [ps.getD i 0, ps.getD (i + 1) 0]

/-- The four-byte signed parameter at `i`. -/
def paramSigned32 (ps : List Byte) (i : Nat) : Int :=
  beInt [ps.getD i 0, ps.getD (i + 1) 0, ps.getD (i + 2) 0, ps.getD (i + 3) 0]

/-! ### Codes of Table 11-3 -/

/-- The function with an id, none above 6. -/
def Fn.ofId (n : Nat) : Option Fn := Fn.all[n]?

/-- The quantity with a BENCH_INJECT code, none for the drum pulse rate and above. -/
def Quantity.ofCode (n : Nat) : Option Quantity := Quantity.all[n]?

/-- The BENCH_INJECT code of the drum pulse rate. -/
def drumRateCode : Nat := 10

/-- The fault-set entry with an index, none above 15. -/
def FaultEntry.ofIndex (n : Nat) : Option FaultEntry := FaultEntry.all[n]?

/-- The block with a number, none above 6 (R150). -/
def ReadBlock.ofNumber (n : Nat) : Option ReadBlock :=
  [ReadBlock.pack, .budget, .grants, .drive, .steer, .winch, .lights][n]?

/-- The order kind with a code. -/
def OrderKind.ofCode (n : Nat) : Option OrderKind := [OrderKind.haul, .payout, .haulTurns, .payoutTurns][n]?

/-- The slot with an index, none above 3. -/
def slotOf (n : Nat) : Option (Fin 4) := if h : n < 4 then some ⟨n, h⟩ else none

/-- The steering mode a STEER_MODE value names (Table 3-1). -/
def SteerMode.ofValue (v : Int) : SteerMode :=
  if v == 1 then .rear else if v == 2 then .counter else if v == 3 then .crab else .front

/-- The gear a GEAR value names (Table 3-1). -/
def Gear.ofValue (v : Int) : Gear := if v == 1 then .high else .low

def ProtState.code : ProtState → Nat
  | .normal => 0
  | .warn => 1
  | .cutoff => 2
  | .lockout => 3

def CutCause.code : CutCause → Nat
  | .lowVolt => 0
  | .hardTrip => 1

def SwitchState.code : SwitchState → Nat
  | .opened => 0
  | .precharging => 1
  | .closed => 2

def RunState.code : RunState → Nat
  | .halted => 0
  | .loading => 1
  | .arming => 2
  | .running => 3
  | .sleep => 4
  | .benchDry => 5
  | .benchWet => 6

def Holder.code : Holder → Nat
  | .dl => 0
  | .ap => 1
  | .pd => 2
  | .fs => 3

def LinkState.code : LinkState → Nat
  | .never => 0
  | .fresh => 1
  | .lost => 2

def DriveDir.code : DriveDir → Nat
  | .forward => 0
  | .backward => 1
  | .none => 2

def WinchDir.code : WinchDir → Nat
  | .haul => 0
  | .payout => 1
  | .none => 2

def Gear.code : Gear → Nat
  | .low => 0
  | .high => 1

def SteerMode.code : SteerMode → Nat
  | .front => 0
  | .rear => 1
  | .counter => 2
  | .crab => 3

def OrderKind.code : OrderKind → Nat
  | .haul => 0
  | .payout => 1
  | .haulTurns => 2
  | .payoutTurns => 3

/-- The order state codes: EMPTY is 0, the code of a slot that holds no order. -/
def OrderPhase.code : OrderPhase → Nat
  | .posted => 1
  | .active _ => 2
  | .done => 3
  | .failed => 4

def OrderResult.code : OrderResult → Nat
  | .ok => 0
  | .stall => 1
  | .starved => 2
  | .timeout => 3
  | .preempted => 4
  | .cancelled => 5
  | .lineEnd => 6

def FieldReason.code : FieldReason → Nat
  | .none => 0
  | .range => 1
  | .relation => 2
  | .notChecked => 3

/-- The status codes of Table 8-1. -/
def Status.code : Status → Nat
  | .ok => 0x00
  | .okClamped => 0x01
  | .busy => 0x10
  | .refusedState => 0x11
  | .notHolder => 0x12
  | .overridden => 0x13
  | .notAllowed => 0x14
  | .badValue => 0x15
  | .queueFull => 0x16
  | .badLength => 0x17
  | .unknown => 0x1F
  | .configField => 0x20

/-- A command with this status has completed (section 8.1). -/
def Status.completes : Status → Bool
  | .ok => true
  | .okClamped => true
  | _ => false

/-- The command bytes of Table 11-4. -/
def commandBytes : List Nat :=
  [0x01, 0x02, 0x03, 0x04, 0x05, 0x06, 0x07, 0x10, 0x11, 0x12, 0x13, 0x14, 0x15, 0x20, 0x21, 0x22, 0x23, 0x24,
    0x30, 0x31, 0x32, 0x33, 0x34, 0x38, 0x40, 0x41]

/-! ### The value ranges of Table 1-1, in BENCH_INJECT and in the clamp of R1 -/

/-- The reading range of a quantity. -/
def Quantity.range : Quantity → Int × Int
  | .packCurrent => (0, 120000)
  | .packTemp => (-55, 200)
  | .motorTemp => (-55, 200)
  | _ => (0, 20000)

/-- The window depth of a quantity. -/
def Quantity.depth : Quantity → Nat
  | .packCurrent => 5
  | .servoCurrent => 5
  | .railVoltage => 1
  | .packTemp => 8
  | .motorTemp => 8
  | _ => 4

/-! ### The radio frame (Table 11-1) -/

/-- The counter of a frame. -/
def frameCounter (bytes : List Byte) : Nat := bits (param bytes 2) 0 4

/-- The FAILSAFE flag of a frame. -/
def frameFailsafe (bytes : List Byte) : Bool := bit (param bytes 2) 4

/-- The REPLY_REQ flag of a frame. -/
def frameReplyReq (bytes : List Byte) : Bool := bit (param bytes 2) 5

/-- The raw values of the channel pair whose three bytes start at byte index `i` (R172). -/
def channelPair (bytes : List Byte) (i : Nat) : List Nat :=
  [param bytes i * 16 + bits (param bytes (i + 1)) 4 4, bits (param bytes (i + 1)) 0 4 * 256 + param bytes (i + 2)]

/-- The ten raw channel values of a frame, channel 1 first (R172). -/
def frameChannels (bytes : List Byte) : List Nat := [3, 6, 9, 12, 15].flatMap (channelPair bytes)

/-- The check byte of a frame is right: the CRC-8 of bytes 2 to 18 (R137). -/
def frameCheckOk (bytes : List Byte) : Bool := crc8 ((bytes.drop 1).take 17) == bytes.getD 18 0

/-- A RUNCTL flag of the parameter byte. -/
def runctlFlag (ps : List Byte) (i : Nat) : Bool := bit (param ps 0) i

/-- The row of a RUNCTL: the single highest flag set (R157), bits 6 and 7 ignored (Table 11-4). -/
def runctlRow (ps : List Byte) : RunctlRow :=
  if runctlFlag ps 0 then .halt
  else if runctlFlag ps 1 then .sleep
  else if runctlFlag ps 2 then .benchDry
  else if runctlFlag ps 3 then .benchWet
  else if runctlFlag ps 4 then .load
  else if runctlFlag ps 5 then .start
  else .noFlag

end Sys2Proof.Machine
end

