-- ==== Sys2Proof/WellFormed.lean ====
section
/-! DEFINITION. The well-formed commands: the operands a command of the part can really carry. The meanings are total
and do not ask for it. -/

namespace Sys2Proof

open Sys2Proof.Machine

/-- The first byte of a write is no command of Table 11-4; a write without a byte takes no command (R147). -/
def unknownWriteOk : List Byte → Bool
  | [] => true
  | b :: _ => !commandBytes.contains b.toNat

/-- The parameter byte of a RUNCTL selects this row (R157); without one, no flag is set. -/
def runctlOk (row : RunctlRow) (params : List Byte) : Bool := runctlRow params == row

/-- A complete frame: 19 bytes, the start byte first (R136). -/
def frameOk (bytes : List Byte) : Bool := bytes.length == 19 && bytes.head? == some 0xC5

/-- An image as the store holds it: 352 bytes (R164). -/
def imageOk (bytes : List Byte) : Bool := bytes.length == 352

/-- The command is one the part can receive. A write of a wrong length is well formed: it is refused by BAD_LENGTH. -/
def Instr.wellFormed : Instr → Bool
  | .powerOnReset _ => true
  | .brownOutReset _ => true
  | .pinReset _ => true
  | .sampleSet _ => true
  | .warnEntryComplete => true
  | .warnExitComplete => true
  | .cutTimerComplete => true
  | .critTimerComplete => true
  | .rearmTimerComplete => true
  | .ocTripAssert => true
  | .ocTripRelease => true
  | .prechargeExpiry => true
  | .budgetPeriod => true
  | .servoShort => true
  | .driveStep => true
  | .servoFrame => true
  | .winchStep => true
  | .orderTimeout => true
  | .orderStarved => true
  | .retryPauseEnd => true
  | .currentCheckStall => true
  | .drumCheckStall => true
  | .drumPulse => true
  | .benchDrumPulse => true
  | .lightFrameBoundary => true
  | .radioFrame bytes => frameOk bytes
  | .framingError => true
  | .linkGapTimeout => true
  | .replyTimerExpiry => true
  | .replySent => true
  | .dlFreshnessExpiry => true
  | .apLeaseExpiry _ => true
  | .pendantEdge _ _ => true
  | .pendantSettleExpiry _ => true
  | .wakeTimerExpiry => true
  | .armingTimerExpiry => true
  | .idleSleepExpiry => true
  | .loadEnd => true
  | .storeEnd readBack => imageOk readBack
  | .acpUnknownWrite bytes => unknownWriteOk bytes
  | .status _ => true
  | .read _ => true
  | .readCause _ => true
  | .faultNext _ => true
  | .faultAck _ => true
  | .attnMask _ => true
  | .lockoutClear _ => true
  | .halt params => runctlOk .halt params
  | .sleep params => runctlOk .sleep params
  | .benchDry params => runctlOk .benchDry params
  | .benchWet params => runctlOk .benchWet params
  | .load params => runctlOk .load params
  | .start params => runctlOk .start params
  | .reset _ => true
  | .cfgRead _ => true
  | .cfgWrite _ => true
  | .cfgCheck _ => true
  | .cfgStore _ => true
  | .claim _ => true
  | .set _ => true
  | .claimSet _ => true
  | .release _ => true
  | .refresh _ => true
  | .winchPost _ => true
  | .winchCancel _ => true
  | .winchReap _ => true
  | .winchResume _ => true
  | .winchZero _ => true
  | .sceneWrite _ => true
  | .benchInject _ => true
  | .benchStall _ => true
  | .linkByteReceived _ => true
  | .runctlNoFlag params => runctlOk .noFlag params

end Sys2Proof
end

