-- ==== Sys2Proof/Decode.lean ====
section
/-! DEFINITION. Commands spelled by a word, and commands spelled by the bytes of an accessory write. The opcode table
gives no row any bits, so no word spells a command. A write of the accessory port does: its first byte is the command
byte of Table 11-4, the rest are the parameters (R147), and the seven rows of RUNCTL are told apart by their highest
flag (R157). -/

namespace Sys2Proof

open Sys2Proof.Machine

/-- The command that a word spells by the opcode table's bits: none, for no row has bits. -/
def decodeTableWord (_nbits _w : Nat) : Option Instr := none

/-- The command of a RUNCTL, byte 0x10, by its row (R157). -/
def ofRunctl (params : List Byte) : Instr :=
  match runctlRow params with
  | .halt => .halt params
  | .sleep => .sleep params
  | .benchDry => .benchDry params
  | .benchWet => .benchWet params
  | .load => .load params
  | .start => .start params
  | .noFlag => .runctlNoFlag params

/-- The command a write of the accessory port carries, from all its bytes (R147, Table 11-4), with `strap` the level of
ADDR when it is taken, which RESET alone reads (R146, R165). -/
def ofWrite (strap : Bool) (bytes : List Byte) : Instr :=
  match bytes with
  | [] => .acpUnknownWrite []
  | b :: params =>
    match b.toNat with
    | 0x01 => .status params
    | 0x02 => .read params
    | 0x03 => .readCause params
    | 0x04 => .faultNext params
    | 0x05 => .faultAck params
    | 0x06 => .attnMask params
    | 0x07 => .lockoutClear params
    | 0x10 => ofRunctl params
    | 0x11 => .reset ⟨strap, params⟩
    | 0x12 => .cfgRead params
    | 0x13 => .cfgWrite params
    | 0x14 => .cfgCheck params
    | 0x15 => .cfgStore params
    | 0x20 => .claim params
    | 0x21 => .set params
    | 0x22 => .claimSet params
    | 0x23 => .release params
    | 0x24 => .refresh params
    | 0x30 => .winchPost params
    | 0x31 => .winchCancel params
    | 0x32 => .winchReap params
    | 0x33 => .winchResume params
    | 0x34 => .winchZero params
    | 0x38 => .sceneWrite params
    | 0x40 => .benchInject params
    | 0x41 => .benchStall params
    | _ => .acpUnknownWrite (b :: params)

/-- The bytes of the accessory write that carries a command; none for a command that is an event of another line or of
a timer. -/
def Instr.writeBytes : Instr → Option (List Byte)
  | .powerOnReset _ => none
  | .brownOutReset _ => none
  | .pinReset _ => none
  | .sampleSet _ => none
  | .warnEntryComplete => none
  | .warnExitComplete => none
  | .cutTimerComplete => none
  | .critTimerComplete => none
  | .rearmTimerComplete => none
  | .ocTripAssert => none
  | .ocTripRelease => none
  | .prechargeExpiry => none
  | .budgetPeriod => none
  | .servoShort => none
  | .driveStep => none
  | .servoFrame => none
  | .winchStep => none
  | .orderTimeout => none
  | .orderStarved => none
  | .retryPauseEnd => none
  | .currentCheckStall => none
  | .drumCheckStall => none
  | .drumPulse => none
  | .benchDrumPulse => none
  | .lightFrameBoundary => none
  | .radioFrame _ => none
  | .framingError => none
  | .linkGapTimeout => none
  | .replyTimerExpiry => none
  | .replySent => none
  | .dlFreshnessExpiry => none
  | .apLeaseExpiry _ => none
  | .pendantEdge _ _ => none
  | .pendantSettleExpiry _ => none
  | .wakeTimerExpiry => none
  | .armingTimerExpiry => none
  | .idleSleepExpiry => none
  | .loadEnd => none
  | .storeEnd _ => none
  | .acpUnknownWrite bytes => some bytes
  | .status params => some (0x01 :: params)
  | .read params => some (0x02 :: params)
  | .readCause params => some (0x03 :: params)
  | .faultNext params => some (0x04 :: params)
  | .faultAck params => some (0x05 :: params)
  | .attnMask params => some (0x06 :: params)
  | .lockoutClear params => some (0x07 :: params)
  | .halt params => some (0x10 :: params)
  | .sleep params => some (0x10 :: params)
  | .benchDry params => some (0x10 :: params)
  | .benchWet params => some (0x10 :: params)
  | .load params => some (0x10 :: params)
  | .start params => some (0x10 :: params)
  | .reset params => some (0x11 :: params.bytes)
  | .cfgRead params => some (0x12 :: params)
  | .cfgWrite params => some (0x13 :: params)
  | .cfgCheck params => some (0x14 :: params)
  | .cfgStore params => some (0x15 :: params)
  | .claim params => some (0x20 :: params)
  | .set params => some (0x21 :: params)
  | .claimSet params => some (0x22 :: params)
  | .release params => some (0x23 :: params)
  | .refresh params => some (0x24 :: params)
  | .winchPost params => some (0x30 :: params)
  | .winchCancel params => some (0x31 :: params)
  | .winchReap params => some (0x32 :: params)
  | .winchResume params => some (0x33 :: params)
  | .winchZero params => some (0x34 :: params)
  | .sceneWrite params => some (0x38 :: params)
  | .benchInject params => some (0x40 :: params)
  | .benchStall params => some (0x41 :: params)
  | .linkByteReceived _ => none
  | .runctlNoFlag params => some (0x10 :: params)

end Sys2Proof
end

