-- ==== Sys2Proof/Machine/Flags.lean ====
section
/-! DEFINITION. The flags computed from the state: what the blocks count as running and closed on the bench, which
outputs are released, the active flags of the fault set (Table 8-3), the attention line (R154), the pin views, and
`settle`, which ends every command by latching the active faults (R151) and judging the idle timer (R161). -/

namespace Sys2Proof.Machine

/-- BENCH-DRY and BENCH-WET. -/
def RunState.bench : RunState → Bool
  | .benchDry => true
  | .benchWet => true
  | _ => false

/-- The working configuration. -/
def State.cfg (s : State) : Settings := s.rsc.work

/-- The latest published value of a quantity, absent while not ready (R2). -/
def State.published (s : State) (q : Quantity) : Option Int := (s.pmon.chan.get q).published

/-- The value of a function (Table 3-1). -/
def State.valueOf (s : State) (f : Fn) : Int := (s.grt.fns.get f).value

/-- The holder of a function. -/
def State.holderOf (s : State) (f : Fn) : Holder := (s.grt.fns.get f).holder

/-- The run state counted as RUNNING by DRV and WCH (R167). -/
def State.countedRunning (s : State) : Bool := s.rsc.run == .running || s.rsc.run.bench

/-- The pack switch counted as CLOSED by the actuator controllers (R167). -/
def State.countedClosed (s : State) : Bool := s.prot.sw == .closed || s.rsc.run == .benchDry

/-- The protection state is NORMAL or WARN. -/
def State.protDrives (s : State) : Bool := s.prot.st == .normal || s.prot.st == .warn

/-- The grant a controller forms its cap from: the trial one in BENCH-DRY, the published one otherwise (R44). -/
def State.grantFor (s : State) (c : Consumer) : Nat :=
  if s.rsc.run == .benchDry then s.bgt.trial.elim 0 (fun t => t.grant.get c) else s.bgt.pub.grant.get c

/-! ### Output release -/

/-- DRV_PWM is released (R73). -/
def State.drivePwmReleased (s : State) : Bool :=
  s.rsc.run == .running && s.protDrives && s.prot.sw == .closed && s.cfg.driveEn

/-- DRV_BRK is released for driving (R73): ARMING and CUTOFF count for it too. -/
def State.driveBrkReleased (s : State) : Bool :=
  (s.rsc.run == .running || s.rsc.run == .arming) && s.prot.st != .lockout && s.prot.sw == .closed && s.cfg.driveEn

/-- WCH_PWM is released (R98). -/
def State.winchReleased (s : State) : Bool :=
  s.rsc.run == .running && s.protDrives && s.prot.sw == .closed && s.cfg.winchEn

/-! ### Pins that are views of the state -/

/-- PSW_EN is asserted (section 1.5). -/
def State.pswEn (s : State) : Bool := s.prot.sw == .closed

/-- PRE_EN is asserted (section 1.5). -/
def State.preEn (s : State) : Bool := s.prot.sw == .precharging

/-- WCH_DIR is at the pay-out level (R98). -/
def State.wchDirPayout (s : State) : Bool := s.wch.dir == .payout

/-- The bytes being sent on LINK_OUT; none while it is idle high (R143). -/
def State.linkOut (s : State) : List Byte :=
  match s.dlr.reply with
  | .sending bytes _ => bytes
  | _ => []

/-- The 7-bit address the port answers (R146). -/
def State.portAddress (s : State) : Nat := if s.acp.addrHigh then 0x5D else 0x5C

/-! ### The fault set -/

/-- The bit of an entry in a sixteen-bit fault word. -/
def faultBit (e : FaultEntry) : BitVec 16 := 1#16 <<< e.code

/-- The fault word whose bits are given entry by entry. -/
def faultWord (p : FaultEntry → Bool) : BitVec 16 :=
  FaultEntry.all.foldl (fun w e => if p e then w ||| faultBit e else w) 0#16

/-- Whether an entry's latched flag is set. -/
def State.faultLatched (s : State) (e : FaultEntry) : Bool := s.acp.latched.getLsbD e.code

/-- The active flag of each entry (Table 8-3: R21, R37, R49, R54, R111). PRECHARGE_FAIL, WINCH_STARVED, CONFIG_BAD and
STORE_FAIL are only ever raised, so they are active at their event and inactive at once. -/
def State.faultActive (s : State) : FaultEntry → Bool
  | .hardTrip => s.prot.st == .cutoff && s.prot.cause == some .hardTrip
  | .lockout => s.prot.st == .lockout
  | .lowCutoff => s.prot.st == .cutoff && s.prot.cause == some .lowVolt
  | .prechargeFail => false
  | .servoShort => s.bgt.servoShort
  | .ocLimit => s.prot.limit
  | .tap => s.pmon.tapFault
  | .packSensor => s.pmon.packSensor
  | .motorSensor => s.pmon.motorSensor
  | .winchStall => s.wch.stallHold
  | .winchStarved => false
  | .dlLost => s.grt.link == .lost
  | .apLost => s.grt.apLost
  | .configBad => false
  | .storeFail => false
  | .lowWarn => s.prot.st == .warn

/-- A fault raised at an event: its latched flag is set, and it is inactive again at once (R21, R151). -/
def State.raise (s : State) (e : FaultEntry) : State :=
  s.withAcp { s.acp with latched := s.acp.latched ||| faultBit e }

/-- The lost set is not empty, so GRANT_LOST is pending (R63). -/
def State.grantLost (s : State) : Bool := s.grt.lost.toList.any id

/-- ATTN_N is driven low (R154). -/
def State.attnLow (s : State) : Bool :=
  (s.acp.latched &&& s.acp.mask.setWidth 16) != 0 ||
    (s.acp.orderDone && s.acp.mask.getLsbD 16) || (s.grantLost && s.acp.mask.getLsbD 17)

/-! ### The end of every command -/

/-- The conditions of the idle timer (R161). Every function's neutral value is 0 (Table 3-1). -/
def State.idleHolds (s : State) : Bool :=
  s.rsc.run == .running && s.cfg.idleSleep != 0 && s.grt.fns.toList.all (fun r => r.value == 0) && !s.wch.moving

/-- The idle timer after a command: kept while its conditions go on holding, started when they come to hold, stopped
when they are broken (R161). -/
def State.idleAfter (s : State) : Option Nat :=
  if s.idleHolds then some (s.rsc.idleEnd.getD (s.now + s.cfg.idleSleep * 1000 * msec)) else none

/-- What ends every command: the idle timer is judged (R161), and every fault that is active is latched, which sets the
latched flag at each rise (R151) since an entry is never active and not latched. -/
def State.settle (s : State) : State :=
  (s.withRsc { s.rsc with idleEnd := s.idleAfter }).withAcp
    { s.acp with latched := s.acp.latched ||| faultWord s.faultActive }

/-- The outcome of a command whose effect is `s`. -/
def completed (s : State) : Host.Outcome State Fault Refusal := .next s.settle

end Sys2Proof.Machine
end

