-- ==== Sys2Proof/Machine/Ops.lean ====
section
/-! DEFINITION. The operations the commands share: time, the winch motor and its drive interlock, order ends, the
grant table and what a change of it sets off, the stop events, cutoff, lockout, HALT, SLEEP, leaving the bench,
precharge, wake, resets, a change of the working configuration, and the taking of an accessory command. -/

namespace Sys2Proof.Machine

/-! ### Time -/

/-- The clock at the moment of an expiry due at `t`: never set back (log 2). -/
def State.reach (s : State) (t : Nat) : State := s.withNow (max s.now t)

/-- The whole milliseconds since `start`. -/
def State.msSince (s : State) (start : Nat) : Nat := (s.now - start) / msec

/-- The whole milliseconds left until `deadline`. -/
def State.msLeft (s : State) (deadline : Nat) : Nat := (deadline - s.now) / msec

/-! ### The drive's reaction to the winch (R71) and its signals (R75) -/

/-- The direction a duty gives (R72). -/
def driveDirOf (duty : Int) : DriveDir := if 0 < duty then .forward else if duty < 0 then .backward else .none

/-- The BRAKE signal (R75). -/
def brakeSignal (target applied : Int) (dragBrake : Bool) : Bool :=
  dragBrake ||
    (applied != 0 && (target == 0 || signInt target == signInt applied) && target.natAbs < applied.natAbs)

/-- `x` with its magnitude limited to `cap` and its sign kept. -/
def limitMagnitude (cap : Nat) (x : Int) : Int := if cap < x.natAbs then signInt x * cap else x

/-- R71, the flag rises: the interlock flag is set and an applied duty above WINCH_DRIVE_CAP is clamped at once, with
its output and its signals. The caps held are those of the latest drive step still (log 19). -/
def Drv.winchStarts (cap : Nat) (released : Bool) (d : Drv) : Drv :=
  if cap < d.applied.natAbs then
    { d with
      interlock := true
      applied := limitMagnitude cap d.applied
      dir := driveDirOf (limitMagnitude cap d.applied)
      brake := brakeSignal d.target (limitMagnitude cap d.applied) d.dragBrake
      reverse := limitMagnitude cap d.applied < 0
      pwm := if released then (limitMagnitude cap d.applied).natAbs else 0 }
  else { d with interlock := true }

/-- R71: the drive controller's reaction to the moving flag going from `was` to `is`. -/
def Drv.onMoving (cap : Nat) (released was is : Bool) (d : Drv) : Drv :=
  if was == is then d else if is then d.winchStarts cap released else { d with interlock := false }

/-- The winch motor given an applied duty: moving flag, drive direction (R93, R97), WCH_PWM (R98), and the drive's
reaction to a change of the moving flag (R71). -/
def State.setWinchDuty (s : State) (duty : Int) : State :=
  (s.withWch
    { s.wch with
      duty := duty
      moving := duty != 0
      dir := if duty < 0 then .haul else if 0 < duty then .payout else s.wch.dir
      pwm := if s.winchReleased then duty.natAbs else 0 }).withDrv
    (s.drv.onMoving s.cfg.winchDriveCap s.drivePwmReleased s.wch.moving (duty != 0))

/-! ### Winch orders -/

/-- A hauling kind (section 5.4). -/
def OrderKind.hauls : OrderKind → Bool
  | .haul => true
  | .haulTurns => true
  | _ => false

/-- A _TURNS kind. -/
def OrderKind.counted : OrderKind → Bool
  | .haulTurns => true
  | .payoutTurns => true
  | _ => false

/-- The order's direction. -/
def OrderKind.dir (k : OrderKind) : WinchDir := if k.hauls then .haul else .payout

/-- The order's speed with the sign of its kind (R105). -/
def Order.signedSpeed (o : Order) : Int := if o.kind.hauls then -(o.speed : Int) else o.speed

/-- What the order carries while ACTIVE. -/
def Order.run? (o : Order) : Option OrderRun :=
  match o.phase with
  | .active r => some r
  | _ => none

/-- The slot is ACTIVE. -/
def Order.isActive (o : Order) : Bool := o.run?.isSome

/-- DONE or FAILED (section 5.4). -/
def Order.finished (o : Order) : Bool := o.phase == .done || o.phase == .failed

/-- The slots of the ring in number order. -/
def allSlots : List (Fin 4) := [0, 1, 2, 3]

/-- The ACTIVE slot, if there is one (R101: at most one). -/
def Wch.activeSlot (w : Wch) : Option (Fin 4) := allSlots.find? (fun i => (w.slots.get i).any Order.isActive)

/-- The ACTIVE order with its slot and what it carries. -/
def Wch.active (w : Wch) : Option (Fin 4 × Order × OrderRun) :=
  w.activeSlot.bind fun i => (w.slots.get i).bind fun o => o.run?.map fun r => (i, o, r)

/-- The order in a slot replaced. -/
def Wch.putOrder (w : Wch) (i : Fin 4) (o : Order) : Wch := { w with slots := w.slots.set i (some o) }

/-- What the ACTIVE order in slot `i` carries, replaced. -/
def Wch.putRun (w : Wch) (i : Fin 4) (o : Order) (r : OrderRun) : Wch := w.putOrder i { o with phase := .active r }

/-- The WINCH value written by the winch controller (R105): the holder, seq and lease are not touched (R54). -/
def State.writeWinchValue (s : State) (v : Int) : State :=
  s.withGrt { s.grt with fns := s.grt.fns.set .winch { s.grt.fns.get .winch with value := v } }

/-- The WINCH value written while AP holds WINCH, and not written otherwise (R105). -/
def State.writeHeldWinchValue (s : State) (v : Int) : State :=
  s.writeWinchValue (if s.holderOf .winch == .ap then v else s.valueOf .winch)

/-- The fault an order's result raises (R106). -/
def State.raiseResult (s : State) : OrderResult → State
  | .stall => s.raise .winchStall
  | .starved => s.raise .winchStarved
  | _ => s

/-- The end of the order in slot `i` with a result (R106): the record finished, the run flag cleared by a FAILED end,
the motor stopped if the order was driving, the WINCH value 0 while AP holds it, ORDER_DONE posted, the fault of the
result raised. -/
def State.endOrder (s : State) (i : Fin 4) (o : Order) (result : OrderResult) : State :=
  let ended : Order := { o with phase := if result == .ok then .done else .failed, result := some result }
  let s1 := s.withWch { s.wch.putOrder i ended with runFlag := s.wch.runFlag && result == .ok }
  let s2 := if o.isActive then s1.setWinchDuty 0 else s1
  let s3 := s2.writeHeldWinchValue 0
  (s3.withAcp { s3.acp with orderDone := true }).raiseResult result

/-- The ACTIVE order, if there is one, ends with a result. -/
def State.endActive (s : State) (result : OrderResult) : State :=
  match s.wch.active with
  | some (i, o, _) => s.endOrder i o result
  | none => s

/-- R113: an ACTIVE order ends FAILED/PREEMPTED. -/
def State.preempt (s : State) : State := s.endActive .preempted

/-! ### The grant table (chapter 3) -/

/-- A change of holder: seq advances by one, wrapping from 15 to 0 (R47), the reacquire flag clears (R48). -/
def FnRecord.moveTo (r : FnRecord) (h : Holder) (v : Int) (lease : Option Nat) : FnRecord :=
  { holder := h, value := v, seq := (r.seq + 1) % 16, lease := lease, reacquire := false }

/-- The passage to FS (R48). `keep` says that a HOLD failsafe action keeps the value. -/
def FnRecord.toFs (r : FnRecord) (c : Settings) (f : Fn) (keep : Bool) : FnRecord :=
  { holder := .fs
    value := if keep then r.value else 0
    seq := if r.holder == .fs then r.seq else (r.seq + 1) % 16
    lease := none
    reacquire := f.proportional && c.defaultHolder f == some .dl }

/-- Every record to FS with the neutral value (R64). -/
def Grt.allToFs (g : Grt) (c : Settings) : Grt :=
  { g with fns := PerFn.build fun f => (g.fns.get f).toFs c f false }

/-- One record replaced. -/
def Grt.put (g : Grt) (f : Fn) (r : FnRecord) : Grt := { g with fns := g.fns.set f r }

/-- A decoded value lies outside a function's neutral band (R46). -/
def outsideBand (c : Settings) (f : Fn) (v : Int) : Bool := c.neutralBand f < v.natAbs

/-- The direct stall hold and the direct stall timers gone (R100, R109, R111). -/
def Wch.clearDirect (w : Wch) : Wch :=
  { w with stallHold := false, stalledSign := none, directCurrent := none, directDrum := none }

/-- WINCH changes holder (R100): the direct stall hold and timers go; an order ACTIVE when WINCH leaves AP ends
PREEMPTED (R113); a passage to AP stops direct drive at once. -/
def State.winchHandover (s : State) (old new : Holder) : State :=
  if old == new then s
  else
    let s1 := s.withWch s.wch.clearDirect
    let s2 := if old == .ap then s1.preempt else s1
    if new == .ap then s2.setWinchDuty 0 else s2

/-- The arming timer after the THROTTLE value goes from `old` to `new` (R160). -/
def State.armingAfter (s : State) (old new : Int) : Option Nat :=
  if s.rsc.run == .arming && old != new then
    if new == 0 then some (s.now + s.cfg.armNeutral * msec) else none
  else s.rsc.armingEnd

/-- A new grant table, with what its changes set off: the arming timer (R160) and the rearm condition (R11) on
THROTTLE, the pending scene on SCENE (R123), the winch on a change of WINCH's holder (R100, R113). -/
def State.commitGrants (s : State) (g : Grt) : State :=
  let throttle := (g.fns.get .throttle).value
  let scene := (g.fns.get .scene).value
  (((s.withRsc { s.rsc with armingEnd := s.armingAfter (s.valueOf .throttle) throttle }).withProt
      { s.prot with throttleRested := s.prot.throttleRested && throttle == 0 }).withLgt
      { s.lgt with
        pendingScene := if scene == s.valueOf .scene then s.lgt.pendingScene else scene.toNat }).withGrt g
    |>.winchHandover (s.holderOf .winch) (g.fns.get .winch).holder

/-! ### Stop events -/

/-- The starved times, the SERVO counts and SERVO_SHORT begun again (R38, R44). -/
def Bgt.restarted (b : Bgt) : Bgt :=
  { b with starved := PerConsumer.build fun _ => 0, shortCount := 0, clearCount := 0, servoShort := false }

/-- A computation whose A and grants have become 0 (R38, R44). -/
def BudgetResult.withoutCurrent (b : BudgetResult) : BudgetResult :=
  { b with a := 0, grant := PerConsumer.build fun _ => 0 }

/-- The zeros of R38 when the switch leaves CLOSED. -/
def Bgt.cleared (b : Bgt) : Bgt := { b.restarted with pub := b.pub.withoutCurrent }

/-- R170, R44: entry to LOCKOUT in BENCH-DRY acts on the trial budget as the opening switch of a real one does. -/
def Bgt.trialCleared (b : Bgt) : Bgt := { b.restarted with trial := b.trial.map BudgetResult.withoutCurrent }

/-- DRIVE and WINCH without a grant: what R38 does to a computation at entry to CUTOFF. -/
def BudgetResult.withoutMotors (b : BudgetResult) : BudgetResult :=
  { b with grant := (b.grant.set .drive 0).set .winch 0 }

/-- R38 at entry to CUTOFF. -/
def Bgt.motorsCut (b : Bgt) : Bgt :=
  { b with
    pub := b.pub.withoutMotors
    trial := b.trial.map BudgetResult.withoutMotors
    starved := (b.starved.set .drive 0).set .winch 0 }

/-- R78: the drive stopped at once. `brk` is what DRV_BRK carries then; `held` keeps the drag brake on and the pending
gear (entry to CUTOFF). -/
def Drv.stopped (d : Drv) (held : Bool) (brk : Option Nat) : Drv :=
  { d with
    applied := 0
    dir := .none
    dragBrake := held
    brake := held
    reverse := false
    pendingGear := if held then d.pendingGear else none
    pwm := 0
    brk := brk }

/-- R89: every emitted pulse absent, the bound-hit flags clear, the pending mode dropped. -/
def Str.released (t : Str) : Str :=
  { t with
    pendingMode := none
    servo := PerServo.build fun v =>
      { t.servo.get v with emitted := none, boundHit := false, line := none } }

/-- R133: every output at zero duty, every duty and draw 0. -/
def Lgt.dark (l : Lgt) : Lgt :=
  { l with lamp := PerLamp.build fun i => { l.lamp.get i with duty := 0, draw := 0, line := 0 } }

/-- The pack switch leaves CLOSED: R20, R38, R78, R89, R99, R133. -/
def State.leaveClosed (s : State) : State :=
  ((((((s.withProt { s.prot with sw := .opened, prechargeEnd := none }).withBgt s.bgt.cleared).withDrv
    (s.drv.stopped false none)).withStr s.str.released).withLgt s.lgt.dark).withWch
    s.wch.clearDirect).setWinchDuty 0

/-- A closed switch opens (R20) and a precharge in flight is cancelled (R19). -/
def State.openSwitch (s : State) : State :=
  match s.prot.sw with
  | .closed => s.leaveClosed
  | .precharging => s.withProt { s.prot with sw := .opened, prechargeEnd := none }
  | .opened => s

/-- No dwell timer runs. -/
def noDwell : PerDwell (Option Nat) := PerDwell.build fun _ => none

/-- Entry to CUTOFF (R9, R10), with its effects at once: R38, R78, R99, R113. The crit timer keeps running (R7). -/
def State.enterCutoff (s : State) (cause : CutCause) : State :=
  let s1 := s.withProt
    { s.prot with
      st := .cutoff
      cause := some cause
      tripTime := if cause == .hardTrip then some s.now else none
      dwell := { noDwell with crit := s.prot.dwell.crit } }
  let s2 := (s1.withBgt s1.bgt.motorsCut).withDrv
    (s1.drv.stopped true (if s1.driveBrkReleased then some s1.cfg.drag else none))
  s2.preempt.setWinchDuty 0

/-! ### Leaving the bench, HALT, SLEEP -/

/-- The end of a substitute (R171): its window is refilled at the next sample set. -/
def Channel.unsubstituted (c : Channel) : Channel :=
  { c with substituted := false, refill := c.refill || c.substituted }

/-- PROT on leaving the bench: the saved state with all dwell timers stopped (R171); a BENCH-WET left by entry to
LOCKOUT keeps LOCKOUT, Q and LIMIT. -/
def Prot.restored (p : Prot) (sv : BenchSave) (lockedOut : Bool) : Prot :=
  if lockedOut then { p with dwell := noDwell }
  else
    { p with st := sv.st, cause := sv.cause, tripTime := sv.tripTime, dwell := noDwell, q := sv.q, limit := sv.limit }

/-- What leaving either bench state restores (R171): the protection state, Q, LIMIT, the two bands; the save is
discarded and the stall arm clears (R169). DESIGN CHOICE (log 27): with a sensor fault active at that moment R5 has
band 3 and R171 the saved band; the saved band is taken, and the next sample set judges from it. -/
def State.restoreSave (s : State) (sv : BenchSave) (lockedOut : Bool) : State :=
  (((s.withProt (s.prot.restored sv lockedOut)).withPmon
    { s.pmon with packBand := sv.packBand, motorBand := sv.motorBand }).withWch
    { s.wch with stallArm := false }).withRsc { s.rsc with save := none }

/-- The lights' computed values discarded on leaving BENCH-DRY (R133). DESIGN CHOICE (log 36): R133 discards the computed
duties and says nothing of the other figures READ reports until the next boundary. The demand becomes the published one, the
scale 1000, and reduced, forced, trim and excess clear at once, as R128 has them with the lights off; the essential scale,
the essential demand, the base duties, the lit marks and the follow marks keep their trial values until that boundary. -/
def Lgt.discardTrial (l : Lgt) : Lgt :=
  { l.dark with demand := l.pubDemand, scale := 1000, reduced := false, forced := false, trimmed := false, excess := 0 }

/-- What leaving BENCH-DRY does besides (R171, R44, R78, R89, R99, R133): the line position, the referenced flag, the
winch drive direction and the gear position restored, every substitute ended, the trial values and the computed
records discarded. -/
def State.leaveDry (s : State) (sv : BenchSave) : State :=
  (((((s.withPmon
      { s.pmon with chan := PerQuantity.build fun q => (s.pmon.chan.get q).unsubstituted }).withBgt
      { s.bgt.restarted with trial := none }).withDrv
      { s.drv.stopped false none with gear := sv.gear }).withStr s.str.released).withLgt s.lgt.discardTrial).withWch
      { s.wch.clearDirect with
        linePos := sv.linePos
        referenced := sv.referenced
        dir := sv.winchDir
        drumRate := 0
        nextBenchPulse := none }
    |>.setWinchDuty 0

/-- The bench is left, if the part is in it (R171). -/
def State.leaveBench (s : State) (lockedOut : Bool) : State :=
  match s.rsc.save with
  | none => s
  | some sv =>
    if s.rsc.run == .benchDry then (s.restoreSave sv lockedOut).leaveDry sv else s.restoreSave sv lockedOut

/-- The effects of a HALT (R157). `lockedOut` says that a BENCH-WET is left by entry to LOCKOUT (R171). DESIGN CHOICE (log 38):
R157 leaves the working configuration of an abandoned LOAD as it was before it, and R122 says of a SCENE_WRITE taken during a
LOAD only what the end of the LOAD makes of it. An entry written between the two is kept: nothing of the LOAD is undone. -/
def State.haltWith (s : State) (lockedOut : Bool) : State :=
  let s1 := (s.leaveBench lockedOut).openSwitch
  let s2 := s1.commitGrants (s1.grt.allToFs s1.cfg)
  s2.withRsc
    { s2.rsc with
      run := .halted, startInFlight := false, pendingStart := false, sleepOrigin := none, wakeEnd := none
      armingEnd := none, idleEnd := none, load := none }

/-- HALT (R157). -/
def State.halt (s : State) : State := s.haltWith false

/-- SLEEP entry (R161, R64): the switch opens or a precharge is cancelled, every function passes to FS, the radio link
state becomes NEVER, the last decoded values are discarded, a start in flight is dropped. -/
def State.enterSleep (s : State) (origin : SleepOrigin) : State :=
  let s1 := s.openSwitch
  let s2 := s1.commitGrants
    { s1.grt.allToFs s1.cfg with link := .never, freshEnd := none, lastDecoded := PerFn.build fun _ => none }
  s2.withRsc
    { s2.rsc with
      run := .sleep, startInFlight := false, sleepOrigin := some origin, armingEnd := none, idleEnd := none }

/-- A wake source (R162): in SLEEP the first one starts the wake timer; elsewhere, and later, nothing. -/
def State.wakeSource (s : State) : State :=
  s.withRsc
    { s.rsc with
      wakeEnd := if s.rsc.run == .sleep && s.rsc.wakeEnd.isNone then some (s.now + wakeTime) else s.rsc.wakeEnd }

/-! ### Precharge (R17 to R19) -/

/-- The run-state controller is told that the precharge failed (R159, R162, R171). -/
def State.prechargeFailed (s : State) : State :=
  if s.rsc.run == .benchWet then s.halt else s.withRsc { s.rsc with startInFlight := false }

/-- A precharge aborted by OC_TRIP (R19). -/
def State.abortPrecharge (s : State) : State :=
  ((s.withProt { s.prot with sw := .opened, prechargeEnd := none }).raise .hardTrip |>.raise
    .prechargeFail).prechargeFailed

/-- The run-state controller requests a precharge (R17). -/
def State.requestPrecharge (s : State) : State :=
  if s.prot.sw == .opened then
    if s.prot.st == .lockout then s.prechargeFailed
    else
      let s1 := s.withProt
        { s.prot with sw := .precharging, prechargeEnd := some (s.now + s.cfg.prechargeMs * msec) }
      if s.lines.ocTrip then s1.abortPrecharge else s1
  else s

/-! ### LOCKOUT and the hard trip -/

/-- Entry to LOCKOUT (R12), with its effects: an ACTIVE order ends PREEMPTED (R113), the winch stops (R99), the switch
opens or a precharge in flight is cancelled and told failed (R19); ARMING and RUNNING take a HALT (R156), BENCH-WET is
left (R171). BENCH-DRY goes on with no switch effect, while the computed drive stops (R78) and the trial A and grants
become 0 (R44), as at a real opening (R170, log 18). -/
def State.enterLockout (s : State) : State :=
  let s1 := s.withProt { s.prot with st := .lockout, cause := none, tripTime := none, dwell := noDwell }
  let s2 := s1.preempt.setWinchDuty 0
  match s2.rsc.run with
  | .benchDry => (s2.withBgt s2.bgt.trialCleared).withDrv (s2.drv.stopped false none)
  | .benchWet => s2.haltWith true
  | .arming => s2.halt
  | .running => s2.halt
  | _ =>
    let s3 := s2.openSwitch
    s3.withRsc { s3.rsc with startInFlight := s2.rsc.startInFlight && s2.prot.sw != .precharging }

/-- A hard trip, by the protection state (R10). -/
def State.hardTrip (s : State) : State :=
  match s.prot.st with
  | .normal => s.enterCutoff .hardTrip
  | .warn => s.enterCutoff .hardTrip
  | .cutoff =>
    if s.prot.cause == some .hardTrip then s.enterLockout
    else
      s.withProt
        { s.prot with cause := some .hardTrip, tripTime := some s.now, dwell := { s.prot.dwell with rearm := none } }
  | .lockout => s

/-! ### Start (R159) -/

/-- The arming timer at entry to ARMING (R160). -/
def State.enterArming (s : State) : State :=
  s.withRsc
    { s.rsc with
      run := .arming
      startInFlight := false
      armingEnd := if s.valueOf .throttle == 0 then some (s.now + s.cfg.armNeutral * msec) else none }

/-- The start is made (R159, step 4). -/
def State.makeStart (s : State) : State :=
  (s.withRsc { s.rsc with startInFlight := true }).requestPrecharge

/-! ### Resets (R14, R43, R67, R79, R91, R118, R135, R153 to R155, R165) -/

/-- The cause record of a full reset: its own flag alone (R155). -/
def Causes.ofFull : FullResetKind → Causes
  | .powerOn => { powerOn := true, brownOut := false, pin := false, soft := false }
  | .brownOut => { powerOn := false, brownOut := true, pin := false, soft := false }
  | .pin => { powerOn := false, brownOut := false, pin := true, soft := false }

/-- A full reset with ADDR at the level `strap` when it ends. A store cut short has left the image partly written when
it began (R164). -/
def State.fullReset (s : State) (kind : FullResetKind) (strap : Bool) : State :=
  State.powerOn s.now { s.lines with addr := strap } s.rsc.store s.rsc.calStored (Causes.ofFull kind) s.pending

/-- PROT after a soft reset (R14, R15, R16, R20). -/
def Prot.softReset (p : Prot) : Prot :=
  { Prot.powerOn with st := if p.st == .lockout then .lockout else .normal, q := p.q, limit := p.limit }

/-- The grant table after a soft reset: every seq advanced by one (R67). -/
def Grt.softReset (g : Grt) (c : Settings) : Grt :=
  { Grt.powerOn c with fns := PerFn.build fun f => FnRecord.failsafe c f (((g.fns.get f).seq + 1) % 16) }

/-- The run-state controller after a soft reset (R156, R158, R165). A scene entry written during a LOAD that the reset
abandons is kept (DESIGN CHOICE, log 38). -/
def Rsc.softReset (r : Rsc) : Rsc :=
  { r with
    run := .halted, startInFlight := false, pendingStart := false, sleepOrigin := none, wakeEnd := none
    armingEnd := none, idleEnd := none, load := none, storeEnd := none, save := none }

/-- The accessory port after a soft reset (R148, R153 to R155): of the latched flags HARD_TRIP's and LOCKOUT's stay. -/
def Acp.softReset (a : Acp) (c : Settings) (addrHigh : Bool) : Acp :=
  { status := .ok, data := [], latched := a.latched &&& (faultBit .hardTrip ||| faultBit .lockout),
    mask := c.attnDefault, orderDone := false, causes := { a.causes with soft := true }, addrHigh := addrHigh }

/-- A soft reset with ADDR at the level `strap` (R146): in a bench state the restore is made first (R171), and the
reset's own values then apply. DESIGN CHOICE (log 28): a restored CUTOFF by HARD_TRIP does not count as a rise of that
fault before R153 clears the latches, so an acknowledged one stays cleared. DESIGN CHOICE (log 6): R43 gives kv, kt,
the LIMIT flag as read and the exclusion flag no value, and they become 0 or clear; ranks, floors and ceilings stay
until the first period takes them again. -/
def State.softReset (s0 : State) (strap : Bool) : State :=
  let s := s0.leaveBench false
  { now := s.now
    lines := { s.lines with addr := strap }
    pmon := { s.pmon with nextSample := s.now + samplePeriod }
    prot := s.prot.softReset
    bgt := { Bgt.powerOn s.now with rank := s.bgt.rank, floor := s.bgt.floor, ceiling := s.bgt.ceiling }
    grt := s.grt.softReset s.cfg
    drv := Drv.fresh s.now
    str := Str.fresh s.cfg s.now
    wch := { Wch.powerOn s.now with linePos := s.wch.linePos, referenced := s.wch.referenced }
    lgt := Lgt.fresh s.now
    dlr := Dlr.fresh
    pnd := Pnd.fresh s.now
    acp := s.acp.softReset s.cfg strap
    rsc := s.rsc.softReset
    pending := s.pending }

/-! ### A change of the working configuration (R65, R90, R94, R113) -/

/-- R65 on one record: a holder no longer allowed passes to FS; an AP-held THROTTLE or STEER whose last decoded value
the new band leaves outside goes to DL; a record held by FS takes its reacquire flag from the new default holder. -/
def Grt.reexamineFn (g : Grt) (old new : Settings) (f : Fn) : FnRecord :=
  let r := g.fns.get f
  let moved := old.dlChannel f != new.dlChannel f
  if r.holder == .fs then r.toFs new f true
  else if !new.allows f r.holder || (r.holder == .dl && new.dlChannel f == 0) then r.toFs new f false
  else
    match g.lastDecoded.get f with
    | some v =>
      if g.link == .fresh && f.proportional && r.holder == .ap && !moved && outsideBand new f v then r.moveTo .dl v none
      else r
    | none => r

/-- R65 on the table: every record re-examined, the last decoded value of a function whose channel changed discarded. -/
def Grt.reexamine (g : Grt) (old new : Settings) : Grt :=
  { g with
    fns := PerFn.build (g.reexamineFn old new)
    lastDecoded := PerFn.build fun f =>
      if old.dlChannel f != new.dlChannel f then none else g.lastDecoded.get f }

/-- A servo's min, center, max or trim differ (R90). -/
def servoChanged (old new : Settings) (v : Servo) : Bool :=
  old.servoMin v != new.servoMin v || old.servoCenter v != new.servoCenter v || old.servoMax v != new.servoMax v ||
    old.servoTrim v != new.servoTrim v

/-- R90: a servo whose bounds or trim changed loses its emitted pulse. -/
def Str.rebound (t : Str) (old new : Settings) : Str :=
  { t with
    servo := PerServo.build fun v =>
      { t.servo.get v with emitted := if servoChanged old new v then none else (t.servo.get v).emitted } }

/-- The working configuration replaced: what CFG_WRITE and the end of a LOAD set off (R65, R90, R94, R113). -/
def State.applySettings (s : State) (new : Settings) : State :=
  let old := s.cfg
  let s1 := ((s.withRsc { s.rsc with work := new }).withStr (s.str.rebound old new)).withWch
    { s.wch with referenced := s.wch.referenced && old.pulsesPerTurn == new.pulsesPerTurn }
  let s2 := if old.winchEn && !new.winchEn then s1.preempt else s1
  s2.commitGrants (s2.grt.reexamine old new)

/-! ### Taking an accessory command (R147, R148) -/

/-- The response buffer replaced; a completed command makes AP_LOST inactive (R54). -/
def State.respond (s : State) (status : Status) (data : List Byte) : State :=
  (s.withAcp { s.acp with status := status, data := data }).withGrt
    { s.grt with apLost := s.grt.apLost && !status.completes }

/-- The checks of R147 before a command reaches the rule that owns it, with the wake of R162 at the moment it is taken.
`always` is the data Table 11-4 sends with every status, as it stands when the command is refused for its length or for
a store in flight; `exempt` is STATUS's exemption from BUSY. -/
def State.takeCommand (s : State) (lengthOk exempt : Bool) (always : State → List Byte) (owner : State → State) : State :=
  let w := s.wakeSource
  if !lengthOk then w.respond .badLength (always w)
  else if w.rsc.storeEnd.isSome && !exempt then w.respond .busy (always w)
  else owner w

/-- No data is sent with every status. -/
def noData (_ : State) : List Byte := []

/-- The data of a CONFIG_FIELD answer (R173): two bytes of image offset, 0xFFFF for none, then the reason. -/
def fieldData : Option (Nat × FieldReason) → List Byte
  | some (offset, reason) => word16 offset ++ [byteOf reason.code]
  | none => word16 0xFFFF ++ [byteOf FieldReason.notChecked.code]

end Sys2Proof.Machine
end

