-- ==== Sys2Proof/Machine/RunControl.lean ====
section
/-! DEFINITION. RUNCTL's rows HALT, SLEEP, LOAD, START and no flag (R157 to R161), the end of a LOAD (R158, R159), and
the run-state controller's timers (R160 to R162). The bench rows stand in Bench.lean. -/

namespace Sys2Proof.Machine

/-- The data RUNCTL carries with every status (R157, Table 11-4). -/
def runctlData (s : State) : List Byte :=
  [byteOf s.rsc.run.code, flagByte s.rsc.startInFlight, flagByte s.rsc.pendingStart]

/-- The answer of a RUNCTL whose effect is `s`. -/
def State.runctl (s : State) (status : Status) : State := s.respond status (runctlData s)

/-- The answer of a RUNCTL refused for a copy not marked valid (R159, step 3). -/
def State.runctlNotValid (s : State) : State := s.respond .configField (runctlData s ++ fieldData (firstBad s.cfg))

/-- HALTED with no start in flight (R157). -/
def State.haltedIdle (s : State) : Bool := s.rsc.run == .halted && !s.rsc.startInFlight

/-- RUNCTL_NO_FLAG (R157). -/
def execRunctlNoFlag (params : List Byte) (s : State) : Host.Outcome State Fault Refusal :=
  completed (s.takeCommand (params.length == 1) false runctlData fun w => w.runctl .ok)

/-- HALT (R157). -/
def execHalt (params : List Byte) (s : State) : Host.Outcome State Fault Refusal :=
  completed (s.takeCommand (params.length == 1) false runctlData fun w => w.halt.runctl .ok)

/-- SLEEP's rows (R157, R161). -/
def State.sleepRule (s : State) : State :=
  match s.rsc.run with
  | .halted => (s.enterSleep .fromHalted).runctl .ok
  | .sleep => s.runctl .ok
  | _ => s.runctl .refusedState

/-- SLEEP (R157, R161). -/
def execSleep (params : List Byte) (s : State) : Host.Outcome State Fault Refusal :=
  completed (s.takeCommand (params.length == 1) false runctlData State.sleepRule)

/-- The START flag of RUNCTL is bit 5 (Table 11-4). -/
def startFlag (ps : List Byte) : Bool := runctlFlag ps 5

/-- LOAD's rows (R157, R158). -/
def State.loadRule (s : State) (start : Bool) : State :=
  if s.haltedIdle then
    (s.withRsc
      { s.rsc with run := .loading, load := some ⟨s.now + loadTime, false⟩, pendingStart := start }).runctl .ok
  else s.runctl .refusedState

/-- LOAD (R157, R158). -/
def execLoad (params : List Byte) (s : State) : Host.Outcome State Fault Refusal :=
  completed (s.takeCommand (params.length == 1) false runctlData (State.loadRule · (startFlag params)))

/-- START's rows (R157, R159). -/
def State.startRule (s : State) : State :=
  if s.rsc.run != .halted then s.runctl .refusedState
  else if s.rsc.startInFlight then s.runctl .ok
  else if s.prot.st == .lockout then s.runctl .refusedState
  else if !s.rsc.valid then s.runctlNotValid
  else s.makeStart.runctl .ok

/-- START (R157, R159). -/
def execStart (params : List Byte) (s : State) : Host.Outcome State Fault Refusal :=
  completed (s.takeCommand (params.length == 1) false runctlData State.startRule)

/-! ### The end of a LOAD -/

/-- The settings an image holds, when it passes both parts of the check (R158). -/
def StoreImage.passing : StoreImage → Option Settings
  | .written bytes =>
    let c : Settings := ⟨bytes.take 350⟩
    if bytes.length == 352 && bytes == c.withCrc && (firstBad c).isNone then some c else none
  | _ => none

/-- The working configuration replaced at the end of a LOAD: R65, the mask from ATTN_DEFAULT (R154), the run state
HALTED, the pending start cleared. -/
def State.endLoad (s : State) (c : Settings) (valid : Bool) : State :=
  let s1 := s.applySettings c
  (s1.withRsc { s1.rsc with run := .halted, load := none, pendingStart := false, valid := valid }).withAcp
    { s1.acp with mask := c.attnDefault }

/-- The start after a successful LOAD, judged by R159. -/
def State.startAfterLoad (s : State) : State := if s.prot.st == .lockout then s else s.makeStart

/-- The LOAD in flight ends (R158, R165). -/
def State.finishLoad (s : State) (powerUp : Bool) : State :=
  match s.rsc.store.passing with
  | some c =>
    if (if powerUp then c.autoStart else s.rsc.pendingStart) then (s.endLoad c true).startAfterLoad else s.endLoad c true
  | none => (s.endLoad factorySettings false).raise .configBad

/-- LOAD_END (R158). With no LOAD in flight the event cannot occur. -/
def execLoadEnd (s : State) : Host.Outcome State Fault Refusal :=
  match s.rsc.load with
  | some l => if s.rsc.run == .loading then completed ((s.reach l.endTime).finishLoad l.powerUp) else completed s
  | none => completed s

/-! ### Timers -/

/-- ARMING becomes RUNNING (R160). -/
def State.enterRunning (s : State) : State := s.withRsc { s.rsc with run := .running, armingEnd := none }

/-- ARMING_TIMER_EXPIRY (R160). -/
def execArmingTimerExpiry (s : State) : Host.Outcome State Fault Refusal :=
  match s.rsc.armingEnd with
  | some t => if s.rsc.run == .arming then completed (s.reach t).enterRunning else completed s
  | none => completed s

/-- IDLE_SLEEP_EXPIRY (R161). -/
def execIdleSleepExpiry (s : State) : Host.Outcome State Fault Refusal :=
  match s.rsc.idleEnd with
  | some t => if s.rsc.run == .running then completed ((s.reach t).enterSleep .fromRunning) else completed s
  | none => completed s

/-- The end of a wake (R162). -/
def State.endWake (s : State) : State :=
  let s1 := s.withRsc { s.rsc with run := .halted, wakeEnd := none, sleepOrigin := none }
  if s.rsc.sleepOrigin == some .fromRunning then s1.makeStart else s1

/-- WAKE_TIMER_EXPIRY (R162). -/
def execWakeTimerExpiry (s : State) : Host.Outcome State Fault Refusal :=
  match s.rsc.wakeEnd with
  | some t => if s.rsc.run == .sleep then completed (s.reach t).endWake else completed s
  | none => completed s

end Sys2Proof.Machine
end

