-- ==== Sys2Proof/Machine/Bench.lean ====
section
/-! DEFINITION. Entering the bench (R166, R170), substituted measurements (R168) and the stall arm (R169). -/

namespace Sys2Proof.Machine

/-- The bench save (R166). -/
def State.benchSave (s : State) : BenchSave :=
  { st := s.prot.st, cause := s.prot.cause, tripTime := s.prot.tripTime, q := s.prot.q, limit := s.prot.limit,
    packBand := s.pmon.packBand, motorBand := s.pmon.motorBand, linePos := s.wch.linePos,
    referenced := s.wch.referenced, winchDir := s.wch.dir, gear := s.drv.gear }

/-- A bench state entered with its save taken (R166). -/
def State.enterBench (s : State) (run : RunState) : State :=
  s.withRsc { s.rsc with run := run, save := some s.benchSave }

/-- BENCH-DRY entered; an OC_TRIP line already asserted is a hard trip (R170). -/
def State.enterDry (s : State) : State :=
  if s.lines.ocTrip then (s.enterBench .benchDry).hardTrip else s.enterBench .benchDry

/-- BENCH_DRY's rows (R157, R166). -/
def State.benchDryRule (s : State) : State :=
  if s.haltedIdle then s.enterDry.runctl .ok else s.runctl .refusedState

/-- BENCH_DRY (R157, R166). -/
def execBenchDry (params : List Byte) (s : State) : Host.Outcome State Fault Refusal :=
  completed (s.takeCommand (params.length == 1) false runctlData State.benchDryRule)

/-- BENCH_WET's rows (R157, R166). -/
def State.benchWetRule (s : State) : State :=
  if !s.haltedIdle then s.runctl .refusedState
  else if s.prot.st == .lockout then s.runctl .refusedState
  else if !s.rsc.valid then s.runctlNotValid
  else (s.enterBench .benchWet).requestPrecharge.runctl .ok

/-- BENCH_WET (R157, R166). -/
def execBenchWet (params : List Byte) (s : State) : Host.Outcome State Fault Refusal :=
  completed (s.takeCommand (params.length == 1) false runctlData State.benchWetRule)

/-! ### BENCH_INJECT -/

/-- A window filled to its depth with a substitute (R168); the mean is published at the next sample set. -/
def Channel.inject (c : Channel) (depth : Nat) (v : Int) : Channel :=
  { c with window := List.replicate depth v, substituted := true }

/-- A measured quantity substituted. -/
def State.injectQuantity (s : State) (q : Quantity) (v : Int) : State :=
  s.withPmon { s.pmon with chan := s.pmon.chan.set q ((s.pmon.chan.get q).inject q.depth v) }

/-- The drum pulse rate set; a new rate restarts the series (R168). -/
def State.injectDrumRate (s : State) (rate : Nat) : State :=
  s.withWch
    { s.wch with
      drumRate := rate, nextBenchPulse := if rate == 0 then none else some (s.now + 1000000 / rate) }

/-- The effect of an accepted injection: absent for a quantity or a value outside the table (R168). -/
def State.injected (s : State) (code : Nat) (v : Int) : Option State :=
  match Quantity.ofCode code with
  | some q => if withinInt q.range.1 v q.range.2 then some (s.injectQuantity q v) else none
  | none => if code == drumRateCode && withinInt 0 v 500 then some (s.injectDrumRate v.toNat) else none

/-- BENCH_INJECT's own rule (R168). -/
def State.benchInject (s : State) (ps : List Byte) : State :=
  if s.rsc.run != .benchDry then s.respond .refusedState []
  else
    match s.injected (param ps 0) (paramSigned32 ps 1) with
    | some t => t.respond .ok []
    | none => s.respond .badValue []

/-- BENCH_INJECT (R168). -/
def execBenchInject (params : List Byte) (s : State) : Host.Outcome State Fault Refusal :=
  completed (s.takeCommand (params.length == 5) false noData (State.benchInject · params))

/-! ### BENCH_STALL -/

/-- BENCH_STALL's own rule (R169). -/
def State.benchStall (s : State) : State :=
  if s.rsc.run == .benchDry then (s.withWch { s.wch with stallArm := true }).respond .ok []
  else s.respond .refusedState []

/-- BENCH_STALL (R169). -/
def execBenchStall (params : List Byte) (s : State) : Host.Outcome State Fault Refusal :=
  completed (s.takeCommand (params.length == 0) false noData State.benchStall)

end Sys2Proof.Machine
end

