-- ==== Sys2Proof/Machine/Budget.lean ====
section
/-! DEFINITION. The over-current accumulator (R15, R16) and the budget period (R22, R27, R29 to R37, R44). -/

namespace Sys2Proof.Machine

/-! ### Q and LIMIT -/

/-- Q after a period with a published pack current (R15). -/
def qAfter (c : Settings) (q : Nat) (current : Int) : Nat :=
  let e := current - c.ocCont
  let raw : Int := if 0 < e then min (q + e) (2 * c.ocTripQ : Nat) else max 0 (q + e.tdiv 4)
  (clampInt 0 (2 * c.ocTripQ : Nat) raw).toNat

/-- LIMIT after Q's update (R16). -/
def limitAfter (c : Settings) (q : Nat) (limit : Bool) : Bool :=
  if c.ocTripQ ≤ q then true else if q ≤ c.ocTripQ / 2 then false else limit

/-- PROT's part of the budget period; while the pack current is not ready nothing is updated (R15). -/
def Prot.updateQ (p : Prot) (c : Settings) : Option Int → Prot
  | some current =>
    { p with q := qAfter c p.q current, limit := limitAfter c (qAfter c p.q current) p.limit }
  | none => p

/-! ### Stages 1 to 7 -/

/-- What a computation reads (R29). -/
structure BudgetInputs where
  vmin : Option Int
  packBand : Nat
  limit : Bool
  prot : ProtState
  closed : Bool
  demand : PerConsumer Nat
deriving DecidableEq, Repr

/-- Stage 1: the voltage factor (R30); the first case that applies (R163). -/
def stageKv (c : Settings) : Option Int → Nat
  | none => 0
  | some v =>
    if (c.vWarn : Int) ≤ v then 1000
    else if v ≤ c.vCut then 250
    else (250 + (750 * (v - c.vCut)).tdiv ((c.vWarn : Int) - c.vCut)).toNat

/-- Stage 2: the thermal factor (R31). -/
def stageKt (c : Settings) (band : Nat) : Nat := c.ptDerate band * 10

/-- Stage 3: the raw available current (R32). -/
def stageA0 (c : Settings) (kv kt : Nat) : Nat := c.packLimit * kv * kt / 1000000

/-- Stage 4: the available current (R33). -/
def stageA (c : Settings) (i : BudgetInputs) (a0 : Nat) : Nat :=
  if !i.closed || i.prot == .lockout || i.vmin.isNone then 0
  else (if i.limit then min a0 c.ocCont else a0) - c.baseLoad

/-- DRIVE and WINCH are excluded (R33). -/
def BudgetInputs.excluded (i : BudgetInputs) : Bool := i.prot == .cutoff

/-- The demands as used (R33). -/
def BudgetInputs.used (i : BudgetInputs) : PerConsumer Nat :=
  if i.excluded then (i.demand.set .drive 0).set .winch 0 else i.demand

/-- One pass over consumers in rank order: each receives the smaller of what it may have and what remains. -/
def servePass (want : Consumer → Nat) : List Consumer → Nat → PerConsumer Nat → PerConsumer Nat × Nat
  | [], remaining, shares => (shares, remaining)
  | k :: ks, remaining, shares =>
    servePass want ks (remaining - min (want k) remaining) (shares.set k (min (want k) remaining))

/-- Stage 5, the floors pass (R34). -/
def floorsPass (c : Settings) (used : PerConsumer Nat) (a : Nat) : PerConsumer Nat × Nat :=
  servePass (fun k => min (c.floorOf k) (min (used.get k) (c.ceilOf k))) c.rankOrder a (PerConsumer.build fun _ => 0)

/-- Stage 6, the demand pass (R35). -/
def demandPass (c : Settings) (used first : PerConsumer Nat) (remaining : Nat) : PerConsumer Nat × Nat :=
  servePass (fun k => min (used.get k - first.get k) (c.ceilOf k - first.get k)) c.rankOrder remaining
    (PerConsumer.build fun _ => 0)

/-- One computation of the budget, stages 1 to 7 (R30 to R35). -/
def computeBudget (c : Settings) (i : BudgetInputs) : BudgetResult :=
  let kv := stageKv c i.vmin
  let kt := stageKt c i.packBand
  let a0 := stageA0 c kv kt
  let a := stageA c i a0
  let floors := floorsPass c i.used a
  let extra := demandPass c i.used floors.1 floors.2
  { a := a, a0 := a0, kv := kv, kt := kt, limitRead := i.limit, excluded := i.excluded, leftover := extra.2
    demand := i.used
    grant := PerConsumer.build fun k => floors.1.get k + extra.1.get k }

/-! ### Starvation and the servo rail (R36, R37) -/

/-- A consumer is short (R35). -/
def BudgetResult.short (r : BudgetResult) (k : Consumer) : Bool := r.grant.get k < r.demand.get k

/-- A starved time after a computation (R36). -/
def starvedAfter (short : Bool) (starved : Nat) : Nat := if short then min 60000 (starved + 10) else 0

/-- SERVO_SHORT from the two counts (R37). -/
def servoShortAfter (short clear : Nat) (active : Bool) : Bool :=
  if short == 3 then true else if clear == 3 then false else active

/-- The starved times, the SERVO counts and SERVO_SHORT after a computation (R36, R37). -/
def Bgt.account (b : Bgt) (r : BudgetResult) : Bgt :=
  let short := if r.short .servo then min 3 (b.shortCount + 1) else 0
  let clear := if r.short .servo then 0 else min 3 (b.clearCount + 1)
  { b with
    starved := PerConsumer.build fun k => starvedAfter (r.short k) (b.starved.get k)
    shortCount := short
    clearCount := clear
    servoShort := servoShortAfter short clear b.servoShort }

/-! ### The budget period -/

/-- The SERVO demand (R27). -/
def State.servoDemand (s : State) : Nat := ((s.published .servoCurrent).getD 0).toNat + s.cfg.servoMargin

/-- The inputs of a computation (R29); `closed` and the LIGHTS demand are what differs in the trial run (R44, R167). -/
def State.budgetInputs (s : State) (closed : Bool) (lights : Nat) : BudgetInputs :=
  { vmin := s.pmon.vmin, packBand := s.pmon.packBand, limit := s.prot.limit, prot := s.prot.st, closed := closed
    demand := { servo := s.servoDemand, drive := s.drv.demand, winch := s.wch.demand, lights := lights } }

/-- The BGT's own part of the period (R22, R29, R36 to R38, R44). DESIGN CHOICE (log 35): between entry to BENCH-DRY and the
first light frame boundary there no trial demand of the lights exists yet, and the trial run takes the LIGHTS demand of the
last boundary before the entry. -/
def State.budgetCompute (s : State) : State :=
  let c := s.cfg
  let pub := computeBudget c (s.budgetInputs (s.prot.sw == .closed) s.lgt.pubDemand)
  let trial := computeBudget c (s.budgetInputs true s.lgt.demand)
  let dry := s.rsc.run == .benchDry
  let b := { s.bgt with
    rank := PerConsumer.build c.rankOf
    floor := PerConsumer.build c.floorOf
    ceiling := PerConsumer.build c.ceilOf
    pub := pub
    trial := if dry then some trial else none
    nextPeriod := s.now + stepPeriod }
  s.withBgt (if dry then b.account trial else if s.prot.sw == .closed then b.account pub else b)

/-- BUDGET_PERIOD (R15, R16, R29). -/
def execBudgetPeriod (s : State) : Host.Outcome State Fault Refusal :=
  let s1 := s.reach s.bgt.nextPeriod
  completed (s1.withProt (s1.prot.updateQ s1.cfg (s1.published .packCurrent))).budgetCompute

/-- SERVO_SHORT (R37): active once the short count has reached 3, inactive once the clear count has. -/
def execServoShort (s : State) : Host.Outcome State Fault Refusal :=
  completed (s.withBgt
    { s.bgt with servoShort := servoShortAfter s.bgt.shortCount s.bgt.clearCount s.bgt.servoShort })

end Sys2Proof.Machine
end

