-- ==== Sys2Proof/Machine/Configuration.lean ====
section
/-! DEFINITION. The working configuration's commands (R163) and the store (R164). -/

namespace Sys2Proof.Machine

/-- CFG_READ's own rule (R163). -/
def State.cfgRead (s : State) (ps : List Byte) : State :=
  let offset := param16 ps 0
  let len := param ps 2
  if within 1 len 16 && decide (offset + len ≤ 352) then
    s.respond .ok ((s.cfg.withCrc.drop offset).take len)
  else s.respond .badValue []

/-- CFG_READ (R163). -/
def execCfgRead (params : List Byte) (s : State) : Host.Outcome State Fault Refusal :=
  completed (s.takeCommand (params.length == 3) false noData (State.cfgRead · params))

/-- The data bytes of a CFG_WRITE match its own count (R147, Table 11-4). -/
def cfgWriteLengthOk (ps : List Byte) : Bool := decide (3 ≤ ps.length) && ps.length == 3 + param ps 2

/-- The run states CFG_WRITE is taken in (R163). -/
def State.cfgWritable (s : State) : Bool :=
  (s.rsc.run == .halted && !s.rsc.startInFlight) || s.rsc.run == .benchDry

/-- The working copy replaced and marked not valid (R163). -/
def State.editConfig (s : State) (c : Settings) : State :=
  let s1 := s.applySettings c
  s1.withRsc { s1.rsc with valid := false }

/-- CFG_WRITE's own rule (R163). -/
def State.cfgWrite (s : State) (ps : List Byte) : State :=
  let offset := param16 ps 0
  let data := ps.drop 3
  if !s.cfgWritable then s.respond .refusedState []
  else if !(within 1 data.length 16 && decide (offset + data.length ≤ 350)) then s.respond .badValue []
  else
    match firstBadTouched (s.cfg.write offset data) offset data.length with
    | some field => s.respond .configField (fieldData (some (field, .range)))
    | none => (s.editConfig (s.cfg.write offset data)).respond .ok []

/-- CFG_WRITE (R163). -/
def execCfgWrite (params : List Byte) (s : State) : Host.Outcome State Fault Refusal :=
  completed (s.takeCommand (cfgWriteLengthOk params) false noData (State.cfgWrite · params))

/-- CFG_CHECK's own rule (R163). -/
def State.cfgCheck (s : State) : State :=
  match firstBad s.cfg with
  | none => (s.withRsc { s.rsc with valid := true }).respond .ok []
  | some bad => (s.withRsc { s.rsc with valid := false }).respond .configField (fieldData (some bad))

/-- CFG_CHECK (R163). -/
def execCfgCheck (params : List Byte) (s : State) : Host.Outcome State Fault Refusal :=
  completed (s.takeCommand (params.length == 0) false noData State.cfgCheck)

/-- The store begins (R164): until it ends the image is partly written. -/
def State.beginStore (s : State) : State :=
  s.withRsc { s.rsc with storeEnd := some (s.now + storeTime), store := .partlyWritten }

/-- CFG_STORE's own rule (R164). -/
def State.cfgStore (s : State) : State :=
  if s.rsc.run != .halted || s.rsc.startInFlight then s.respond .refusedState []
  else if !s.rsc.valid then s.respond .configField (fieldData (firstBad s.cfg))
  else s.beginStore.respond .ok []

/-- CFG_STORE (R164). -/
def execCfgStore (params : List Byte) (s : State) : Host.Outcome State Fault Refusal :=
  completed (s.takeCommand (params.length == 0) false noData State.cfgStore)

/-- The store ends with the image read back (R164). -/
def State.endStore (s : State) (readBack : List Byte) : State :=
  let s1 := s.withRsc { s.rsc with storeEnd := none, store := .written readBack }
  if readBack == s.cfg.withCrc then s1 else s1.raise .storeFail

/-- STORE_END (R164). With no store in flight the event cannot occur. -/
def execStoreEnd (readBack : List Byte) (s : State) : Host.Outcome State Fault Refusal :=
  match s.rsc.storeEnd with
  | some t => completed ((s.reach t).endStore readBack)
  | none => completed s

end Sys2Proof.Machine
end

