-- ==== Sys2Proof/Machine/Drive.lean ====
section
/-! DEFINITION. The drive step (R25, R39, R68 to R77). -/

namespace Sys2Proof.Machine

/-- The target duty (R69). -/
def State.driveTarget (s : State) : Int :=
  if s.countedRunning && s.protDrives && s.cfg.driveEn then s.valueOf .throttle else 0

/-- The budget cap (R39). -/
def State.driveBudgetCap (s : State) : Nat := min 1000 (1000 * s.grantFor .drive / s.cfg.driveRated)

/-- The motor thermal cap (R70). -/
def State.driveThermalCap (s : State) : Nat := s.cfg.mtDerate s.pmon.motorBand * 10

/-- The interlock cap (R70): formed at every step, and in force while the interlock flag is set. -/
def State.driveInterlockCap (s : State) : Nat := s.cfg.winchDriveCap

/-- The smallest of the caps in force (R70). -/
def driveCapOf (budget thermal interlock : Nat) (interlocked : Bool) : Nat :=
  if interlocked then min (min budget thermal) interlock else min budget thermal

/-- The applied duty after a step (R72): clamped to the cap at once, or moved toward the limited target by at most
`rate`. -/
def slewDuty (cap rate : Nat) (target applied : Int) : Int :=
  if cap < applied.natAbs then signInt applied * cap
  else
    let goal := clampInt (-(cap : Int)) cap target
    if (goal - applied).natAbs ≤ rate then goal else applied + signInt (goal - applied) * rate

/-- The DRIVE demand (R24, R25). -/
def State.driveDemand (s : State) : Nat :=
  if s.cfg.driveEn && s.countedRunning then (s.valueOf .throttle).natAbs * s.cfg.driveRated / 1000 else 0

/-- The pending gear after the comparison of R76. -/
def State.gearRequest (s : State) : Option Gear :=
  if s.countedClosed then
    if Gear.ofValue (s.valueOf .gear) == s.drv.gear then none else some (Gear.ofValue (s.valueOf .gear))
  else none

/-- The shift of R77 is made. -/
def State.shiftMade (s : State) (applied : Int) : Bool :=
  s.gearRequest.isSome && applied.natAbs ≤ s.cfg.gearShiftMax && !s.bgt.servoShort

/-- DRV_DIR's level after a duty's direction (R73): with NONE it keeps its last level. -/
def dirLevelAfter (dir : DriveDir) (level : Bool) : Bool :=
  match dir with
  | .forward => false
  | .backward => true
  | .none => level

/-- The drive controller after a drive step (R68, steps 1 to 7). In both bench states DRV_DIR does not follow the
computed direction (R73): it stays at the level it had (log 29). -/
def State.driveAfterStep (s : State) : Drv :=
  let interlock := s.wch.moving
  let cap := driveCapOf s.driveBudgetCap s.driveThermalCap s.driveInterlockCap interlock
  let target := s.driveTarget
  let applied := slewDuty cap s.cfg.rate target s.drv.applied
  let dragBrake := target == 0 && applied == 0
  { target := target
    applied := applied
    dir := driveDirOf applied
    budgetCap := s.driveBudgetCap
    thermalCap := s.driveThermalCap
    interlockCap := s.driveInterlockCap
    cap := cap
    interlock := interlock
    dragBrake := dragBrake
    brake := brakeSignal target applied dragBrake
    reverse := applied < 0
    gear := if s.shiftMade applied then s.gearRequest.getD s.drv.gear else s.drv.gear
    pendingGear := if s.shiftMade applied then none else s.gearRequest
    demand := s.driveDemand
    pwm := if s.drivePwmReleased then applied.natAbs else 0
    dirReverse := if s.rsc.run.bench then s.drv.dirReverse else dirLevelAfter (driveDirOf applied) s.drv.dirReverse
    brk := if dragBrake && s.driveBrkReleased then some s.cfg.drag else none
    nextStep := s.now + stepPeriod }

/-- DRIVE_STEP (R68). -/
def execDriveStep (s : State) : Host.Outcome State Fault Refusal :=
  let s1 := s.reach s.drv.nextStep
  completed (s1.withDrv s1.driveAfterStep)

end Sys2Proof.Machine
end

