-- ==== Sys2Proof/Machine/Grants.lean ====
section
/-! DEFINITION. The grant table's own events and commands: the accessory leases (R54), the five grant commands (R55 to
R60), what a fresh frame does (R49, R51 to R53), the expiry of the radio freshness timer (R50), and what a pendant
change does (R61, R62). -/

namespace Sys2Proof.Machine

/-- When a lease started now expires (R54). -/
def State.leaseEnd (s : State) : Option Nat := some (s.now + s.cfg.apTimeout * msec)

/-- A function joins the lost set (R63). -/
def Grt.lose (g : Grt) (f : Fn) : Grt := { g with lost := g.lost.set f true }

/-! ### A fresh frame (R51 to R53) -/

/-- The decoded values of one frame: absent for a function without a DL channel. -/
abbrev Decoded := PerFn (Option Int)

/-- The override condition of R52 on a record held by AP or FS. -/
def overrides (c : Settings) (f : Fn) (last : Option Int) (v : Int) : Bool :=
  c.allows f .dl && (if f.proportional then outsideBand c f v else last.any (· != v))

/-- The return condition of R53 on a record held by FS which R52 has not taken. -/
def returns (c : Settings) (f : Fn) (r : FnRecord) (v : Int) : Bool :=
  c.defaultHolder f == some .dl && (if f.proportional then r.reacquire && !outsideBand c f v else true)

/-- One record at a fresh frame with decoded value `v` (R51, steps 3 and 4). -/
def FnRecord.atFrame (r : FnRecord) (c : Settings) (f : Fn) (last : Option Int) (v : Int) : FnRecord :=
  match r.holder with
  | .dl => { r with value := v }
  | .pd => r
  | .ap => if overrides c f last v then r.moveTo .dl v none else r
  | .fs => if overrides c f last v || returns c f r v then r.moveTo .dl v none else r

/-- The record of function `f` after a frame: untouched without a decoded value. -/
def Grt.recordAtFrame (g : Grt) (c : Settings) (decoded : Decoded) (f : Fn) : FnRecord :=
  match decoded.get f with
  | some v => (g.fns.get f).atFrame c f (g.lastDecoded.get f) v
  | none => g.fns.get f

/-- The frame takes function `f` from AP (R52, R63). -/
def Grt.lostAtFrame (g : Grt) (c : Settings) (decoded : Decoded) (f : Fn) : Bool :=
  (g.fns.get f).holder == .ap && (decoded.get f).any (overrides c f (g.lastDecoded.get f))

/-- The grant table after a fresh frame (R49, R51). -/
def Grt.freshFrame (g : Grt) (c : Settings) (decoded : Decoded) (now : Nat) : Grt :=
  { g with
    fns := PerFn.build (g.recordAtFrame c decoded)
    link := .fresh
    freshEnd := some (now + c.dlTimeout * msec)
    lastDecoded := PerFn.build fun f => (decoded.get f).orElse fun _ => g.lastDecoded.get f
    lost := PerFn.build fun f => g.lost.get f || g.lostAtFrame c decoded f }

/-! ### Expiries -/

/-- The table at the expiry of the freshness timer (R49, R50). -/
def Grt.freshnessExpired (g : Grt) (c : Settings) : Grt :=
  { g with
    fns := PerFn.build fun f =>
      if (g.fns.get f).holder == .dl then (g.fns.get f).toFs c f (c.holds f) else g.fns.get f
    link := .lost
    freshEnd := none }

/-- DL_FRESHNESS_EXPIRY (R50). With the timer stopped the event cannot occur. -/
def execDlFreshnessExpiry (s : State) : Host.Outcome State Fault Refusal :=
  match s.grt.freshEnd with
  | some t =>
    let s1 := s.reach t
    completed (s1.commitGrants (s1.grt.freshnessExpired s1.cfg))
  | none => completed s

/-- AP_LEASE_EXPIRY (R54). With that lease stopped the event cannot occur. -/
def execApLeaseExpiry (f : Fn) (s : State) : Host.Outcome State Fault Refusal :=
  match (s.grt.fns.get f).lease with
  | some t =>
    let s1 := s.reach t
    let r := (s1.grt.fns.get f).toFs s1.cfg f (s1.cfg.holds f)
    completed (s1.commitGrants { s1.grt.put f r with apLost := true })
  | none => completed s

/-! ### The pendant (R61, R62) -/

/-- The value the buttons give (R61). -/
def pendantValue (c : Settings) (inPressed outPressed : Bool) : Int :=
  if inPressed && !outPressed then -(c.pdSpeed : Int) else if outPressed && !inPressed then c.pdSpeed else 0

/-- A change that leaves a button pressed (R61). -/
def Grt.pendantPressed (g : Grt) (c : Settings) (v : Int) : Grt :=
  let r := g.fns.get .winch
  if !c.allows .winch .pd then g
  else if r.holder == .pd then g.put .winch { r with value := v }
  else
    let g1 := g.put .winch (r.moveTo .pd v none)
    if r.holder == .ap then g1.lose .winch else g1

/-- The record of `f` where its holder gives it up: to DL with the last decoded value, else to FS with the neutral
value (R59, R62). -/
def Grt.givenUp (g : Grt) (c : Settings) (f : Fn) : FnRecord :=
  match g.lastDecoded.get f with
  | some v =>
    if c.defaultHolder f == some .dl && g.link == .fresh then (g.fns.get f).moveTo .dl v none
    else (g.fns.get f).toFs c f false
  | none => (g.fns.get f).toFs c f false

/-- A change that leaves both buttons released (R62). -/
def Grt.pendantReleased (g : Grt) (c : Settings) : Grt :=
  if (g.fns.get .winch).holder == .pd then g.put .winch (g.givenUp c .winch) else g

/-- A debounced change presented to the grant table. -/
def Grt.pendantChange (g : Grt) (c : Settings) (inPressed outPressed : Bool) : Grt :=
  if inPressed || outPressed then g.pendantPressed c (pendantValue c inPressed outPressed) else g.pendantReleased c

/-! ### The grant commands (R55 to R60) -/

/-- Holder and seq as a response carries them. -/
def grantData (holder : Holder) (seq : Nat) : List Byte := [byteOf holder.code, byteOf seq]

/-- The data of a function above 6 (R173), and of a command that carries no function byte (log 13). -/
def noGrant : List Byte := [0xFF, 0xFF]

/-- The data of a refused grant command: the present holder and seq (R55). -/
def State.presentGrant (s : State) (f : Fn) : List Byte := grantData (s.grt.fns.get f).holder (s.grt.fns.get f).seq

/-- The "always" data of a grant command refused before its rule: those of the function its first byte names. -/
def refusedGrant (ps : List Byte) (s : State) : List Byte :=
  match ps with
  | [] => noGrant
  | b :: _ => (Fn.ofId b.toNat).elim noGrant s.presentGrant

/-- The two checks of R55 for a command that carries a function id. -/
def State.grantRule (s : State) (ps : List Byte) (rule : Fn → State → State) : State :=
  match Fn.ofId (param ps 0) with
  | none => s.respond (if s.rsc.run == .sleep then .refusedState else .badValue) noGrant
  | some f => if s.rsc.run == .sleep then s.respond .refusedState (s.presentGrant f) else rule f s

/-- A refusal by the command's own rule. -/
def State.refuseGrant (s : State) (f : Fn) (status : Status) : State := s.respond status (s.presentGrant f)

/-- A success: the new record committed, the holder before and the seq after reported. -/
def State.grantTo (s : State) (f : Fn) (r : FnRecord) (status : Status) : State :=
  (s.commitGrants (s.grt.put f r)).respond status (grantData (s.grt.fns.get f).holder r.seq)

/-- The refusals of CLAIM, in the table's order (R56). -/
def State.claimRefusal (s : State) (f : Fn) : Option Status :=
  if !s.cfg.allows f .ap then some .notAllowed
  else if s.holderOf f == .pd then some .notAllowed
  else if f.proportional && s.grt.link == .fresh && (s.grt.lastDecoded.get f).any (outsideBand s.cfg f) then
    some .overridden
  else none

/-- The record a successful claim leaves (R56). -/
def State.claimed (s : State) (f : Fn) : FnRecord :=
  let r := s.grt.fns.get f
  if r.holder == .ap then { r with lease := s.leaseEnd } else r.moveTo .ap r.value s.leaseEnd

/-- CLAIM's own table (R56). -/
def State.claim (s : State) (f : Fn) : State :=
  match s.claimRefusal f with
  | some status => s.refuseGrant f status
  | none => s.grantTo f (s.claimed f) .ok

/-- CLAIM (R55, R56). -/
def execClaim (params : List Byte) (s : State) : Host.Outcome State Fault Refusal :=
  completed (s.takeCommand (params.length == 1) false (refusedGrant params) fun w =>
    w.grantRule params fun f t => t.claim f)

/-- A switch value outside its range (R57, Table 3-1). -/
def switchOutside (f : Fn) (v : Int) : Bool := !f.proportional && (v < 0 || f.topCode < v)

/-- The status of an accepted value: a proportional one outside −1000..+1000 is clamped (R57). -/
def setStatus (f : Fn) (v : Int) : Status := if f.proportional && 1000 < v.natAbs then .okClamped else .ok

/-- The value an accepted SET writes (R57). -/
def settable (f : Fn) (v : Int) : Int := if f.proportional then clampInt (-1000) 1000 v else v

/-- SET's own table (R57). -/
def State.setValue (s : State) (f : Fn) (v : Int) (seq : Nat) : State :=
  let r := s.grt.fns.get f
  if r.holder != .ap || r.seq != seq then s.refuseGrant f .notHolder
  else if f == .winch then s.refuseGrant f .notAllowed
  else if switchOutside f v then s.refuseGrant f .badValue
  else s.grantTo f { r with value := settable f v, lease := s.leaseEnd } (setStatus f v)

/-- SET (R55, R57). -/
def execSet (params : List Byte) (s : State) : Host.Outcome State Fault Refusal :=
  completed (s.takeCommand (params.length == 4) false (refusedGrant params) fun w =>
    w.grantRule params fun f t => t.setValue f (paramSigned16 params 1) (param params 3))

/-- CLAIM_SET's own checks (R58). -/
def State.claimSet (s : State) (f : Fn) (v : Int) : State :=
  if f == .winch then s.refuseGrant f .notAllowed
  else if switchOutside f v then s.refuseGrant f .badValue
  else
    match s.claimRefusal f with
    | some status => s.refuseGrant f status
    | none => s.grantTo f { s.claimed f with value := settable f v } (setStatus f v)

/-- CLAIM_SET (R55, R58). -/
def execClaimSet (params : List Byte) (s : State) : Host.Outcome State Fault Refusal :=
  completed (s.takeCommand (params.length == 3) false (refusedGrant params) fun w =>
    w.grantRule params fun f t => t.claimSet f (paramSigned16 params 1))

/-- RELEASE's own rule (R59). -/
def State.releaseFn (s : State) (f : Fn) : State :=
  if s.holderOf f != .ap then s.refuseGrant f .notHolder else s.grantTo f (s.grt.givenUp s.cfg f) .ok

/-- RELEASE (R55, R59). -/
def execRelease (params : List Byte) (s : State) : Host.Outcome State Fault Refusal :=
  completed (s.takeCommand (params.length == 1) false (refusedGrant params) fun w =>
    w.grantRule params fun f t => t.releaseFn f)

/-- The functions AP holds, in id order. -/
def Grt.apHeld (g : Grt) : List Fn := Fn.all.filter fun f => (g.fns.get f).holder == .ap

/-- Every lease restarted (R60). -/
def State.refreshed (s : State) : Grt :=
  { s.grt with
    fns := PerFn.build fun f =>
      if (s.grt.fns.get f).holder == .ap then { s.grt.fns.get f with lease := s.leaseEnd } else s.grt.fns.get f }

/-- REFRESH's own rule (R55, R60). -/
def State.refresh (s : State) : State :=
  if s.rsc.run == .sleep then s.respond .refusedState []
  else (s.withGrt s.refreshed).respond .ok (idList 7 (s.grt.apHeld.map Fn.code))

/-- REFRESH (R55, R60). -/
def execRefresh (params : List Byte) (s : State) : Host.Outcome State Fault Refusal :=
  completed (s.takeCommand (params.length == 0) false noData State.refresh)

end Sys2Proof.Machine
end

