-- ==== Sys2Proof/Config.lean ====
section
/-! DEFINITION. The values the spec leaves open, as constants without a body: nothing can be proved of their value. -/

namespace Sys2Proof.Config

/-- FREE VALUE (log 4). R1: a tap or VPACK sample "is first converted with the calibration block: tap gains for the
taps and VPACK". The spec gives no formula. Arguments: the gain, the raw sample. The answer is in mV. -/
opaque tapConverted : Int → Int → Int

/-- FREE VALUE (log 4). R1: "shunt offset and gain for ISHUNT and ISERVO". The spec gives no formula. Arguments: the
offset, the gain, the raw sample. The answer is in mA. -/
opaque shuntConverted : Int → Int → Int → Int

/-- FREE VALUE (log 4). R1: "thermistor offsets for TPACK and TMOTOR". The spec gives no formula. Arguments: the
offset, the raw sample. The answer is in degrees Celsius. -/
opaque thermistorConverted : Int → Int → Int

/-- FREE VALUE (log 5). R126 gives the state of a BLINK entry as `floor(counter × 20 / (p × 100))` with p in 2..20. A
working copy that has not been checked can hold a BLINK entry of period 0 (log 10), for which the quotient does not
exist. Argument: the blink counter. The answer: whether the entry is on. -/
opaque blinkPeriodZeroOn : Nat → Bool

end Sys2Proof.Config
end

