-- ==== Sys2Proof/Machine/Lights.lean ====
section
/-! DEFINITION. The light frame boundary (R28, R41, R119 to R133) and SCENE_WRITE (R122). -/

namespace Sys2Proof.Machine

/-! ### The frame table -/

/-- The scene table of a configuration, 192 bytes. -/
def Settings.sceneTable (c : Settings) : List Byte := (c.bytes.drop 158).take 192

/-- Entry (scene, output) of a frame table (R121). -/
def frameEntry (table : List Byte) (scene : Nat) (l : Lamp) : SceneEntry :=
  sceneEntryOf (param table (3 * (8 * scene + l.code))) (param table (3 * (8 * scene + l.code) + 1))
    (param table (3 * (8 * scene + l.code) + 2))

/-! ### Follow sources and blinking -/

/-- The parity of a half-cycle at a counter: `half` is its length, ms (R125, R126). -/
def halfCycle (counter half : Nat) : Nat := counter * 20 / half % 2

/-- The six follow sources, in the order of their codes (R125). -/
def followSources (c : Settings) (i : LightInputs) (counter : Nat) : List Bool :=
  [ i.brake, i.reverse, decide (i.steer < -(c.turnThresh : Int)), decide ((c.turnThresh : Int) < i.steer), i.winchRun,
    (i.prot == .warn || i.prot == .cutoff || i.prot == .lockout) && halfCycle counter 500 == 0 ]

/-- A BLINK entry is on (R126); a period of 0, which only a copy not yet checked can hold, is left open (log 5). -/
def blinkOn (counter period phase : Nat) : Bool :=
  if period == 0 then Config.blinkPeriodZeroOn counter else halfCycle counter (period * 100) == phase

/-- The base duty of an entry (R127). -/
def SceneEntry.base (e : SceneEntry) : Nat := if e.mode == 0 then 0 else e.level

/-- Whether an entry's output is lit (R127). -/
def SceneEntry.lit (e : SceneEntry) (follow : List Bool) (counter : Nat) : Bool :=
  match e.mode with
  | 0 => false
  | 1 => true
  | 2 => blinkOn counter e.period e.phase
  | _ => follow.getD e.follow false

/-! ### Draws, demands, scales -/

/-- The draw of an output at a duty (R119). -/
def drawOf (c : Settings) (l : Lamp) (duty : Nat) : Nat := duty * c.ratedMa l / 1000

/-- The sum of the eight draws. -/
def totalDraw (c : Settings) (duties : PerLamp Nat) : Nat := (Lamp.all.map fun l => drawOf c l (duties.get l)).sum

/-- The same sum over the outputs whose essential flag is set (R127). -/
def essentialDraw (c : Settings) (duties : PerLamp Nat) : Nat :=
  ((Lamp.all.filter c.essential).map fun l => drawOf c l (duties.get l)).sum

/-- The scale of a grant against a demand (R41, R129, R131). -/
def scaleOf (grant demand : Nat) : Nat := if demand == 0 then 1000 else min 1000 (1000 * grant / demand)

/-- Reduced mode is forced (R129). -/
def LightInputs.forced (i : LightInputs) : Bool := i.prot == .cutoff || i.prot == .lockout

/-- The duties of R130 and R131, before the trim. -/
def dutiesOf (c : Settings) (reduced : Bool) (scale essentialScale : Nat) (base : PerLamp Nat) (lit : PerLamp Bool) :
    PerLamp Nat :=
  PerLamp.build fun l =>
    if !lit.get l || (reduced && !c.essential l) then 0
    else base.get l * (if reduced then essentialScale else scale) / 1000

/-! ### The trim (R132) -/

/-- One visit of the trim. -/
def trimOne (c : Settings) (grant : Nat) (duties : PerLamp Nat) (l : Lamp) : PerLamp Nat :=
  let excess := totalDraw c duties - grant
  let draw := drawOf c l (duties.get l)
  if excess == 0 || draw == 0 then duties
  else duties.set l (min (duties.get l) (1000 * (draw - min draw excess) / c.ratedMa l))

/-- The order of the visits: the non-essential outputs from L7 down, then the essential ones. -/
def trimOrder (c : Settings) : List Lamp :=
  (Lamp.all.filter fun l => !c.essential l).reverse ++ (Lamp.all.filter c.essential).reverse

/-- The duties after the trim. -/
def trimDuties (c : Settings) (grant : Nat) (duties : PerLamp Nat) : PerLamp Nat :=
  (trimOrder c).foldl (trimOne c grant) duties

/-! ### The boundary (R124) -/

/-- Step 2: the inputs latched at a boundary. -/
def State.lightInputs (s : State) : LightInputs :=
  { grant := s.grantFor .lights, prot := s.prot.st, run := s.rsc.run, lightsEn := s.cfg.lightsEn,
    steer := s.valueOf .steer, brake := s.drv.brake, reverse := s.drv.reverse, winchRun := s.wch.moving }

/-- The lights are off (R128). -/
def LightInputs.off (i : LightInputs) : Bool :=
  !i.lightsEn || i.run == .halted || i.run == .loading || i.run == .sleep || i.run == .benchDry

/-- Duties are computed: the lights are on, or BENCH-DRY is all that keeps them off (R128). -/
def LightInputs.computes (i : LightInputs) : Bool := !i.off || (i.lightsEn && i.run == .benchDry)

/-- Outputs carry their duty: the switch is CLOSED and the run state is not BENCH-DRY (R133). -/
def State.lightsDriven (s : State) : Bool := s.prot.sw == .closed && s.rsc.run != .benchDry

/-- What steps 3 and 4 find for each output. -/
structure LightScene where
  follow : List Bool
  base : PerLamp Nat
  lit : PerLamp Bool
  demand : Nat
  essentialDemand : Nat
deriving DecidableEq, Repr

/-- Steps 3 and 4 for the active scene of a frame table (R125 to R127). -/
def lightScene (c : Settings) (table : List Byte) (scene : Nat) (i : LightInputs) (counter : Nat) : LightScene :=
  let follow := followSources c i counter
  let base := PerLamp.build fun l => (frameEntry table scene l).base
  { follow := follow
    base := base
    lit := PerLamp.build fun l => (frameEntry table scene l).lit follow counter
    demand := totalDraw c base
    essentialDemand := essentialDraw c base }

/-- Reduced mode at a boundary (R129). -/
def reducedMode (c : Settings) (i : LightInputs) (scale : Nat) : Bool := i.forced || decide (scale < c.reduceThresh)

/-- The duties of a boundary before and after the trim, when duties are computed (steps 6 and 7). -/
def untrimmed (c : Settings) (i : LightInputs) (m : LightScene) : PerLamp Nat :=
  dutiesOf c (reducedMode c i (scaleOf i.grant m.demand)) (scaleOf i.grant m.demand)
    (scaleOf i.grant m.essentialDemand) m.base m.lit

/-- The records of the outputs at a boundary (R119, R133). -/
def lampRecords (c : Settings) (driven : Bool) (m : LightScene) (duties : PerLamp Nat) : PerLamp LampRecord :=
  PerLamp.build fun l =>
    { base := m.base.get l, lit := m.lit.get l, duty := duties.get l, draw := drawOf c l (duties.get l),
      line := if driven then duties.get l else 0 }

/-- Steps 5 and 8 with the lights off and nothing computed (R128). -/
def Lgt.offFrame (l : Lgt) (m : LightScene) (c : Settings) : Lgt :=
  { l with
    follow := m.follow
    lamp := lampRecords c false m (PerLamp.build fun _ => 0)
    off := true
    pubDemand := 0
    demand := 0
    essentialDemand := m.essentialDemand
    scale := 1000
    reduced := false
    forced := false
    trimmed := false
    excess := 0 }

/-- Steps 6 to 8 with duties computed (R129 to R133). In BENCH-DRY the reduced-mode flag, forced, trim and excess reported
are those of the trial computation, as the demand and the duties are (DESIGN CHOICE, log 17). -/
def Lgt.onFrame (l : Lgt) (m : LightScene) (c : Settings) (i : LightInputs) (driven : Bool) : Lgt :=
  let scale := scaleOf i.grant m.demand
  let excess := totalDraw c (untrimmed c i m) - i.grant
  { l with
    follow := m.follow
    lamp := lampRecords c driven m (trimDuties c i.grant (untrimmed c i m))
    off := i.off
    pubDemand := if i.off then 0 else m.demand
    demand := m.demand
    essentialDemand := m.essentialDemand
    scale := scale
    essentialScale := if reducedMode c i scale then scaleOf i.grant m.essentialDemand else l.essentialScale
    reduced := reducedMode c i scale
    forced := i.forced
    trimmed := excess != 0
    excess := excess }

/-- Step 1, step 2, and the counter and time of the next boundary (R121, R123, R124, R126). -/
def Lgt.latch (l : Lgt) (c : Settings) (i : LightInputs) (now : Nat) : Lgt :=
  { l with
    frameTable := c.sceneTable
    activeScene := l.pendingScene
    latched := some i
    blink := (l.blink + 1) % 4294967296
    nextFrame := now + lightPeriod }

/-- The light controller after a boundary. -/
def State.lightFrame (s : State) : Lgt :=
  let m := lightScene s.cfg s.cfg.sceneTable s.lgt.pendingScene s.lightInputs s.lgt.blink
  let l := s.lgt.latch s.cfg s.lightInputs s.now
  if s.lightInputs.computes then l.onFrame m s.cfg s.lightInputs s.lightsDriven else l.offFrame m s.cfg

/-- LIGHT_FRAME_BOUNDARY (R124). -/
def execLightFrameBoundary (s : State) : Host.Outcome State Fault Refusal :=
  let s1 := s.reach s.lgt.nextFrame
  completed (s1.withLgt s1.lightFrame)

/-! ### SCENE_WRITE -/

/-- The parameters of a SCENE_WRITE name an entry and satisfy R120; the mode is two bits and always one of the four. -/
def sceneWriteOk (ps : List Byte) : Bool :=
  let e := sceneEntryOf (param ps 2) (param ps 3) (param ps 4)
  param ps 0 ≤ 7 && param ps 1 ≤ 7 && e.levelOk && e.periodOk && e.followOk

/-- SCENE_WRITE's own table (R122): the entry replaced in the working copy, the valid mark untouched. -/
def State.sceneWrite (s : State) (ps : List Byte) : State :=
  if sceneWriteOk ps then
    (s.withRsc
      { s.rsc with work := s.rsc.work.write (sceneAt (param ps 0) (param ps 1)) ((ps.drop 2).take 3) }).respond .ok []
  else s.respond .badValue []

/-- SCENE_WRITE (R122). -/
def execSceneWrite (params : List Byte) (s : State) : Host.Outcome State Fault Refusal :=
  completed (s.takeCommand (params.length == 5) false noData (State.sceneWrite · params))

end Sys2Proof.Machine
end

