-- ==== Sys2Proof/Machine/Monitor.lean ====
section
/-! DEFINITION. The pack monitor's sample set (R1 to R6) and the protection controller's dwell timers (R7 to R12). -/

namespace Sys2Proof.Machine

/-! ### Windows (R1, R2) -/

/-- A raw sample converted with the calibration block (R1). The spec names no calibration for VRAIL, so its sample is
taken as it comes (log 4). -/
def Calibration.convert (k : Calibration) (q : Quantity) (raw : Int) : Int :=
  match q with
  | .tap1 => Config.tapConverted k.tap1Gain raw
  | .tap2 => Config.tapConverted k.tap2Gain raw
  | .tap3 => Config.tapConverted k.tap3Gain raw
  | .tap4 => Config.tapConverted k.tap4Gain raw
  | .packVoltage => Config.tapConverted k.packGain raw
  | .packCurrent => Config.shuntConverted k.shuntOffset k.shuntGain raw
  | .servoCurrent => Config.shuntConverted k.servoOffset k.servoGain raw
  | .railVoltage => raw
  | .packTemp => Config.thermistorConverted k.packTempOffset raw
  | .motorTemp => Config.thermistorConverted k.motorTempOffset raw

/-- The converted sample, clamped to its reading range (R1). -/
def Calibration.sample (k : Calibration) (q : Quantity) (raw : Int) : Int :=
  clampInt q.range.1 q.range.2 (k.convert q raw)

/-- A sample joins a window of a depth at the newest end; a full window loses its oldest sample first (R1). -/
def joinWindow (depth : Nat) (window : List Int) (x : Int) : List Int :=
  (if window.length < depth then window else window.drop (window.length + 1 - depth)) ++ [x]

/-- The mean of a window of a depth, truncated toward zero (R2). -/
def windowMean (depth : Nat) (window : List Int) : Int := window.sum.tdiv depth

/-- A quantity's window after one sample set: a substituted window stays (R168), one to be refilled takes the real
sample to full depth (R171), any other takes it as its newest (R1). -/
def Channel.windowAfter (c : Channel) (depth : Nat) (x : Int) : List Int :=
  if c.substituted then c.window else if c.refill then List.replicate depth x else joinWindow depth c.window x

/-- One quantity's sample set: its window, and its mean published while the window is full (R1, R2). -/
def Channel.sampled (c : Channel) (depth : Nat) (x : Int) : Channel :=
  { c with
    window := c.windowAfter depth x
    published :=
      if (c.windowAfter depth x).length == depth then some (windowMean depth (c.windowAfter depth x)) else c.published
    refill := c.refill && c.substituted }

/-- Every window's sample set. -/
def Pmon.takeSamples (p : Pmon) (k : Calibration) (raw : PerQuantity Int) : Pmon :=
  { p with
    chan := PerQuantity.build fun q => (p.chan.get q).sampled q.depth (k.sample q (raw.get q)) }

/-! ### Cell voltages, Vmin and the TAP fault (R3, R4) -/

/-- The published taps, when all four are ready. -/
def Pmon.taps (p : Pmon) : Option (List Int) :=
  match p.chan.tap1.published, p.chan.tap2.published, p.chan.tap3.published, p.chan.tap4.published with
  | some a, some b, some c, some d => some [a, b, c, d]
  | _, _, _, _ => none

/-- The differences of neighbouring taps, tap 0 taken as `below` (R3). -/
def cellsFrom (below : Int) : List Int → List Int
  | [] => []
  | t :: ts => (t - below) :: cellsFrom t ts

/-- The lowest of a list of voltages. -/
def lowestCell : List Int → Option Int
  | [] => none
  | v :: vs => some (vs.foldl min v)

/-- A cell voltage that cannot be trusted (R4). -/
def cellBad (v : Int) : Bool := v < 1000 || 4600 < v

/-- The Vmin a sample set derives: the lowest cell, or the pack voltage shared among the cells while the TAP fault is
active and the pack voltage is ready (R3). -/
def vminOf (cells : List Int) (tapFault : Bool) (pack : Option Int) (count : Nat) : Option Int :=
  if tapFault then pack.map (fun v => v.fdiv count) else lowestCell cells

/-- What a sample set derives from the taps, when they are ready. -/
def Pmon.derived (p : Pmon) (c : Settings) : Option (List Int × Bool × Option Int) :=
  p.taps.map fun taps =>
    let cells := (cellsFrom 0 taps).take c.cells
    let bad := cells.any cellBad
    (cells, bad, vminOf cells bad p.chan.packVoltage.published c.cells)

/-- Cell voltages, TAP fault and Vmin of a sample set; nothing changes while the taps are not ready. -/
def Pmon.deriveCells (p : Pmon) (c : Settings) : Pmon :=
  match p.derived c with
  | none => p
  | some (cells, bad, v) => { p with cells := cells, tapFault := bad, vmin := v.orElse fun _ => p.vmin }

/-- This sample set publishes a Vmin (R3). -/
def Pmon.publishesVmin (p : Pmon) (c : Settings) : Bool := (p.derived c).any fun d => d.2.2.isSome

/-! ### Sensor faults and thermal bands (R5, R6) -/

/-- A temperature outside −40..150 °C (R5). -/
def sensorBad (t : Int) : Bool := t < -40 || 150 < t

/-- The highest of the bands 3, 2, 1 that satisfies `p`, else 0. -/
def highestBand (p : Nat → Bool) : Nat := if p 3 then 3 else if p 2 then 2 else if p 1 then 1 else 0

/-- The band machine of R6, from band `b`, with thresholds `T 1 < T 2 < T 3` and hysteresis `th`. -/
def bandAfter (T : Nat → Int) (th : Int) (b : Nat) (t : Int) : Nat :=
  if b < 3 && T (b + 1) + th ≤ t then highestBand fun k => b < k && T k + th ≤ t
  else if 0 < b && t < T b then highestBand fun k => k < b && T k ≤ t
  else b

/-- The band at a publication: 3 while the sensor fault is active, the band machine otherwise (R5, R6). -/
def bandOf (T : Nat → Int) (th : Int) (b : Nat) (t : Int) : Nat := if sensorBad t then 3 else bandAfter T th b t

/-- Sensor faults and bands of a sample set; each stays while its temperature is not ready. -/
def Pmon.deriveBands (p : Pmon) (c : Settings) : Pmon :=
  { p with
    packSensor := p.chan.packTemp.published.elim p.packSensor sensorBad
    packBand := p.chan.packTemp.published.elim p.packBand (bandOf c.ptThreshold c.ptHys p.packBand)
    motorSensor := p.chan.motorTemp.published.elim p.motorSensor sensorBad
    motorBand := p.chan.motorTemp.published.elim p.motorBand (bandOf c.mtThreshold c.mtHys p.motorBand) }

/-! ### The dwell timers (R7, R11) -/

/-- Table of R7: the states a timer runs in. -/
def Dwell.runsIn : Dwell → ProtState → Bool
  | .warnEntry, st => st == .normal
  | .warnExit, st => st == .warn
  | .cut, st => st == .normal || st == .warn
  | .crit, st => st != .lockout
  | .rearm, st => st == .cutoff

/-- Table of R7: a timer's dwell, ms. -/
def Dwell.length (c : Settings) : Dwell → Nat
  | .warnEntry => c.warnDwell
  | .warnExit => c.warnDwell
  | .cut => c.cutDwell
  | .crit => c.cutDwell
  | .rearm => c.rearmDwell

/-- Table of R7 and R11: a timer's condition, on the latest published Vmin. -/
def State.dwellHolds (s : State) (k : Dwell) : Bool :=
  match s.pmon.vmin with
  | none => false
  | some v =>
    match k with
    | .warnEntry => v < s.cfg.vWarn
    | .warnExit => (s.cfg.vWarn + s.cfg.vHys : Nat) ≤ v && !s.pmon.tapFault
    | .cut => v ≤ s.cfg.vCut
    | .crit => v ≤ s.cfg.vCrit
    | .rearm =>
      (s.cfg.vCut + s.cfg.vRearm : Nat) ≤ v && s.prot.throttleRested && s.valueOf .throttle == 0 &&
        (s.prot.cause != some .hardTrip || s.prot.tripTime.all fun t => t + tripHold ≤ s.now)

/-- A timer that runs in the present state, whose condition holds and which runs from a start time. -/
def State.dwellStart (s : State) (k : Dwell) : Option Nat :=
  if k.runsIn s.prot.st && s.dwellHolds k then s.prot.dwell.get k else none

/-- The timer completes at this publication (R7). -/
def State.dwellDone (s : State) (k : Dwell) : Bool :=
  (s.dwellStart k).any fun t => t + k.length s.cfg * msec ≤ s.now

/-- The five timers after a publication: stopped, started, or kept running (R7). -/
def State.dwellsAfter (s : State) : PerDwell (Option Nat) :=
  PerDwell.build fun k =>
    if k.runsIn s.prot.st && s.dwellHolds k then some ((s.prot.dwell.get k).getD s.now) else none

/-- Entry to WARN (R8, R11): cause and trip time cleared; cut and crit keep running (R7). -/
def State.enterWarn (s : State) : State :=
  s.withProt
    { s.prot with
      st := .warn, cause := none, tripTime := none
      dwell := { noDwell with cut := s.prot.dwell.cut, crit := s.prot.dwell.crit } }

/-- Back to NORMAL (R8). -/
def State.enterNormal (s : State) : State :=
  s.withProt
    { s.prot with st := .normal, dwell := { noDwell with cut := s.prot.dwell.cut, crit := s.prot.dwell.crit } }

/-- The transition a sample set takes, the most severe target first (R7, R8): `done` says which timers completed. DESIGN
CHOICE (log 34): R7's order of severity speaks of timers only. A TAP fault found in NORMAL at the very sample set at which
the cut or the crit timer completes is ranked with them as a move to WARN: the state goes straight to CUTOFF or LOCKOUT, and
LOW_WARN is not latched. -/
def State.protTransition (s : State) (done : Dwell → Bool) (tapSeen : Bool) : State :=
  if done .crit then s.enterLockout
  else if done .cut then s.enterCutoff .lowVolt
  else if done .warnEntry || done .rearm || (tapSeen && s.prot.st == .normal) then s.enterWarn
  else if done .warnExit then s.enterNormal
  else s

/-- PROT at a sample set: at a publication of Vmin the timers are evaluated, and a new interval of R11 begins; a TAP
fault found by the sample set moves NORMAL to WARN with no dwell (R8). -/
def State.protSample (s : State) (publishes tapSeen : Bool) : State :=
  if publishes then
    let s1 := s.withProt
      { s.prot with dwell := s.dwellsAfter, throttleRested := s.valueOf .throttle == 0 }
    s1.protTransition s.dwellDone tapSeen
  else s.protTransition (fun _ => false) tapSeen

/-- The pack monitor's own part of a sample set. -/
def State.monitorSample (s : State) (raw : PerQuantity Int) : State :=
  let p := s.pmon.takeSamples s.rsc.cal raw
  s.withPmon { (p.deriveCells s.cfg).deriveBands s.cfg with nextSample := s.now + samplePeriod }

/-- SAMPLE_SET (R1 to R8). -/
def execSampleSet (raw : PerQuantity Int) (s : State) : Host.Outcome State Fault Refusal :=
  let s1 := (s.reach s.pmon.nextSample).monitorSample raw
  completed (s1.protSample (s1.pmon.publishesVmin s1.cfg) (s1.pmon.taps.isSome && s1.pmon.tapFault))

/-! ### The completion of a dwell timer, as an event of its own (log 3) -/

/-- A dwell timer that runs and whose condition holds completes at the end of its dwell; otherwise the event cannot
occur and has no effect. Of all the timers that have completed by then the most severe target is taken (R7). -/
def State.completeDwell (s : State) (k : Dwell) : State :=
  match s.dwellStart k with
  | some t =>
    let s1 := s.reach (t + k.length s.cfg * msec)
    s1.protTransition s1.dwellDone false
  | none => s

/-- WARN_ENTRY_COMPLETE (R7, R8). -/
def execWarnEntryComplete (s : State) : Host.Outcome State Fault Refusal :=
  completed (s.completeDwell .warnEntry)

/-- WARN_EXIT_COMPLETE (R7, R8). -/
def execWarnExitComplete (s : State) : Host.Outcome State Fault Refusal :=
  completed (s.completeDwell .warnExit)

/-- CUT_TIMER_COMPLETE (R7, R9). -/
def execCutTimerComplete (s : State) : Host.Outcome State Fault Refusal :=
  completed (s.completeDwell .cut)

/-- CRIT_TIMER_COMPLETE (R7, R12). -/
def execCritTimerComplete (s : State) : Host.Outcome State Fault Refusal :=
  completed (s.completeDwell .crit)

/-- REARM_TIMER_COMPLETE (R7, R11). -/
def execRearmTimerComplete (s : State) : Host.Outcome State Fault Refusal :=
  completed (s.completeDwell .rearm)

end Sys2Proof.Machine
end

