-- ==== Sys2Proof/Machine/Pendant.lean ====
section
/-! DEFINITION. The pendant input block (R144, R145). -/

namespace Sys2Proof.Machine

/-- The debounced state of a line. -/
def Pnd.pressed (p : Pnd) : PendantLine → Bool
  | .pendIn => p.inPressed
  | .pendOut => p.outPressed

/-- The settle timer of a line. -/
def Pnd.settleEnd (p : Pnd) : PendantLine → Option Nat
  | .pendIn => p.inSettle
  | .pendOut => p.outSettle

/-- A line's debounced state and settle timer replaced. -/
def Pnd.put (p : Pnd) (line : PendantLine) (pressed : Bool) (settle : Option Nat) : Pnd :=
  match line with
  | .pendIn => { p with inPressed := pressed, inSettle := settle }
  | .pendOut => { p with outPressed := pressed, outSettle := settle }

/-- A line is low. -/
def Lines.low (l : Lines) : PendantLine → Bool
  | .pendIn => l.pendIn
  | .pendOut => l.pendOut

/-- A line's level replaced. -/
def Lines.putLow (l : Lines) (line : PendantLine) (low : Bool) : Lines :=
  match line with
  | .pendIn => { l with pendIn := low }
  | .pendOut => { l with pendOut := low }

/-- PENDANT_EDGE (R144): the level follows the edge, the settle timer restarts. -/
def execPendantEdge (line : PendantLine) (low : Bool) (s : State) : Host.Outcome State Fault Refusal :=
  completed ((s.withLines (s.lines.putLow line low)).withPnd
    (s.pnd.put line (s.pnd.pressed line) (some (s.now + settleTime))))

/-- A debounced change presented, with both debounced states as they stand (R145). -/
def State.presentPendant (s : State) (pressed : Bool) : State :=
  if s.rsc.run == .sleep then (if pressed then s.wakeSource else s)
  else s.commitGrants (s.grt.pendantChange s.cfg s.pnd.inPressed s.pnd.outPressed)

/-- PENDANT_SETTLE_EXPIRY (R144, R145). -/
def execPendantSettleExpiry (line : PendantLine) (s : State) : Host.Outcome State Fault Refusal :=
  match s.pnd.settleEnd line with
  | none => completed s
  | some t =>
    let low := s.lines.low line
    let s1 := (s.reach t).withPnd (s.pnd.put line low none)
    if s.pnd.pressed line == low then completed s1 else completed (s1.presentPendant low)

end Sys2Proof.Machine
end

