-- ==== Sys2Proof/Machine/Port.lean ====
section
/-! DEFINITION. The accessory port's own commands: a write of an unknown command byte (R147), STATUS (R149), READ_CAUSE
(R155), FAULT_NEXT and FAULT_ACK (R152), ATTN_MASK (R154). -/

namespace Sys2Proof.Machine

/-- ACP_UNKNOWN_WRITE (R147): UNKNOWN, and a wake source in SLEEP; a write without a byte takes no command. -/
def execAcpUnknownWrite (bytes : List Byte) (s : State) : Host.Outcome State Fault Refusal :=
  match bytes with
  | [] => completed s
  | _ :: _ => completed (s.wakeSource.respond .unknown [])

/-- The `n` bytes a read transaction sends (R148): the status byte, then the data in order, then 0x00 for every further
byte. It reads the buffer and changes nothing, so each read transaction starts again from the status byte. -/
def State.readTransaction (s : State) (n : Nat) : List Byte :=
  (byteOf s.acp.status.code :: s.acp.data ++ List.replicate n 0).take n

/-! ### STATUS -/

/-- The indexes of the latched entries, ascending. -/
def State.latchedIndexes (s : State) : List Nat := (FaultEntry.all.filter s.faultLatched).map FaultEntry.code

/-- The ids in the lost set, ascending (R63). -/
def Grt.lostIds (g : Grt) : List Nat := (Fn.all.filter g.lost.get).map Fn.code

/-- The flag byte of STATUS (Table 11-4). -/
def State.statusFlags (s : State) : Nat :=
  (if s.rsc.valid then 1 else 0) + (if s.rsc.storeEnd.isSome then 2 else 0) + (if s.acp.orderDone then 4 else 0) +
    (if s.grantLost then 8 else 0)

/-- The data of STATUS (R149, Table 11-4). DESIGN CHOICE (log 39): R173 has one byte for a small number and two for a count,
and Table 11-4 gives STATUS no size. The number of latched faults, at most 16, is sent as a small number, on one byte. -/
def State.statusData (s : State) : List Byte :=
  [byteOf s.rsc.run.code, byteOf s.prot.st.code, byteOf s.prot.sw.code, byteOf s.statusFlags] ++
    idList 7 s.grt.lostIds ++ [codeByte s.latchedIndexes.head?, byteOf s.latchedIndexes.length]

/-- The pending events cleared (R149). -/
def State.clearEvents (s : State) : State :=
  (s.withAcp { s.acp with orderDone := false }).withGrt { s.grt with lost := PerFn.build fun _ => false }

/-- STATUS's own rule (R149). -/
def State.statusRule (s : State) : State := s.clearEvents.respond .ok s.statusData

/-- STATUS (R149): taken while a STORE is in flight too (R147). -/
def execStatus (params : List Byte) (s : State) : Host.Outcome State Fault Refusal :=
  completed (s.takeCommand (params.length == 0) true noData State.statusRule)

/-! ### READ_CAUSE -/

/-- The cause record on one byte (Table 11-4). -/
def Causes.byte (c : Causes) : Byte :=
  byteOf ((if c.powerOn then 1 else 0) + (if c.brownOut then 2 else 0) + (if c.pin then 4 else 0) +
    (if c.soft then 8 else 0))

/-- No flag set (R155). -/
def Causes.none : Causes := { powerOn := false, brownOut := false, pin := false, soft := false }

/-- READ_CAUSE's own rule (R155). -/
def State.readCause (s : State) : State :=
  (s.withAcp { s.acp with causes := Causes.none }).respond .ok [s.acp.causes.byte]

/-- READ_CAUSE (R155). -/
def execReadCause (params : List Byte) (s : State) : Host.Outcome State Fault Refusal :=
  completed (s.takeCommand (params.length == 0) false noData State.readCause)

/-! ### FAULT_NEXT and FAULT_ACK -/

/-- The data of FAULT_NEXT (R152). -/
def State.faultNextData (s : State) : List Byte :=
  match FaultEntry.all.find? s.faultLatched with
  | some e => [byteOf e.code, flagByte (s.faultActive e)]
  | none => [0xFF, flagByte false]

/-- FAULT_NEXT's own rule (R152). -/
def State.faultNextRule (s : State) : State := s.respond .ok s.faultNextData

/-- FAULT_NEXT (R152). -/
def execFaultNext (params : List Byte) (s : State) : Host.Outcome State Fault Refusal :=
  completed (s.takeCommand (params.length == 0) false noData State.faultNextRule)

/-- An entry's active and latched flags as they stand (Table 11-4). -/
def State.entryFlags (s : State) (e : FaultEntry) : List Byte := [flagByte (s.faultActive e), flagByte (s.faultLatched e)]

/-- The "always" data of FAULT_ACK: the flags of the entry its first byte names, before its rule as in it; two clear
flags where it names none (log 13). -/
def ackData (ps : List Byte) (s : State) : List Byte :=
  match ps with
  | [] => [flagByte false, flagByte false]
  | b :: _ => (FaultEntry.ofIndex b.toNat).elim [flagByte false, flagByte false] s.entryFlags

/-- A latched flag cleared. -/
def State.clearLatch (s : State) (e : FaultEntry) : State :=
  s.withAcp { s.acp with latched := s.acp.latched &&& ~~~ faultBit e }

/-- FAULT_ACK's own table (R152). -/
def State.faultAck (s : State) (ps : List Byte) : State :=
  match FaultEntry.ofIndex (param ps 0) with
  | none => s.respond .badValue (ackData ps s)
  | some e =>
    if s.faultActive e then s.respond .refusedState (s.entryFlags e)
    else (s.clearLatch e).respond .ok ((s.clearLatch e).entryFlags e)

/-- FAULT_ACK (R152). -/
def execFaultAck (params : List Byte) (s : State) : Host.Outcome State Fault Refusal :=
  completed (s.takeCommand (params.length == 1) false (ackData params) (State.faultAck · params))

/-! ### ATTN_MASK -/

/-- The eighteen bits of a three-byte mask parameter (Table 11-4). -/
def maskOf (ps : List Byte) : BitVec 18 := BitVec.ofNat 18 (beNat (ps.take 3))

/-- ATTN_MASK's own rule (R154). -/
def State.attnMask (s : State) (ps : List Byte) : State :=
  (s.withAcp { s.acp with mask := maskOf ps }).respond .ok (word24 (maskOf ps).toNat)

/-- ATTN_MASK (R154). -/
def execAttnMask (params : List Byte) (s : State) : Host.Outcome State Fault Refusal :=
  completed (s.takeCommand (params.length == 3) false noData (State.attnMask · params))

end Sys2Proof.Machine
end

