-- ==== Sys2Proof/Machine/Protection.lean ====
section
/-! DEFINITION. The over-current comparator's line (R10, R19), the end of a precharge (R18), and LOCKOUT_CLEAR (R13). -/

namespace Sys2Proof.Machine

/-- OC_TRIP_ASSERT (R10, R19, R170): a change from released to asserted is a hard trip while the switch is CLOSED or
counted as CLOSED, and ends a precharge in flight. With the line asserted already nothing changes. -/
def execOcTripAssert (s : State) : Host.Outcome State Fault Refusal :=
  if s.lines.ocTrip then completed s
  else
    let s1 := s.withLines { s.lines with ocTrip := true }
    if s.countedClosed then completed s1.hardTrip
    else if s.prot.sw == .precharging then completed s1.abortPrecharge
    else completed s1

/-- OC_TRIP_RELEASE (R10). -/
def execOcTripRelease (s : State) : Host.Outcome State Fault Refusal :=
  completed (s.withLines { s.lines with ocTrip := false })

/-- The check of R18: both voltages ready and rail × 10 ≥ pack × 9. -/
def State.railCharged (s : State) : Bool :=
  match s.published .railVoltage, s.published .packVoltage with
  | some rail, some pack => pack * 9 ≤ rail * 10
  | _, _ => false

/-- The run-state controller is told that the precharge succeeded (R159): a start goes to ARMING. -/
def State.prechargeSucceeded (s : State) : State := if s.rsc.startInFlight then s.enterArming else s

/-- The switch after a precharge whose check passed (R18, R10). -/
def State.closeSwitch (s : State) : State :=
  let s1 := (s.withProt { s.prot with sw := .closed, prechargeEnd := none }).prechargeSucceeded
  if s.lines.ocTrip then s1.hardTrip else s1

/-- The switch after a precharge whose check failed (R18). -/
def State.failPrecharge (s : State) : State :=
  ((s.withProt { s.prot with sw := .opened, prechargeEnd := none }).raise .prechargeFail).prechargeFailed

/-- PRECHARGE_EXPIRY (R18). Outside PRECHARGING the event cannot occur. -/
def execPrechargeExpiry (s : State) : Host.Outcome State Fault Refusal :=
  match s.prot.sw with
  | .precharging =>
    let s1 := s.reach (s.prot.prechargeEnd.getD s.now)
    if s1.railCharged then completed s1.closeSwitch else completed s1.failPrecharge
  | _ => completed s

/-- LOCKOUT_CLEAR is accepted (R13). -/
def State.lockoutClearable (s : State) : Bool :=
  s.rsc.run == .halted && s.prot.st == .lockout && s.pmon.vmin.any fun (v : Int) => ((s.cfg.vCut + s.cfg.vRearm : Nat) : Int) ≤ v

/-- What LOCKOUT_CLEAR does once it reaches its rule (R13). -/
def State.lockoutClear (s : State) : State :=
  if s.lockoutClearable then (s.withProt { s.prot with st := .normal, dwell := noDwell }).respond .ok []
  else s.respond .refusedState []

/-- LOCKOUT_CLEAR (R13). -/
def execLockoutClear (params : List Byte) (s : State) : Host.Outcome State Fault Refusal :=
  completed (s.takeCommand (params.length == 0) false noData State.lockoutClear)

end Sys2Proof.Machine
end

