-- ==== Sys2Proof/Machine/Radio.lean ====
section
/-! DEFINITION. The radio link receiver: the frame assembler (R136), acceptance and freshness (R137 to R139), decoding
(R140, R141) and the reply (R142, R143). -/

namespace Sys2Proof.Machine

/-! ### Decoding -/

/-- A proportional channel decoded through its calibration record (R140); with the deadband at or above the half-span,
which only a copy not yet checked can hold, it decodes to the sign alone (R163). -/
def decodeStick (center halfSpan deadband raw : Nat) : Int :=
  let v : Int := (raw : Int) - center
  if v.natAbs ≤ deadband then 0
  else if halfSpan ≤ deadband then signInt v * 1000
  else clampInt (-1000) 1000 (((v - signInt v * deadband) * 1000).tdiv ((halfSpan : Int) - deadband))

/-- The decoded value of a function from a raw value of channel `ch` (R140, R141). -/
def decodeFn (c : Settings) (ch : Nat) (f : Fn) (raw : Nat) : Int :=
  match f with
  | .throttle => decodeStick (c.calCenter ch) (c.calHalfSpan ch) (c.calDeadband ch) raw
  | .steer => decodeStick (c.calCenter ch) (c.calHalfSpan ch) (c.calDeadband ch) raw
  | .gear => if 2048 ≤ raw then 1 else 0
  | .steerMode => (raw / 1024 : Nat)
  | .diff => (raw / 1024 : Nat)
  | .scene => (raw * 8 / 4096 : Nat)
  | .winch => if raw < 1365 then -(c.dlWinchSpeed : Int) else if 2730 < raw then c.dlWinchSpeed else 0

/-- The decoded values of ten raw channel values (R139). -/
def decodeFrame (c : Settings) (raw : List Nat) : Decoded :=
  PerFn.build fun f =>
    if c.dlChannel f == 0 then none else some (decodeFn c (c.dlChannel f) f (raw.getD (c.dlChannel f - 1) 0))

/-! ### Acceptance -/

/-- A complete frame is accepted (R137). -/
def frameAccepted (c : Settings) (bytes : List Byte) : Bool :=
  bytes.length == 19 && param bytes 0 == 0xC5 && frameCheckOk bytes &&
    (param bytes 1 == c.modelTag || c.modelTag == 0)

/-- An accepted frame is fresh (R138). -/
def Dlr.isFresh (d : Dlr) (bytes : List Byte) : Bool :=
  d.lastCounter != some (frameCounter bytes) && !frameFailsafe bytes

/-- The reply transmitter after an accepted frame (R139, R143). -/
def replyAfter (tx : ReplyTx) (bytes : List Byte) (now : Nat) : ReplyTx :=
  match tx with
  | .idle => if frameReplyReq bytes then .waiting (frameCounter bytes) (now + replyDelay) else .idle
  | other => other

/-- What the DLR keeps of an accepted frame (R138, R143). -/
def Dlr.store (d : Dlr) (bytes : List Byte) (now : Nat) : Dlr :=
  { d with
    lastCounter := some (frameCounter bytes), raw := some (frameChannels bytes)
    reply := replyAfter d.reply bytes now }

/-- An accepted frame handed on (R139): a wake source in SLEEP, decoded and presented elsewhere when fresh. -/
def State.handOn (s : State) (bytes : List Byte) (fresh : Bool) : State :=
  if s.rsc.run == .sleep then s.wakeSource
  else if fresh then s.commitGrants (s.grt.freshFrame s.cfg (decodeFrame s.cfg (frameChannels bytes)) s.now)
  else s

/-- A complete frame (R137 to R139). -/
def State.receiveFrame (s : State) (bytes : List Byte) : State :=
  if frameAccepted s.cfg bytes then
    (s.withDlr (s.dlr.store bytes s.now)).handOn bytes (s.dlr.isFresh bytes)
  else s

/-! ### The assembler (R136) -/

/-- The assembler HUNTING, holding no bytes. -/
def Dlr.hunt (d : Dlr) : Dlr := { d with asm := .hunting, gapEnd := none }

/-- RADIO_FRAME: the 19th byte of a frame has completed it; the assembler hunts again (R136, R137). -/
def execRadioFrame (bytes : List Byte) (s : State) : Host.Outcome State Fault Refusal :=
  completed ((s.withDlr s.dlr.hunt).receiveFrame bytes)

/-- The bytes held after one more, and the wait for the next byte. -/
def Dlr.collect (d : Dlr) (bytes : List Byte) (now : Nat) : Dlr :=
  { d with asm := .collecting bytes, gapEnd := some (now + linkGap) }

/-- A byte with a good stop bit (R136). -/
def State.linkByte (s : State) (b : Byte) : State :=
  match s.dlr.asm with
  | .hunting => if b == 0xC5 then s.withDlr (s.dlr.collect [b] s.now) else s
  | .collecting bytes =>
    if bytes.length + 1 == 19 then (s.withDlr s.dlr.hunt).receiveFrame (bytes ++ [b])
    else s.withDlr (s.dlr.collect (bytes ++ [b]) s.now)

/-- LINK_BYTE_RECEIVED (R136). -/
def execLinkByteReceived (b : Byte) (s : State) : Host.Outcome State Fault Refusal := completed (s.linkByte b)

/-- FRAMING_ERROR (R136). -/
def execFramingError (s : State) : Host.Outcome State Fault Refusal := completed (s.withDlr s.dlr.hunt)

/-- LINK_GAP_TIMEOUT (R136). -/
def execLinkGapTimeout (s : State) : Host.Outcome State Fault Refusal :=
  match s.dlr.gapEnd with
  | some t => completed ((s.reach t).withDlr s.dlr.hunt)
  | none => completed s

/-! ### The reply -/

/-- A published value on one byte of the reply: limited to `0..top`. -/
def replyByte (top : Int) (v : Int) : Byte := byteOf (clampInt 0 top v).toNat

/-- The status byte of the reply record (Table 11-2). -/
def State.replyStatus (s : State) : Byte :=
  byteOf (s.prot.st.code + 4 * s.rsc.run.code + (if s.acp.latched != 0 then 128 else 0))

/-- Bytes 2 to 9 of the reply record (R142, Table 7-3, Table 11-2). -/
def State.replyBody (s : State) (counter : Nat) : List Byte :=
  [byteOf counter] ++ signed16 ((s.published .packVoltage).getD 0) ++ signed16 (s.pmon.vmin.getD 0) ++
    [(s.published .packCurrent).elim 0 (fun v => replyByte 255 (v.tdiv 100)),
      (s.published .packTemp).elim 255 (fun v => replyByte 254 (v + 40)), s.replyStatus]

/-- The reply record (R142). -/
def State.replyRecord (s : State) (counter : Nat) : List Byte :=
  [0xC6] ++ s.replyBody counter ++ [crc8 (s.replyBody counter)]

/-- REPLY_TIMER_EXPIRY (R142, R143). -/
def execReplyTimerExpiry (s : State) : Host.Outcome State Fault Refusal :=
  match s.dlr.reply with
  | .waiting counter expiry =>
    let s1 := s.reach expiry
    completed (s1.withDlr { s1.dlr with reply := .sending (s1.replyRecord counter) (s1.now + replyLength) })
  | _ => completed s

/-- REPLY_SENT (R143). -/
def execReplySent (s : State) : Host.Outcome State Fault Refusal :=
  match s.dlr.reply with
  | .sending _ endTime =>
    let s1 := s.reach endTime
    completed (s1.withDlr { s1.dlr with reply := .idle })
  | _ => completed s

end Sys2Proof.Machine
end

