-- ==== Sys2Proof/Machine/Winch.lean ====
section
/-! DEFINITION. The winch step and its checks (R26, R40, R96, R97, R104, R105, R108 to R112), the drum pulses (R93,
R95, R107, R168) and the winch commands of the accessory port (R94, R102, R103, R114 to R116). -/

namespace Sys2Proof.Machine

/-! ### What the step reads -/

/-- The speed cap (R40). -/
def State.winchSpeedCap (s : State) : Nat := min 1000 (1000 * s.grantFor .winch / s.cfg.winchRated)

/-- None of the four bullets of R97 holds: run state, protection state, pack switch, WINCH_EN. -/
def State.winchMayDrive (s : State) : Bool :=
  s.countedRunning && s.protDrives && s.countedClosed && s.cfg.winchEn

/-- The referenced position stands at or above the line limit (R95). -/
def Wch.atLimit (w : Wch) (c : Settings) : Bool := w.referenced && decide ((c.lineLimit : Int) ≤ w.linePos)

/-- The signed speed the holder of WINCH asks for (the table of R97, before the speed cap). -/
def State.winchCommand (s : State) : Int :=
  if s.holderOf .winch == .ap then
    match s.wch.active with
    | some (_, o, r) => if r.pauseStart.isNone then o.signedSpeed else 0
    | none => 0
  else if s.wch.stallHold then 0
  else s.valueOf .winch

/-- The applied winch duty formed at a step under a speed cap (R97). -/
def State.winchDuty (s : State) (cap : Nat) : Int :=
  if !s.winchMayDrive then 0
  else if decide (0 < limitMagnitude cap s.winchCommand) && s.wch.atLimit s.cfg then 0
  else limitMagnitude cap s.winchCommand

/-- The magnitude of the commanded speed (R26): an ACTIVE order's speed, or the WINCH value where R97 would drive it
under a cap of 1000. -/
def State.winchAsked (s : State) : Nat :=
  match s.wch.active with
  | some (_, o, _) => o.speed
  | none => if s.holderOf .winch != .ap && s.winchDuty 1000 != 0 then (s.valueOf .winch).natAbs else 0

/-- The WINCH demand (R24, R26). -/
def State.winchDemand (s : State) : Nat :=
  if s.cfg.winchEn then s.cfg.winchRated * s.winchAsked / 1000 else 0

/-- The WINCH value the winch controller writes (R105): the ACTIVE order's signed speed, else 0. -/
def State.orderedValue (s : State) : Int :=
  match s.wch.active with
  | some (_, o, _) => o.signedSpeed
  | none => 0

/-! ### Step 2: the start of an order (R104) -/

/-- The oldest POSTED order in the post list, with its slot (R101). -/
def Wch.oldestPosted (w : Wch) : Option (Fin 4 × Order) :=
  w.postList.findSome? fun i => (w.slots.get i).bind fun o => if o.phase == .posted then some (i, o) else none

/-- What an order carries at its start (R104, R169). -/
def State.freshRun (s : State) : OrderRun :=
  { startTime := s.now, pulseCount := 0, pauseStart := none, currentTimer := none, drumTimer := none,
    armed := s.wch.stallArm }

/-- The order made ACTIVE; a paying-out one at the line limit ends at once (R104). -/
def State.activate (s : State) (i : Fin 4) (o : Order) : State :=
  let s1 := s.withWch (s.wch.putRun i o s.freshRun)
  if !o.kind.hauls && s.wch.atLimit s.cfg then s1.endOrder i { o with phase := .active s.freshRun } .lineEnd else s1

/-- The conditions of R104 that do not concern one order. -/
def State.mayStartOrder (s : State) : Bool :=
  s.wch.runFlag && s.holderOf .winch == .ap && s.wch.activeSlot.isNone && s.winchMayDrive

/-- Step 2 of R96. -/
def State.startOrder (s : State) : State :=
  if s.mayStartOrder then
    match s.wch.oldestPosted with
    | some (i, o) => s.activate i o
    | none => s
  else s

/-! ### Step 3: timeout, starvation, retry pause (R108, R112, R110) -/

/-- When the order's timeout is reached. -/
def orderDeadline (o : Order) (r : OrderRun) : Nat := r.startTime + o.timeout * 100 * msec

/-- How an order ends at its timeout (R108). -/
def OrderKind.timeoutResult (k : OrderKind) : OrderResult := if k.counted then .timeout else .ok

/-- The starvation check (R112). -/
def State.winchStarves (s : State) : Bool := s.cfg.starveT ≤ s.bgt.starved.get .winch

/-- When a retry pause is over (R110). -/
def State.pauseEnd (s : State) (start : Nat) : Nat := start + s.cfg.retryPause * msec

/-- The pause ended: the stall timers were stopped at its start, so the drum check starts afresh (R110). -/
def OrderRun.resumed (r : OrderRun) : OrderRun := { r with pauseStart := none }

/-- Step 3 of R96. -/
def State.orderChecks (s : State) : State :=
  match s.wch.active with
  | none => s
  | some (i, o, r) =>
    if orderDeadline o r ≤ s.now then s.endOrder i o o.kind.timeoutResult
    else if s.winchStarves then s.endOrder i o .starved
    else if r.pauseStart.any fun t => decide (s.pauseEnd t ≤ s.now) then s.withWch (s.wch.putRun i o r.resumed)
    else s

/-! ### Step 5: the stall checks (R109 to R111, R169) -/

/-- The winch estimate, while both currents are ready (R109). -/
def State.winchEstimate (s : State) : Option Nat :=
  match s.published .packCurrent, s.published .servoCurrent with
  | some pack, some rail =>
    some (pack - rail - s.cfg.baseLoad - s.grantFor .drive - s.grantFor .lights).toNat
  | _, _ => none

/-- The condition of the current check. -/
def State.estimateHigh (s : State) : Bool := s.winchEstimate.any fun e => decide (s.cfg.stallI ≤ e)

/-- The current check's timer after a step with a non-zero duty. -/
def State.currentTimerAfter (s : State) (timer : Option Nat) : Option Nat :=
  if s.estimateHigh then some (timer.getD s.now) else none

/-- When the current check finds a stall. -/
def State.currentDue (s : State) (start : Nat) : Nat := start + s.cfg.stallT * msec

/-- When the drum check finds a stall: NO_PULSE_T after the later of its start and the latest drum pulse. -/
def State.drumDue (s : State) (start : Nat) : Nat := max start (s.wch.lastPulse.getD 0) + s.cfg.noPulseT * msec

/-- A stall found by either check at a step with a non-zero duty. -/
def State.stallFound (s : State) (current drum : Option Nat) : Bool :=
  (s.estimateHigh && current.any fun t => decide (s.currentDue t ≤ s.now)) ||
    drum.any fun t => decide (s.drumDue t ≤ s.now)

/-- The stall arm acts on this order (R169); the step of its start is one it can act at (DEDUCED, log 21). -/
def State.armedStall (s : State) (r : OrderRun) : Bool := s.wch.stallArm && r.armed

/-- A stall of the ACTIVE order (R110): a retry pause, or its end. -/
def State.orderStalls (s : State) (i : Fin 4) (o : Order) (r : OrderRun) : State :=
  if !o.noRetry && decide (o.retriesUsed < s.cfg.winchRetries) then
    s.withWch
      (s.wch.putRun i { o with retriesUsed := o.retriesUsed + 1 }
        { r with pauseStart := some s.now, currentTimer := none, drumTimer := none, armed := false })
  else s.endOrder i o .stall

/-- A stall under direct drive (R111). -/
def State.directStalls (s : State) : State :=
  s.withWch
    { s.wch with
      stallHold := true, stalledSign := some (signInt (s.valueOf .winch)), directCurrent := none, directDrum := none }

/-- The stall checks for an ACTIVE order with a duty formed at this step: the state after, and the duty. -/
def State.orderStallChecks (s : State) (i : Fin 4) (o : Order) (r : OrderRun) (duty : Int) : State × Int :=
  if duty == 0 then (s.withWch (s.wch.putRun i o { r with currentTimer := none, drumTimer := none }), duty)
  else if s.armedStall r then ((s.withWch { s.wch with stallArm := false }).orderStalls i o r, 0)
  else if s.stallFound r.currentTimer r.drumTimer then (s.orderStalls i o r, 0)
  else
    (s.withWch (s.wch.putRun i o
      { r with currentTimer := s.currentTimerAfter r.currentTimer, drumTimer := some (r.drumTimer.getD s.now) }), duty)

/-- The stall checks under direct drive. -/
def State.directStallChecks (s : State) (duty : Int) : State × Int :=
  if duty == 0 then (s.withWch { s.wch with directCurrent := none, directDrum := none }, duty)
  else if s.stallFound s.wch.directCurrent s.wch.directDrum then (s.directStalls, 0)
  else
    (s.withWch
      { s.wch with
        directCurrent := s.currentTimerAfter s.wch.directCurrent
        directDrum := some (s.wch.directDrum.getD s.now) }, duty)

/-- Step 5 of R96. -/
def State.stallChecks (s : State) (duty : Int) : State × Int :=
  if s.holderOf .winch == .ap then
    match s.wch.active with
    | some (i, o, r) => if r.pauseStart.isSome then (s, duty) else s.orderStallChecks i o r duty
    | none => (s, duty)
  else s.directStallChecks duty

/-! ### The step -/

/-- Steps 6 to 8 of R96 with the duty of the step. -/
def State.finishWinchStep (s : State) (duty : Int) : State :=
  let s1 := s.setWinchDuty duty
  let s2 := s1.writeHeldWinchValue s1.orderedValue
  s2.withWch { s2.wch with demand := s2.winchDemand }

/-- Steps 4 to 8 of R96. -/
def State.driveWinch (s : State) : State :=
  let checked := s.stallChecks (s.winchDuty s.wch.speedCap)
  checked.1.finishWinchStep checked.2

/-- The direct stall hold ends at a step that finds the WINCH value 0 or of the opposite sign (R111). -/
def State.releaseHold (s : State) : State :=
  if s.wch.stallHold &&
      (s.valueOf .winch == 0 || s.wch.stalledSign == some (-signInt (s.valueOf .winch))) then
    s.withWch { s.wch with stallHold := false, stalledSign := none }
  else s

/-- Step 1 of R96: the speed cap, from the present grant (R40). -/
def State.formSpeedCap (s : State) : State := s.withWch { s.wch with speedCap := s.winchSpeedCap }

/-- The work of a winch step: steps 1 to 8 of R96. -/
def State.winchWork (s : State) : State := s.formSpeedCap.releaseHold.startOrder.orderChecks.driveWinch

/-- The period timer started again at a winch step. -/
def State.restartWinchTimer (s : State) : State := s.withWch { s.wch with nextStep := s.now + stepPeriod }

/-- WINCH_STEP (R96). -/
def execWinchStep (s : State) : Host.Outcome State Fault Refusal :=
  completed (s.reach s.wch.nextStep).restartWinchTimer.winchWork

/-! ### The step's own events (log 3)

Each of the five rows is the winch step that finds what the row names: all the work of R96, in its order, at the moment
the row's timer has run. A check that comes earlier in the step may therefore end the order first, and a stall is found
only with a duty formed at the step. The period timer goes on. -/

/-- ORDER_TIMEOUT (R108): the winch step at which the ACTIVE order has reached its timeout. -/
def execOrderTimeout (s : State) : Host.Outcome State Fault Refusal :=
  match s.wch.active with
  | some (_, o, r) => completed (s.reach (orderDeadline o r)).winchWork
  | none => completed s

/-- ORDER_STARVED (R112): the winch step that finds the WINCH starved time at STARVE_T with an order ACTIVE. -/
def execOrderStarved (s : State) : Host.Outcome State Fault Refusal :=
  if s.wch.active.isSome && s.winchStarves then completed s.winchWork else completed s

/-- RETRY_PAUSE_END (R110): the winch step at which the retry pause is over. -/
def execRetryPauseEnd (s : State) : Host.Outcome State Fault Refusal :=
  match s.wch.active.bind fun a => a.2.2.pauseStart with
  | some t => completed (s.reach (s.pauseEnd t)).winchWork
  | none => completed s

/-- The stall timers that run, the current check's and the drum check's: the ACTIVE order's while AP holds WINCH, the
direct ones otherwise (R109). -/
def State.stallTimers (s : State) : Option Nat × Option Nat :=
  if s.holderOf .winch == .ap then
    match s.wch.active with
    | some (_, _, r) => (r.currentTimer, r.drumTimer)
    | none => (none, none)
  else (s.wch.directCurrent, s.wch.directDrum)

/-- CURRENT_CHECK_STALL (R109): the winch step at which the current check's timer has run STALL_T with the estimate
high. -/
def execCurrentCheckStall (s : State) : Host.Outcome State Fault Refusal :=
  match s.stallTimers.1 with
  | some t => if s.estimateHigh then completed (s.reach (s.currentDue t)).winchWork else completed s
  | none => completed s

/-- DRUM_CHECK_STALL (R109): the winch step at which the drum check has seen no pulse for NO_PULSE_T. -/
def execDrumCheckStall (s : State) : Host.Outcome State Fault Refusal :=
  match s.stallTimers.2 with
  | some t => completed (s.reach (s.drumDue t)).winchWork
  | none => completed s

/-! ### Drum pulses -/

/-- The line position after a pulse in a direction (R93). -/
def linePosAfter (dir : WinchDir) (pos : Int) : Int :=
  match dir with
  | .payout => min 32767 (pos + 1)
  | .haul => max (-32768) (pos - 1)
  | .none => pos

/-- turns_done at a pulse count (R107). -/
def turnsAt (c : Settings) (pulses : Nat) : Nat := min 255 (pulses / c.pulsesPerTurn)

/-- The pulse counted for the ACTIVE order, when it drives in the pulse's direction (R107). DEDUCED (log 37): a count that
passes the order's turns has brought them. -/
def State.countForOrder (s : State) (dir : WinchDir) : State :=
  match s.wch.active with
  | none => s
  | some (i, o, r) =>
    if o.kind.dir != dir then s
    else
      let r1 := { r with pulseCount := r.pulseCount + 1 }
      let o1 := { o with phase := .active r1, turnsDone := turnsAt s.cfg r1.pulseCount }
      let s1 := s.withWch (s.wch.putOrder i o1)
      if o.kind.counted && o.turns.any (fun n => decide (n ≤ o1.turnsDone)) then s1.endOrder i o1 .ok else s1

/-- The ACTIVE order pays out. -/
def Wch.payingOut (w : Wch) : Bool := w.active.any fun a => !a.2.1.kind.hauls

/-- The line limit at a pulse counted in direction PAYOUT (R95). -/
def State.limitAtPulse (s : State) (dir : WinchDir) : State :=
  if dir == .payout && s.wch.atLimit s.cfg then
    let s1 := if s.wch.payingOut then s.endActive .lineEnd else s
    if 0 < s1.wch.duty then s1.setWinchDuty 0 else s1
  else s

/-- A drum pulse the winch controller sees (R93, R95, R107). -/
def State.drumPulse (s : State) : State :=
  if s.wch.dir == .none then s
  else
    let s1 := s.withWch
      { s.wch with linePos := linePosAfter s.wch.dir s.wch.linePos, lastPulse := some s.now }
    (s1.countForOrder s.wch.dir).limitAtPulse s.wch.dir

/-- DRUM_PULSE (R93). The real DRUM input is not counted in BENCH-DRY (R168). -/
def execDrumPulse (s : State) : Host.Outcome State Fault Refusal :=
  if s.rsc.run == .benchDry then completed s else completed s.drumPulse

/-- The interval of an injected pulse rate, µs (R168). -/
def benchInterval (rate : Nat) : Nat := 1000000 / rate

/-- BENCH_DRUM_PULSE (R168): one pulse of the injected series, and the time of the next. -/
def execBenchDrumPulse (s : State) : Host.Outcome State Fault Refusal :=
  match s.wch.nextBenchPulse with
  | some t =>
    let s1 := s.reach t
    completed (s1.withWch
      { s1.wch with nextBenchPulse := some (s1.now + benchInterval s1.wch.drumRate) }).drumPulse
  | none => completed s

/-! ### The commands -/

/-- The 8-byte slot record of an order (Table 11-5): its speed is a ‰ value, a signed quantity of R173; what an EMPTY
slot reports is the model's reading of that rule (log 15). -/
def slotBytes : Option Order → List Byte
  | none => [0] ++ signed16Opt none ++ [0, 0xFF, 0xFF, 0xFF, 0xFF]
  | some o =>
    [byteOf (o.kind.code + (if o.noRetry then 4 else 0) + 16 * o.phase.code)] ++ signed16 o.speed ++
      [byteOf (o.turns.getD 0), byteOf o.timeout, codeByte (o.result.map OrderResult.code), byteOf o.turnsDone,
        byteOf o.retriesUsed]

/-- The common check of R102: in SLEEP every winch command is refused. -/
def State.winchCommandRule (s : State) (refusal : List Byte) (rule : State → State) : State :=
  if s.rsc.run == .sleep then s.respond .refusedState refusal else rule s

/-- The slot data of a refused WINCH_POST (R103): none. -/
def noSlot (_ : State) : List Byte := [0xFF]

/-- The first EMPTY slot round the ring from the slot after the newest post, or after the last-posted slot (R103). -/
def Wch.freeSlot (w : Wch) : Option (Fin 4) :=
  let newest := w.postList.getLast?.getD w.lastPosted
  [newest + 1, newest + 2, newest + 3, newest].find? fun i => (w.slots.get i).isNone

/-- A record as WINCH_POST posts it (R103). -/
def postedOrder (kind : OrderKind) (speed turns timeout : Nat) (noRetry : Bool) : Order :=
  { kind := kind, speed := max 100 (min 1000 speed), turns := if kind.counted then some turns else none,
    timeout := timeout, noRetry := noRetry, phase := .posted, result := none, turnsDone := 0, retriesUsed := 0 }

/-- An order posted into a slot (R101, R103). -/
def Wch.post (w : Wch) (i : Fin 4) (o : Order) : Wch :=
  { w.putOrder i o with postList := w.postList ++ [i], lastPosted := i }

/-- WINCH_POST's own table (R103). -/
def State.winchPost (s : State) (ps : List Byte) : State :=
  match OrderKind.ofCode (param ps 0) with
  | none => s.respond .badValue [0xFF]
  | some kind =>
    if (kind.counted && param ps 3 == 0) || param ps 4 == 0 then s.respond .badValue [0xFF]
    else
      match s.wch.freeSlot with
      | none => s.respond .queueFull [0xFF]
      | some i =>
        let order := postedOrder kind (param16 ps 1) (param ps 3) (param ps 4) (param ps 5 != 0)
        (s.withWch (s.wch.post i order)).respond
          (if within 100 (param16 ps 1) 1000 then .ok else .okClamped) [byteOf i.val]

/-- WINCH_POST (R102, R103). -/
def execWinchPost (params : List Byte) (s : State) : Host.Outcome State Fault Refusal :=
  completed (s.takeCommand (params.length == 6) false noSlot fun w =>
    w.winchCommandRule [0xFF] (State.winchPost · params))

/-- The order a WINCH_CANCEL can end: POSTED or ACTIVE (R114). -/
def Wch.cancellable (w : Wch) (n : Nat) : Option (Fin 4 × Order) :=
  (slotOf n).bind fun i => (w.slots.get i).bind fun o => if o.finished then none else some (i, o)

/-- WINCH_CANCEL's own table (R114). -/
def State.winchCancel (s : State) (ps : List Byte) : State :=
  match s.wch.cancellable (param ps 0) with
  | none => s.respond .badValue []
  | some (i, o) => (s.endOrder i o .cancelled).respond .ok []

/-- WINCH_CANCEL (R102, R114). -/
def execWinchCancel (params : List Byte) (s : State) : Host.Outcome State Fault Refusal :=
  completed (s.takeCommand (params.length == 1) false noData fun w =>
    w.winchCommandRule [] (State.winchCancel · params))

/-- The oldest finished order in the post list (R115). -/
def Wch.oldestFinished (w : Wch) : Option (Fin 4 × Order) :=
  w.postList.findSome? fun i => (w.slots.get i).bind fun o => if o.finished then some (i, o) else none

/-- The slot made EMPTY and taken from the post list (R115). -/
def Wch.reap (w : Wch) (i : Fin 4) : Wch :=
  { w with slots := w.slots.set i none, postList := w.postList.filter (· != i) }

/-- WINCH_REAP's own rule (R115). -/
def State.winchReap (s : State) : State :=
  match s.wch.oldestFinished with
  | none => s.respond .badValue []
  | some (i, o) => (s.withWch (s.wch.reap i)).respond .ok ([byteOf i.val] ++ slotBytes (some o))

/-- WINCH_REAP (R102, R115). -/
def execWinchReap (params : List Byte) (s : State) : Host.Outcome State Fault Refusal :=
  completed (s.takeCommand (params.length == 0) false noData fun w => w.winchCommandRule [] State.winchReap)

/-- WINCH_RESUME's own rule (R116). -/
def State.winchResume (s : State) : State := (s.withWch { s.wch with runFlag := true }).respond .ok []

/-- WINCH_RESUME (R102, R116). -/
def execWinchResume (params : List Byte) (s : State) : Host.Outcome State Fault Refusal :=
  completed (s.takeCommand (params.length == 0) false noData fun w => w.winchCommandRule [] State.winchResume)

/-- WINCH_ZERO's own rule (R94). -/
def State.winchZero (s : State) : State :=
  if s.wch.activeSlot.isNone && s.wch.duty == 0 then
    (s.withWch { s.wch with linePos := 0, referenced := true }).respond .ok []
  else s.respond .refusedState []

/-- WINCH_ZERO (R94, R102). -/
def execWinchZero (params : List Byte) (s : State) : Host.Outcome State Fault Refusal :=
  completed (s.takeCommand (params.length == 0) false noData fun w => w.winchCommandRule [] State.winchZero)

end Sys2Proof.Machine
end

