-- ==== Sys2Proof/Machine/ReadBlocks.lean ====
section
/-! DEFINITION. READ and the seven blocks of Table 11-5 (R42, R66, R80, R92, R117, R134, R150). -/

namespace Sys2Proof.Machine

/-- A header byte from its low bits and the bench mark of bit 7. -/
def headerByte (flags : List Bool) (bench : Bool) : Byte :=
  byteOf ((flags.zipIdx.map fun p => if p.1 then 2 ^ p.2 else 0).sum + (if bench then 128 else 0))

/-- A bit mask from the flags of bits 0, 1, 2, … -/
def maskBits (flags : List Bool) : Nat := (flags.zipIdx.map fun p => if p.1 then 2 ^ p.2 else 0).sum

/-- A non-negative quantity that may be absent: two bytes unsigned. -/
def unsignedInt16Opt (x : Option Int) : List Byte := unsigned16Opt (x.map Int.toNat)

/-- A non-negative quantity that may be absent: four bytes. -/
def wideInt32Opt (x : Option Int) : List Byte := wide32Opt (x.map Int.toNat)

/-- The run state is a bench state. -/
def State.onBench (s : State) : Bool := s.rsc.run.bench

/-- The run state is BENCH-DRY. -/
def State.onDry (s : State) : Bool := s.rsc.run == .benchDry

/-- The whole milliseconds since the start of a timer that may be stopped. -/
def State.elapsed16 (s : State) (start : Option Nat) : List Byte := unsigned16Opt (start.map s.msSince)

/-- The whole milliseconds left on a timer that may be stopped. -/
def State.left16 (s : State) (deadline : Option Nat) : List Byte := unsigned16Opt (deadline.map s.msLeft)

/-! ### PACK (R150), 57 bytes. R168 marks a measured quantity substituted and says nothing of the drum pulse rate, code
10: an injected rate sets no bit of the mask (DESIGN CHOICE, log 31). -/

def State.packBlock (s : State) : List Byte :=
  let p := s.pmon
  [headerByte [p.tapFault, p.packSensor, p.motorSensor, s.prot.limit] false] ++
    word16 (maskBits (p.chan.toList.map Channel.substituted)) ++
    [Quantity.tap1, .tap2, .tap3, .tap4, .packVoltage].flatMap (fun q => unsignedInt16Opt (s.published q)) ++
    wideInt32Opt (s.published .packCurrent) ++
    [Quantity.servoCurrent, .railVoltage].flatMap (fun q => unsignedInt16Opt (s.published q)) ++
    [Quantity.packTemp, .motorTemp].flatMap (fun q => signed16Opt (s.published q)) ++
    [0, 1, 2, 3].flatMap (fun i => signed16Opt p.cells[i]?) ++ signed16Opt p.vmin ++
    [byteOf (p.packBand + 16 * p.motorBand), byteOf s.prot.st.code, codeByte (s.prot.cause.map CutCause.code)] ++
    s.elapsed16 s.prot.tripTime ++ s.prot.dwell.toList.flatMap s.elapsed16 ++ word32 s.prot.q ++
    [byteOf s.prot.sw.code] ++ s.left16 s.prot.prechargeEnd

/-! ### BUDGET (R42, R44), 41 bytes -/

/-- The results the block reports: the trial ones in BENCH-DRY (R44). Before the first budget period there are none yet,
and the published ones are reported, with bit 7 of the header clear (DESIGN CHOICE, log 15). -/
def State.reportedBudget (s : State) : BudgetResult :=
  if s.onDry then s.bgt.trial.getD s.bgt.pub else s.bgt.pub

def State.budgetBlock (s : State) : List Byte :=
  let b := s.bgt
  let r := s.reportedBudget
  [headerByte [r.limitRead, r.excluded] (s.onDry && b.trial.isSome)] ++
    [r.a, r.a0, r.kv, r.kt, r.leftover].flatMap unsigned16 ++
    Consumer.all.flatMap (fun k =>
      [byteOf (b.rank.get k)] ++ unsigned16 (r.demand.get k) ++ unsigned16 (r.grant.get k) ++
        unsigned16 (b.starved.get k)) ++
    [byteOf b.shortCount, byteOf b.clearCount]

/-! ### GRANTS (R66), 53 bytes -/

/-- The state byte of a function. -/
def grantStateByte (r : FnRecord) (last : Option Int) : Byte :=
  byteOf (r.holder.code + 4 * r.seq + (if r.reacquire then 64 else 0) + (if last.isNone then 128 else 0))

def State.grantsBlock (s : State) : List Byte :=
  let g := s.grt
  [byteOf g.link.code] ++ s.left16 g.freshEnd ++
    Fn.all.flatMap (fun f =>
      [grantStateByte (g.fns.get f) (g.lastDecoded.get f)] ++ signed16 (g.fns.get f).value ++
        unsigned16 ((g.fns.get f).lease.elim 0 s.msLeft) ++ signed16Opt (g.lastDecoded.get f)) ++
    [byteOf (maskBits g.lost.toList)]

/-! ### DRIVE (R80), 16 bytes. R73 releases DRV_BRK in ARMING and in CUTOFF too, and the block has one bit for "released":
it reports the release of DRV_PWM, the condition for driving, so it is clear there (DESIGN CHOICE, log 30). -/

def State.driveBlock (s : State) : List Byte :=
  let d := s.drv
  [headerByte [d.interlock, d.dragBrake, d.brake, d.reverse, s.drivePwmReleased] s.onBench] ++ signed16 d.target ++
    signed16 d.applied ++ [byteOf d.dir.code] ++ [d.budgetCap, d.thermalCap, d.cap].flatMap unsigned16 ++
    [byteOf d.gear.code, codeByte (d.pendingGear.map Gear.code)] ++ unsigned16 d.demand

/-! ### STEER (R92), 35 bytes -/

def State.steerBlock (s : State) : List Byte :=
  let t := s.str
  [headerByte [t.active, s.bgt.servoShort] s.onDry, byteOf t.mode.code, codeByte (t.pendingMode.map SteerMode.code)] ++
    signed16 t.steerUsed ++ [byteOf t.shareEff] ++ signed16 t.front ++ signed16 t.rear ++
    t.servo.toList.flatMap fun r => unsignedInt16Opt r.aim ++ unsignedInt16Opt r.emitted ++ [flagByte r.boundHit]

/-! ### WINCH (R117), 55 bytes -/

/-- What the block reports of the ACTIVE order. -/
def State.activeOrderBytes (s : State) : List Byte :=
  match s.wch.active with
  | some (i, _, r) =>
    [byteOf i.val] ++ s.elapsed16 (some r.startTime) ++ unsigned16 r.pulseCount ++ s.left16 (r.pauseStart.map s.pauseEnd)
  | none => [0xFF] ++ word16 0xFFFF ++ word16 0xFFFF ++ word16 0xFFFF

def State.winchBlock (s : State) : List Byte :=
  let w := s.wch
  [headerByte [w.referenced, w.moving, s.holderOf .winch == .ap, w.stallHold, w.runFlag] s.onBench] ++
    signed16 w.linePos ++ unsigned16 s.cfg.lineLimit ++ [byteOf w.dir.code] ++ signed16 w.duty ++ unsigned16 w.speedCap ++
    idList 4 (w.postList.map Fin.val) ++ w.slots.toList.flatMap slotBytes ++ s.activeOrderBytes ++ unsigned16 w.demand

/-! ### LIGHTS (R134), 64 bytes -/

def State.lightsBlock (s : State) : List Byte :=
  let l := s.lgt
  [byteOf ((headerByte [l.off, l.reduced, l.forced, l.trimmed] s.onDry).toNat + 16 * (l.excess % 8)),
      byteOf (l.activeScene + 16 * l.pendingScene)] ++
    unsigned16Opt (l.latched.map LightInputs.grant) ++
    [l.demand, l.essentialDemand, l.scale, l.essentialScale].flatMap unsigned16 ++ word16 l.blink ++
    [byteOf (maskBits l.follow), byteOf (maskBits (l.lamp.toList.map LampRecord.lit))] ++
    l.lamp.toList.flatMap fun r => unsigned16 r.base ++ unsigned16 r.duty ++ unsigned16 r.draw

/-! ### READ -/

/-- The bytes of a block (Table 11-5). -/
def State.block (s : State) : ReadBlock → List Byte
  | .pack => s.packBlock
  | .budget => s.budgetBlock
  | .grants => s.grantsBlock
  | .drive => s.driveBlock
  | .steer => s.steerBlock
  | .winch => s.winchBlock
  | .lights => s.lightsBlock

/-- READ's own rule (R150). -/
def State.readRule (s : State) (ps : List Byte) : State :=
  match ReadBlock.ofNumber (param ps 0) with
  | some b => s.respond .ok (s.block b)
  | none => s.respond .badValue []

/-- READ (R150). -/
def execRead (params : List Byte) (s : State) : Host.Outcome State Fault Refusal :=
  completed (s.takeCommand (params.length == 1) false noData (State.readRule · params))

end Sys2Proof.Machine
end

