-- ==== Sys2Proof/Machine/Resets.lean ====
section
/-! DEFINITION. The three full resets and the soft reset command (00_scope.md, Reset kinds; R165 and every chapter's
values after reset). Each command is the moment its reset ends. -/

namespace Sys2Proof.Machine

/-- POWER_ON_RESET. -/
def execPowerOnReset (strap : Bool) (s : State) : Host.Outcome State Fault Refusal :=
  completed (s.fullReset .powerOn strap)

/-- BROWN_OUT_RESET. -/
def execBrownOutReset (strap : Bool) (s : State) : Host.Outcome State Fault Refusal :=
  completed (s.fullReset .brownOut strap)

/-- PIN_RESET. -/
def execPinReset (strap : Bool) (s : State) : Host.Outcome State Fault Refusal :=
  completed (s.fullReset .pin strap)

/-- RESET (R165): taken in every run state; the soft reset ends at the moment it begins, and ADDR is sampled then at the
level `params.strap` (R146). -/
def execReset (params : ResetParams) (s : State) : Host.Outcome State Fault Refusal :=
  completed (s.takeCommand (params.bytes.length == 0) false noData (State.softReset · params.strap))

end Sys2Proof.Machine
end

