-- ==== Sys2Proof/Machine/Steering.lean ====
section
/-! DEFINITION. The servo frame (R81 to R88). -/

namespace Sys2Proof.Machine

/-- The pending mode after the comparison of R82. -/
def modeRequest (mode wanted : SteerMode) : Option SteerMode := if wanted == mode then none else some wanted

/-- The mode and the pending mode after R82. -/
def modeAfter (band : Nat) (steer : Int) (mode wanted : SteerMode) : SteerMode × Option SteerMode :=
  match modeRequest mode wanted with
  | some p => if steer.natAbs ≤ band then (p, none) else (mode, some p)
  | none => (mode, none)

/-- The effective rear share in COUNTER (R84). -/
def fadedShare (c : Settings) (applied : Int) : Nat := c.rearShare - applied.natAbs * c.rearFade / 1000

/-- The rear share reported and used (R84): faded in COUNTER, REAR_SHARE otherwise. -/
def shareEffOf (c : Settings) (mode : SteerMode) (applied : Int) : Nat :=
  if mode == .counter then fadedShare c applied else c.rearShare

/-- The axle commands f and r (R83). -/
def axlesOf (c : Settings) (mode : SteerMode) (s : Int) (shareEff : Nat) : Int × Int :=
  match mode with
  | .front => (s, 0)
  | .rear => (0, s * c.rearDir)
  | .counter => (s, (-s * shareEff).tdiv 100)
  | .crab => (s, (s * c.rearShare).tdiv 100)

/-- The pulse of a steering servo for an axle command (R85). -/
def steerPulse (c : Settings) (v : Servo) (x : Int) : Int :=
  if 0 ≤ x then c.servoCenter v + (x * ((c.servoMax v : Int) - c.servoCenter v)).tdiv 1000
  else c.servoCenter v + (x * ((c.servoCenter v : Int) - c.servoMin v)).tdiv 1000

/-- The pulse of each servo before trim and bounds (R85). -/
def rawPulse (c : Settings) (front rear : Int) (gear : Gear) (diff : Int) : Servo → Int
  | .frontSteer => steerPulse c .frontSteer front
  | .rearSteer => steerPulse c .rearSteer rear
  | .gear => if gear == .high then c.gearHighUs else c.gearLowUs
  | .frontDiff => if diff == 1 || diff == 3 then c.frontLockUs else c.frontOpenUs
  | .rearDiff => if diff == 2 || diff == 3 then c.rearLockUs else c.rearOpenUs

/-- The aim: trim added, limited to min..max (R86), the bounds taken the right way round where a copy not yet checked
has them the other way (R163). -/
def aimOf (c : Settings) (v : Servo) (pulse : Int) : Int :=
  clampInt (min (c.servoMin v : Int) (c.servoMax v)) (max (c.servoMin v : Int) (c.servoMax v)) (pulse + c.servoTrim v)

/-- The emitted pulse moves toward the aim (R87). -/
def slewPulse (slew : Nat) (aim : Int) : Option Int → Int
  | none => aim
  | some e =>
    if slew == 0 || (aim - e).natAbs ≤ slew then aim else e + signInt (aim - e) * slew

/-- One servo after an active frame: aim and bound-hit flag (R86), emitted pulse (R87) unless SERVO_SHORT holds it
(R88), and the pulse its line is given, none in BENCH-DRY (R81). A pulse made absent by R90 while SERVO_SHORT holds stays
absent until the hold ends: R88 is taken before the last clause of R90 (DESIGN CHOICE, log 33). -/
def servoAfter (c : Settings) (held sent : Bool) (v : Servo) (pulse : Int) (r : ServoRecord) : ServoRecord :=
  let aim := aimOf c v pulse
  let emitted := if held then r.emitted else some (slewPulse c.servoSlew aim r.emitted)
  { aim := some aim
    emitted := emitted
    boundHit := pulse + c.servoTrim v != aim
    line := if sent then emitted else none }

/-- The steering controller after an active frame (R81). -/
def State.activeFrame (s : State) : Str :=
  let c := s.cfg
  let steer := s.valueOf .steer
  let m := modeAfter c.modeBand steer s.str.mode (SteerMode.ofValue (s.valueOf .steerMode))
  let share := shareEffOf c m.1 s.drv.applied
  let axles := axlesOf c m.1 steer share
  { mode := m.1
    pendingMode := m.2
    active := true
    steerUsed := steer
    shareEff := share
    front := axles.1
    rear := axles.2
    servo := PerServo.build fun v =>
      servoAfter c s.bgt.servoShort (s.rsc.run != .benchDry) v
        (rawPulse c axles.1 axles.2 s.drv.gear (s.valueOf .diff) v) (s.str.servo.get v)
    nextFrame := s.now + c.servoFrameMs * msec }

/-- The steering controller after a frame that is not active: no pulses, everything else left (R81). -/
def State.idleFrame (s : State) : Str :=
  { s.str with
    active := false
    servo := PerServo.build fun v => { s.str.servo.get v with line := none }
    nextFrame := s.now + s.cfg.servoFrameMs * msec }

/-- SERVO_FRAME (R81). -/
def execServoFrame (s : State) : Host.Outcome State Fault Refusal :=
  let s1 := s.reach s.str.nextFrame
  completed (s1.withStr (if s1.countedClosed then s1.activeFrame else s1.idleFrame))

end Sys2Proof.Machine
end

