-- ==== Sys2Proof/Machine/Dispatch.lean ====
section
/-! DEFINITION. The dispatch: one arm per command, each one call of its meaning. -/

namespace Sys2Proof.Machine

def exec (i : Instr) (s : State) : Host.Outcome State Fault Refusal :=
  match i with
  | .powerOnReset strap => Sys2Proof.Machine.execPowerOnReset strap s
  | .brownOutReset strap => Sys2Proof.Machine.execBrownOutReset strap s
  | .pinReset strap => Sys2Proof.Machine.execPinReset strap s
  | .sampleSet raw => Sys2Proof.Machine.execSampleSet raw s
  | .warnEntryComplete => Sys2Proof.Machine.execWarnEntryComplete s
  | .warnExitComplete => Sys2Proof.Machine.execWarnExitComplete s
  | .cutTimerComplete => Sys2Proof.Machine.execCutTimerComplete s
  | .critTimerComplete => Sys2Proof.Machine.execCritTimerComplete s
  | .rearmTimerComplete => Sys2Proof.Machine.execRearmTimerComplete s
  | .ocTripAssert => Sys2Proof.Machine.execOcTripAssert s
  | .ocTripRelease => Sys2Proof.Machine.execOcTripRelease s
  | .prechargeExpiry => Sys2Proof.Machine.execPrechargeExpiry s
  | .budgetPeriod => Sys2Proof.Machine.execBudgetPeriod s
  | .servoShort => Sys2Proof.Machine.execServoShort s
  | .driveStep => Sys2Proof.Machine.execDriveStep s
  | .servoFrame => Sys2Proof.Machine.execServoFrame s
  | .winchStep => Sys2Proof.Machine.execWinchStep s
  | .orderTimeout => Sys2Proof.Machine.execOrderTimeout s
  | .orderStarved => Sys2Proof.Machine.execOrderStarved s
  | .retryPauseEnd => Sys2Proof.Machine.execRetryPauseEnd s
  | .currentCheckStall => Sys2Proof.Machine.execCurrentCheckStall s
  | .drumCheckStall => Sys2Proof.Machine.execDrumCheckStall s
  | .drumPulse => Sys2Proof.Machine.execDrumPulse s
  | .benchDrumPulse => Sys2Proof.Machine.execBenchDrumPulse s
  | .lightFrameBoundary => Sys2Proof.Machine.execLightFrameBoundary s
  | .radioFrame bytes => Sys2Proof.Machine.execRadioFrame bytes s
  | .framingError => Sys2Proof.Machine.execFramingError s
  | .linkGapTimeout => Sys2Proof.Machine.execLinkGapTimeout s
  | .replyTimerExpiry => Sys2Proof.Machine.execReplyTimerExpiry s
  | .replySent => Sys2Proof.Machine.execReplySent s
  | .dlFreshnessExpiry => Sys2Proof.Machine.execDlFreshnessExpiry s
  | .apLeaseExpiry f => Sys2Proof.Machine.execApLeaseExpiry f s
  | .pendantEdge line low => Sys2Proof.Machine.execPendantEdge line low s
  | .pendantSettleExpiry line => Sys2Proof.Machine.execPendantSettleExpiry line s
  | .wakeTimerExpiry => Sys2Proof.Machine.execWakeTimerExpiry s
  | .armingTimerExpiry => Sys2Proof.Machine.execArmingTimerExpiry s
  | .idleSleepExpiry => Sys2Proof.Machine.execIdleSleepExpiry s
  | .loadEnd => Sys2Proof.Machine.execLoadEnd s
  | .storeEnd readBack => Sys2Proof.Machine.execStoreEnd readBack s
  | .acpUnknownWrite bytes => Sys2Proof.Machine.execAcpUnknownWrite bytes s
  | .status params => Sys2Proof.Machine.execStatus params s
  | .read params => Sys2Proof.Machine.execRead params s
  | .readCause params => Sys2Proof.Machine.execReadCause params s
  | .faultNext params => Sys2Proof.Machine.execFaultNext params s
  | .faultAck params => Sys2Proof.Machine.execFaultAck params s
  | .attnMask params => Sys2Proof.Machine.execAttnMask params s
  | .lockoutClear params => Sys2Proof.Machine.execLockoutClear params s
  | .halt params => Sys2Proof.Machine.execHalt params s
  | .sleep params => Sys2Proof.Machine.execSleep params s
  | .benchDry params => Sys2Proof.Machine.execBenchDry params s
  | .benchWet params => Sys2Proof.Machine.execBenchWet params s
  | .load params => Sys2Proof.Machine.execLoad params s
  | .start params => Sys2Proof.Machine.execStart params s
  | .reset params => Sys2Proof.Machine.execReset params s
  | .cfgRead params => Sys2Proof.Machine.execCfgRead params s
  | .cfgWrite params => Sys2Proof.Machine.execCfgWrite params s
  | .cfgCheck params => Sys2Proof.Machine.execCfgCheck params s
  | .cfgStore params => Sys2Proof.Machine.execCfgStore params s
  | .claim params => Sys2Proof.Machine.execClaim params s
  | .set params => Sys2Proof.Machine.execSet params s
  | .claimSet params => Sys2Proof.Machine.execClaimSet params s
  | .release params => Sys2Proof.Machine.execRelease params s
  | .refresh params => Sys2Proof.Machine.execRefresh params s
  | .winchPost params => Sys2Proof.Machine.execWinchPost params s
  | .winchCancel params => Sys2Proof.Machine.execWinchCancel params s
  | .winchReap params => Sys2Proof.Machine.execWinchReap params s
  | .winchResume params => Sys2Proof.Machine.execWinchResume params s
  | .winchZero params => Sys2Proof.Machine.execWinchZero params s
  | .sceneWrite params => Sys2Proof.Machine.execSceneWrite params s
  | .benchInject params => Sys2Proof.Machine.execBenchInject params s
  | .benchStall params => Sys2Proof.Machine.execBenchStall params s
  | .linkByteReceived b => Sys2Proof.Machine.execLinkByteReceived b s
  | .runctlNoFlag params => Sys2Proof.Machine.execRunctlNoFlag params s

end Sys2Proof.Machine
end

