-- ==== Sys2Proof/Machine/Step.lean ====
section
/-! DEFINITION. One step: the command at the front of the queue, or a tick of the clock while nothing waits. -/

namespace Sys2Proof.Machine

/-- With nothing waiting the clock advances by one microsecond and nothing else changes (log 1). -/
def State.tick (s : State) : State := s.withNow (s.now + 1)

/-- One step: the command at the front runs on the state whose queue is the rest (log 1). -/
def step (s : State) : Host.Outcome State Fault Refusal :=
  match s.pending with
  | [] => .next s.tick
  | c :: rest => exec c (s.withPending rest)

/-- The state with the command a table word spells in front of its queue; unchanged, for no word spells one. -/
def State.withFetchWord (s : State) (nbits w : Nat) : State :=
  match decodeTableWord nbits w with
  | some c => s.withPending (c :: s.pending)
  | none => s

end Sys2Proof.Machine
end

