-- ==== Sys2Proof/Safety.lean ====
section
/-! DEFINITION. The notions claims are stated in: which blocks a command leaves unchanged, and the conditions the manual
says always hold, as predicates on one state. -/

namespace Sys2Proof.Machine

/-! ### Frames -/

/-- The parts of the state, one for each block of 00_scope.md, with the clock, the lines and the queue. -/
inductive Block
  | now | lines | pmon | prot | bgt | grt | drv | str | wch | lgt | dlr | pnd | acp | rsc | pending
deriving DecidableEq, Repr

/-- Two states agree on a block. -/
def State.agree (s t : State) : Block → Prop
  | .now => t.now = s.now
  | .lines => t.lines = s.lines
  | .pmon => t.pmon = s.pmon
  | .prot => t.prot = s.prot
  | .bgt => t.bgt = s.bgt
  | .grt => t.grt = s.grt
  | .drv => t.drv = s.drv
  | .str => t.str = s.str
  | .wch => t.wch = s.wch
  | .lgt => t.lgt = s.lgt
  | .dlr => t.dlr = s.dlr
  | .pnd => t.pnd = s.pnd
  | .acp => t.acp = s.acp
  | .rsc => t.rsc = s.rsc
  | .pending => t.pending = s.pending

/-- Every block but the named ones is unchanged from `s` to `t`. -/
def unchangedBut (changed : List Block) (s t : State) : Prop := ∀ b, b ∉ changed → s.agree t b

/-- The accessory port after a command that only latches what is active (R151). -/
def acpSettled (s t : State) : Prop :=
  t.acp = { s.acp with latched := s.acp.latched ||| faultWord t.faultActive }

/-- The accessory port after a command that answers with a status and data: the response buffer replaced (R148), what
is active latched (R151), nothing else changed. -/
def answers (s t : State) (status : Status) (data : List Byte) : Prop :=
  t.acp =
    { s.acp with status := status, data := data, latched := s.acp.latched ||| faultWord t.faultActive }

/-- The grant table after an answered command that is no grant command: AP_LOST alone may become inactive (R54). -/
def apHeard (s t : State) (status : Status) : Prop :=
  t.grt = { s.grt with apLost := s.grt.apLost && !status.completes }

/-- When the idle timer ends after a command from `s` to `t` (R161): while in `t` the run state is RUNNING, IDLE_SLEEP is
not 0, every function has its neutral value and the winch is not moving, at the deadline it had in `s`, or IDLE_SLEEP
after `t`'s moment where it did not run; it is stopped otherwise. -/
def State.idleUntil (s t : State) : Option Nat :=
  if t.rsc.run = .running ∧ t.cfg.idleSleep ≠ 0 ∧ (∀ f ∈ Fn.all, t.valueOf f = 0) ∧ t.wch.moving = false then
    some (s.rsc.idleEnd.getD (t.now + t.cfg.idleSleep * 1000 * msec))
  else none

/-- The run-state controller after a command that touches nothing of it: the idle timer alone is judged (R161). -/
def rscIdle (s t : State) : Prop := t.rsc = { s.rsc with idleEnd := s.idleUntil t }

/-- The run-state controller after an accessory command that touches nothing of it: in SLEEP the write has begun a wake
(R162), and the idle timer is judged (R161). -/
def rscTaken (s t : State) : Prop := t.rsc = { s.wakeSource.rsc with idleEnd := s.idleUntil t }

/-- From `s` to `t` nothing has changed but the blocks named, what is active latched, and the idle timer judged. -/
def changesOnly (blocks : List Block) (s t : State) : Prop :=
  unchangedBut (.acp :: .rsc :: blocks) s t ∧ acpSettled s t ∧ rscIdle s t

/-- An accessory command has answered with a status and data and changed, beside its answer, the blocks named. -/
def answersWith (blocks : List Block) (s t : State) (status : Status) (data : List Byte) : Prop :=
  unchangedBut (.acp :: .grt :: .rsc :: blocks) s t ∧ answers s t status data ∧ apHeard s t status ∧ rscTaken s t

/-- A passage of function `f`'s record to FS with value `v` (R48). -/
def passedToFs (c : Settings) (f : Fn) (v : Int) (r r' : FnRecord) : Prop :=
  r'.holder = .fs ∧ r'.value = v ∧ r'.lease = none ∧
  r'.seq = (if r.holder = .fs then r.seq else (r.seq + 1) % 16) ∧
  (r'.reacquire = true ↔ f.proportional = true ∧ c.defaultHolder f = some .dl)

/-- A record that changes its holder to `h` with value `v` and lease `lease` (R47, R48). -/
def movedTo (h : Holder) (v : Int) (lease : Option Nat) (r r' : FnRecord) : Prop :=
  r' = { holder := h, value := v, seq := (r.seq + 1) % 16, lease := lease, reacquire := false }

/-- Function `f` re-examined at a change of the working copy from `s` to `t` (R65): a holder no longer allowed, and a DL
holder without a channel, pass to FS; an AP holder whose proportional function the new band leaves outside gives way to
DL; a record of FS takes its reacquire flag anew; every other record stays, an order that WINCH_EN has ended leaving the
WINCH value 0 (R113, R106). A new channel discards the last decoded
value. -/
def reexamined (s t : State) (f : Fn) : Prop :=
  let r := s.grt.fns.get f
  let r' := t.grt.fns.get f
  let moved := t.cfg.dlChannel f ≠ s.cfg.dlChannel f
  let dropped := t.cfg.allows f r.holder = false ∨ (r.holder = .dl ∧ t.cfg.dlChannel f = 0)
  let overridden := r.holder = .ap ∧ f.proportional = true ∧ s.grt.link = .fresh ∧ ¬moved ∧
    ∃ v, s.grt.lastDecoded.get f = some v ∧ t.cfg.neutralBand f < v.natAbs
  let ended := f = .winch ∧ r.holder = .ap ∧ s.cfg.winchEn = true ∧ t.cfg.winchEn = false ∧ s.wch.active ≠ none
  (r.holder = .fs → passedToFs t.cfg f r.value r r') ∧ (r.holder ≠ .fs → dropped → passedToFs t.cfg f 0 r r') ∧
  (¬dropped → overridden → ∀ v, s.grt.lastDecoded.get f = some v → movedTo .dl v none r r') ∧
  (r.holder ≠ .fs → ¬dropped → ¬overridden → r' = if ended then { r with value := 0 } else r) ∧
  t.grt.lastDecoded.get f = if moved then none else s.grt.lastDecoded.get f

/-- Only function `f`'s record has changed in the grant table, the answer's AP_LOST apart (R54). -/
def onlyRecord (f : Fn) (s t : State) (status : Status) : Prop :=
  (∀ g, g ≠ f → t.grt.fns.get g = s.grt.fns.get g) ∧
  t.grt = { s.grt with fns := t.grt.fns, apLost := s.grt.apLost && !status.completes }

/-- R71: the drive follows the winch's moving flag from `s` to `t`. A rise sets the interlock flag and clamps an applied
duty above WINCH_DRIVE_CAP at once, with its output and its signals; a fall clears the flag. A cap of 0 leaves direction
NONE (log 19). -/
def driveFollows (s t : State) : Prop :=
  let cap := s.cfg.winchDriveCap
  let clamped : Int := if s.drv.applied < 0 then -(cap : Int) else cap
  (t.wch.moving = s.wch.moving → t.drv = s.drv) ∧
  (s.wch.moving = true → t.wch.moving = false → t.drv = { s.drv with interlock := false }) ∧
  (s.wch.moving = false → t.wch.moving = true →
    (s.drv.applied.natAbs ≤ cap → t.drv = { s.drv with interlock := true }) ∧
    (cap < s.drv.applied.natAbs → t.drv =
      { s.drv with
        interlock := true
        applied := clamped
        dir := if 0 < clamped then .forward else if clamped < 0 then .backward else .none
        brake := s.drv.dragBrake || decide (clamped ≠ 0 ∧
          (s.drv.target = 0 ∨ (s.drv.target < 0 ↔ clamped < 0)) ∧ s.drv.target.natAbs < cap)
        reverse := decide (clamped < 0)
        pwm := if s.rsc.run = .running ∧ (s.prot.st = .normal ∨ s.prot.st = .warn) ∧ s.prot.sw = .closed ∧
          s.cfg.driveEn = true then cap else 0 }))

/-! ### What becomes of the winch orders -/

/-- The order in a slot is ACTIVE. -/
def Wch.activeAt (w : Wch) (i : Fin 4) : Prop := ∃ o, w.slots.get i = some o ∧ o.isActive = true

/-- The order in a slot is DONE or FAILED. -/
def Wch.finishedAt (w : Wch) (i : Fin 4) : Prop := ∃ o, w.slots.get i = some o ∧ o.finished = true

/-- The winch queue (R101, R113): the post list holds each occupied slot once and no other; at most one order is ACTIVE,
every order posted before it has finished, and AP holds WINCH while it is. -/
def State.queueOk (s : State) : Prop :=
  s.wch.postList.Nodup ∧ (∀ i, i ∈ s.wch.postList ↔ s.wch.slots.get i ≠ none) ∧
  (∀ before i after, s.wch.postList = before ++ i :: after → s.wch.activeAt i →
    ∀ j ∈ before, s.wch.finishedAt j) ∧
  (∀ i j, s.wch.activeAt i → s.wch.activeAt j → i = j) ∧
  (∀ i, s.wch.activeAt i → s.holderOf .winch = .ap)

/-- What an event that ends an ACTIVE order FAILED/PREEMPTED leaves of the winch queue, from `s` to `t` (R113, R106): the
record finished, its kind, speed, turns_done and retries kept, the run flag clear, the motor stopped at once and ORDER_DONE
posted. Every other record and the post list stay, and with no order ACTIVE nothing of it changes. -/
def preempted (s t : State) : Prop :=
  (∀ i, ¬t.wch.activeAt i) ∧ t.wch.postList = s.wch.postList ∧ t.wch.lastPosted = s.wch.lastPosted ∧
  (s.wch.active = none → t.wch.slots = s.wch.slots ∧ t.wch.runFlag = s.wch.runFlag) ∧
  (∀ i o r, s.wch.active = some (i, o, r) →
    t.wch.slots = s.wch.slots.set i (some { o with phase := .failed, result := some .preempted }) ∧
      t.wch.runFlag = false ∧ t.wch.duty = 0 ∧ t.wch.moving = false ∧ t.wch.pwm = 0) ∧
  t.acp.orderDone = (s.acp.orderDone || s.wch.active.isSome)

/-- The direct stall hold is absent and the direct stall timers are stopped (R100, R109, R111). -/
def Wch.directEnded (w : Wch) : Prop :=
  w.stallHold = false ∧ w.stalledSign = none ∧ w.directCurrent = none ∧ w.directDrum = none

/-- What the holder of WINCH in `s` and in `t` makes of the winch (R100, R113). Where it stays, the winch and the drive do.
Where it changes, the direct stall hold and the direct stall timers end, an order ACTIVE when WINCH leaves AP is preempted,
and a passage to AP stops direct drive at once; the motor runs on otherwise. -/
def handedOver (s t : State) : Prop :=
  let stopped := t.holderOf .winch == .ap || (s.holderOf .winch == .ap && s.wch.active.isSome)
  (t.holderOf .winch = s.holderOf .winch →
    t.wch = s.wch ∧ t.drv = s.drv ∧ t.acp.orderDone = s.acp.orderDone) ∧
  (t.holderOf .winch ≠ s.holderOf .winch →
    t.wch =
      { s.wch with
        stallHold := false, stalledSign := none, directCurrent := none, directDrum := none
        slots := t.wch.slots, runFlag := t.wch.runFlag
        duty := if stopped then 0 else s.wch.duty
        moving := if stopped then false else s.wch.moving
        pwm := if stopped then 0 else s.wch.pwm } ∧
    (s.holderOf .winch ≠ .ap → t.wch.slots = s.wch.slots ∧ t.wch.runFlag = s.wch.runFlag ∧
      t.acp.orderDone = s.acp.orderDone) ∧
    (s.holderOf .winch = .ap → s.queueOk → preempted s t)) ∧
  driveFollows s t

/-- What a change of the grant table sets off in the other blocks: the rearm condition (R11) and the arming timer (R160)
on THROTTLE, the pending scene on SCENE (R123), and the winch and the drive on a change of WINCH's holder (R71, R100,
R113). -/
def followsTable (s t : State) : Prop :=
  t.prot = { s.prot with throttleRested := s.prot.throttleRested && t.valueOf .throttle == 0 } ∧
  t.lgt =
    { s.lgt with
      pendingScene := if t.valueOf .scene = s.valueOf .scene then s.lgt.pendingScene else (t.valueOf .scene).toNat } ∧
  handedOver s t ∧
  (s.rsc.run ≠ .arming ∨ t.valueOf .throttle = s.valueOf .throttle → t.rsc.armingEnd = s.rsc.armingEnd) ∧
  (s.rsc.run = .arming ∧ t.valueOf .throttle ≠ s.valueOf .throttle →
    t.rsc.armingEnd = if t.valueOf .throttle = 0 then some (t.now + s.cfg.armNeutral * msec) else none) ∧
  t.rsc = { s.rsc with armingEnd := t.rsc.armingEnd, idleEnd := s.idleUntil t }

/-- What the accessory port latches and posts where a command may end an order and answers nothing (R106, R151). -/
def acpPosted (s t : State) : Prop :=
  t.acp = { s.acp with orderDone := t.acp.orderDone, latched := s.acp.latched ||| faultWord t.faultActive }

/-- The same where the command is answered with a status and data (R148). -/
def answersPosted (s t : State) (status : Status) (data : List Byte) : Prop :=
  t.acp =
    { s.acp with
      status := status, data := data, orderDone := t.acp.orderDone
      latched := s.acp.latched ||| faultWord t.faultActive }

/-- What a replaced working configuration sets off, from `s` to `t`, at a CFG_WRITE and at the end of a LOAD: every record of
the grant table re-examined (R65); the emitted pulse of a servo whose bounds or trim changed absent (R90); the line no
longer referenced where PULSES_PER_TURN changed (R94); an ACTIVE order preempted where WINCH_EN goes to 0 or WINCH leaves AP
(R113), with the direct stall hold and timers ended where WINCH changes its holder (R100); and the pending scene, the rearm
condition and the interlock that follow the new values. -/
def reconfigured (s t : State) : Prop :=
  let preempts := (s.cfg.winchEn = true ∧ t.cfg.winchEn = false) ∨
    (s.holderOf .winch = .ap ∧ t.holderOf .winch ≠ .ap)
  (∀ f, reexamined s t f) ∧
  t.grt = { s.grt with fns := t.grt.fns, lastDecoded := t.grt.lastDecoded, apLost := t.grt.apLost } ∧
  t.str = { s.str with servo := t.str.servo } ∧
  (∀ v, t.str.servo.get v =
    { s.str.servo.get v with
      emitted :=
        if t.cfg.servoMin v = s.cfg.servoMin v ∧ t.cfg.servoCenter v = s.cfg.servoCenter v ∧
            t.cfg.servoMax v = s.cfg.servoMax v ∧ t.cfg.servoTrim v = s.cfg.servoTrim v then
          (s.str.servo.get v).emitted
        else none }) ∧
  t.wch.referenced = (s.wch.referenced && decide (t.cfg.pulsesPerTurn = s.cfg.pulsesPerTurn)) ∧
  t.wch.linePos = s.wch.linePos ∧ t.wch.dir = s.wch.dir ∧ t.wch.stallArm = s.wch.stallArm ∧
  (preempts → s.queueOk → preempted s t) ∧
  (¬preempts → t.wch.slots = s.wch.slots ∧ t.wch.runFlag = s.wch.runFlag ∧ t.wch.duty = s.wch.duty ∧
    t.wch.moving = s.wch.moving ∧ t.wch.pwm = s.wch.pwm ∧ t.acp.orderDone = s.acp.orderDone) ∧
  t.wch.postList = s.wch.postList ∧ t.wch.lastPosted = s.wch.lastPosted ∧
  (t.holderOf .winch ≠ s.holderOf .winch → t.wch.directEnded) ∧
  (t.holderOf .winch = s.holderOf .winch → t.wch.stallHold = s.wch.stallHold ∧ t.wch.stalledSign = s.wch.stalledSign ∧
    t.wch.directCurrent = s.wch.directCurrent ∧ t.wch.directDrum = s.wch.directDrum) ∧
  t.lgt =
    { s.lgt with
      pendingScene := if t.valueOf .scene = s.valueOf .scene then s.lgt.pendingScene else (t.valueOf .scene).toNat } ∧
  t.prot.throttleRested = (s.prot.throttleRested && t.valueOf .throttle == 0) ∧ driveFollows s t

/-! ### Conditions that always hold -/

/-- No store is in flight, so a command of the right length reaches its rule (R147). -/
def State.portOpen (s : State) : Prop := s.rsc.storeEnd = none

/-- The lengths of Table 11-4, in parameter bytes: absent for CFG_WRITE, whose length follows from its own count. -/
def tableLength : Nat → Option Nat
  | 0x02 => some 1
  | 0x05 => some 1
  | 0x06 => some 3
  | 0x10 => some 1
  | 0x12 => some 3
  | 0x13 => none
  | 0x20 => some 1
  | 0x21 => some 4
  | 0x22 => some 3
  | 0x23 => some 1
  | 0x30 => some 6
  | 0x31 => some 1
  | 0x38 => some 5
  | 0x40 => some 5
  | _ => some 0

/-- The byte count of a write matches its command (R147): by the table, or by the count of a CFG_WRITE. -/
def lengthMatches (command : Byte) (params : List Byte) : Prop :=
  match tableLength command.toNat with
  | some n => params.length = n
  | none => 3 ≤ params.length ∧ params.length = 3 + param params 2

/-- The three bytes every RUNCTL answers with (R157, Table 11-4). -/
def State.runBytes (s : State) : List Byte :=
  [byteOf s.rsc.run.code, if s.rsc.startInFlight then 1 else 0, if s.rsc.pendingStart then 1 else 0]

/-- The bytes that name the first bad field of the working copy and its reason, or none with NOT_CHECKED (R159, R173). The
field is the one the model finds first (log 9). -/
def State.badFieldBytes (s : State) : List Byte :=
  match firstBad s.cfg with
  | some (offset, reason) => word16 offset ++ [byteOf reason.code]
  | none => [0xFF, 0xFF, 3]

/-- The data that go with a refusal by the checks of R147: those of the commands whose data Table 11-4 marks "always" (R55,
R157, R103, R152), as they stand when the command is taken, and none for the rest. A write that names no function or no
fault entry is the model's (log 13). -/
def alwaysSent (s : State) (command : Byte) (params data : List Byte) : Prop :=
  if command = 0x10 then data = s.runBytes
  else if command = 0x05 then
    (∀ e : FaultEntry, params.head? = some (byteOf e.code) →
      data = [if s.faultActive e then 1 else 0, if s.faultLatched e then 1 else 0]) ∧
    ((∀ e : FaultEntry, params.head? ≠ some (byteOf e.code)) → data = [0, 0])
  else if 0x20 ≤ command.toNat ∧ command.toNat ≤ 0x23 then
    (∀ f : Fn, params.head? = some (byteOf f.code) →
      data = [byteOf (s.holderOf f).code, byteOf (s.grt.fns.get f).seq]) ∧
    ((∀ f : Fn, params.head? ≠ some (byteOf f.code)) → data = [0xFF, 0xFF])
  else if command = 0x30 then data = [0xFF]
  else data = []

/-- The pack switch and the run state (R20, R156, R166): in LOCKOUT the switch is OPEN; it is CLOSED only in ARMING,
RUNNING and BENCH-WET; it is PRECHARGING only while a start is in flight or in BENCH-WET. -/
def State.switchOk (s : State) : Prop :=
  (s.prot.st = .lockout → s.prot.sw = .opened) ∧
  (s.prot.sw = .closed → s.rsc.run = .arming ∨ s.rsc.run = .running ∨ s.rsc.run = .benchWet) ∧
  (s.prot.sw = .precharging → (s.rsc.run = .halted ∧ s.rsc.startInFlight = true) ∨ s.rsc.run = .benchWet)

/-- The drive may drive its output (R73). -/
def State.mayDrive (s : State) : Prop :=
  s.rsc.run = .running ∧ (s.prot.st = .normal ∨ s.prot.st = .warn) ∧ s.prot.sw = .closed

/-- DRV_BRK may be driven (R73): ARMING and CUTOFF count for it too, and the drag brake is on. -/
def State.mayBrake (s : State) : Prop :=
  (s.rsc.run = .running ∨ s.rsc.run = .arming) ∧ s.prot.st ≠ .lockout ∧ s.prot.sw = .closed ∧ s.drv.dragBrake = true

/-- The outputs (R73, R74, R89, R98, R133): the drive and winch bridges carry a duty only in RUNNING, in NORMAL or WARN,
with the switch CLOSED; DRV_BRK is driven only while it may be, and then the applied duty and DRV_PWM are 0; servos and
lights are driven only with the switch CLOSED. -/
def State.outputsOk (s : State) : Prop :=
  (s.drv.pwm ≠ 0 → s.mayDrive) ∧ (s.wch.pwm ≠ 0 → s.mayDrive) ∧
  (s.drv.brk ≠ none → s.mayBrake ∧ s.drv.applied = 0 ∧ s.drv.pwm = 0) ∧
  (∀ v, (s.str.servo.get v).line ≠ none → s.prot.sw = .closed) ∧
  (∀ l, (s.lgt.lamp.get l).line ≠ 0 → s.prot.sw = .closed)

/-- The duties obey the caps formed at their latest steps (R70, R97), the drive's cap the smaller of its budget and thermal
caps or, with the interlock, the smallest of the three; and the moving flag follows the duty. -/
def State.dutiesOk (s : State) : Prop :=
  s.drv.applied.natAbs ≤ s.drv.cap ∧ s.drv.cap ≤ s.drv.budgetCap ∧ s.drv.cap ≤ s.drv.thermalCap ∧
  (s.drv.cap = min s.drv.budgetCap s.drv.thermalCap ∨
    s.drv.cap = min (min s.drv.budgetCap s.drv.thermalCap) s.drv.interlockCap) ∧
  s.wch.duty.natAbs ≤ s.wch.speedCap ∧ s.wch.moving = (s.wch.duty != 0)

/-- The interlock (R70, R71): its flag is set exactly while the winch moves, and then the applied drive duty is within
WINCH_DRIVE_CAP. -/
def State.interlockOk (s : State) : Prop :=
  s.drv.interlock = s.wch.moving ∧ (s.wch.moving = true → s.drv.applied.natAbs ≤ s.cfg.winchDriveCap)

/-- The four grants of a computation. -/
def BudgetResult.granted (r : BudgetResult) : Nat := r.grant.toList.sum

/-- The budget (R35, R38): the grants never exceed A, published or trial, and with the switch not CLOSED the published
A and grants are 0. -/
def State.budgetOk (s : State) : Prop :=
  s.bgt.pub.granted ≤ s.bgt.pub.a ∧ (∀ r, s.bgt.trial = some r → r.granted ≤ r.a) ∧
  (s.prot.sw ≠ .closed → s.bgt.pub.a = 0)

/-- The lights (R132): the draws never exceed the LIGHTS grant latched at the latest boundary. -/
def State.lightsOk (s : State) : Prop :=
  (s.lgt.lamp.toList.map LampRecord.draw).sum ≤ s.lgt.latched.elim 0 LightInputs.grant

/-- The working copy is 350 bytes (section 9.5). -/
def State.configOk (s : State) : Prop := s.cfg.bytes.length = 350

/-- The radio's right to throttle and steering (R52): while the link is fresh and the last decoded value of one of them
lies outside its neutral band, AP does not hold it. A function without a channel has no last decoded value (R51, R65). -/
def State.radioOk (s : State) : Prop :=
  (∀ f v, f.proportional = true → s.grt.link = .fresh → s.grt.lastDecoded.get f = some v →
    outsideBand s.cfg f v = true → s.holderOf f ≠ .ap) ∧
  (∀ f, s.cfg.dlChannel f = 0 → s.grt.lastDecoded.get f = none)

/-- Every function has exactly one holder, and that holder is FS or a member of the function's allowed set (R45). -/
def State.holdersOk (s : State) : Prop := ∀ f, s.cfg.allows f (s.holderOf f) = true

/-- No window holds more samples than its depth (R1). -/
def State.windowsOk (s : State) : Prop := ∀ q, (s.pmon.chan.get q).window.length ≤ q.depth

/-- A cutoff cause is present in CUTOFF only, and a trip time while the cause is HARD_TRIP (section 1.3). -/
def causeFits (st : ProtState) (cause : Option CutCause) (tripTime : Option Nat) : Prop :=
  (cause ≠ none ↔ st = .cutoff) ∧ (tripTime ≠ none ↔ cause = some .hardTrip)

/-- The protection state fits its cause and trip time, and so does the state a bench save keeps (R166). -/
def State.causeOk (s : State) : Prop :=
  causeFits s.prot.st s.prot.cause s.prot.tripTime ∧
  ∀ sv, s.rsc.save = some sv → causeFits sv.st sv.cause sv.tripTime

/-- Every active fault is latched (R151). -/
def State.faultsOk (s : State) : Prop := ∀ e, s.faultActive e = true → s.faultLatched e = true

/-! ### What a protection event does -/

/-- The move of a thermal band from `b` to `b'` at a temperature (R6), with thresholds `T 1`, `T 2`, `T 3` and hysteresis
`h`: up to the highest band reached, else down to the highest band still reached, else none. -/
def bandFollows (T : Nat → Int) (h temp : Int) (b b' : Nat) : Prop :=
  (b < 3 ∧ T (b + 1) + h ≤ temp →
    b < b' ∧ b' ≤ 3 ∧ T b' + h ≤ temp ∧ (T 2 + h ≤ temp → b < 2 → 2 ≤ b') ∧ (T 3 + h ≤ temp → b' = 3)) ∧
  (¬(b < 3 ∧ T (b + 1) + h ≤ temp) → 0 < b ∧ temp < T b →
    b' < b ∧ b' < 4 ∧ (b' = 0 ∨ T b' ≤ temp) ∧ (T 1 ≤ temp → 1 < b → 1 ≤ b') ∧ (T 2 ≤ temp → 2 < b → 2 ≤ b') ∧
      (T 3 ≤ temp → 3 < b → b' = 3)) ∧
  (¬(b < 3 ∧ T (b + 1) + h ≤ temp) → ¬(0 < b ∧ temp < T b) → b' = b)

/-- A dwell timer runs in the present protection state and its condition holds of a published Vmin `v`, with the TAP
fault as `tap`, at time `now` (the table of R7, and R11). -/
def State.dwellTrue (s : State) (v : Int) (tap : Bool) (now : Nat) : Dwell → Prop
  | .warnEntry => s.prot.st = .normal ∧ v < s.cfg.vWarn
  | .warnExit => s.prot.st = .warn ∧ ((s.cfg.vWarn + s.cfg.vHys : Nat) : Int) ≤ v ∧ tap = false
  | .cut => (s.prot.st = .normal ∨ s.prot.st = .warn) ∧ v ≤ s.cfg.vCut
  | .crit => s.prot.st ≠ .lockout ∧ v ≤ s.cfg.vCrit
  | .rearm => s.prot.st = .cutoff ∧ ((s.cfg.vCut + s.cfg.vRearm : Nat) : Int) ≤ v ∧ s.prot.throttleRested = true ∧
      s.valueOf .throttle = 0 ∧
      (s.prot.cause = some .hardTrip → ∀ t, s.prot.tripTime = some t → t + 1000 * msec ≤ now)

/-- A dwell timer has run its dwell by time `now` (R7). -/
def State.dwellRun (s : State) (now : Nat) (k : Dwell) : Prop :=
  ∃ start, s.prot.dwell.get k = some start ∧ start + k.length s.cfg * msec ≤ now

/-- The grant table where an order ACTIVE in `s` may have ended and nothing else touched it (R105, R106): the WINCH value
0 while AP holds WINCH, and everything else as it was. -/
def winchValueEnded (s t : State) : Prop :=
  (∀ f, t.grt.fns.get f =
    if f = .winch ∧ s.holderOf .winch = .ap ∧ s.wch.active.isSome = true then { s.grt.fns.get f with value := 0 }
    else s.grt.fns.get f) ∧
  t.grt = { s.grt with fns := t.grt.fns }

/-- The three caps of the latest drive step, and the cap they gave together, are those of that step still: no event between
two drive steps but a reset changes them (R70, R71, R78). -/
def capsKept (s t : State) : Prop :=
  t.drv.budgetCap = s.drv.budgetCap ∧ t.drv.thermalCap = s.drv.thermalCap ∧
  t.drv.interlockCap = s.drv.interlockCap ∧ t.drv.cap = s.drv.cap

/-- From `s` to `t` the protection state has entered CUTOFF, with its effects at once: the crit timer alone goes on
(R9, R10), DRIVE and WINCH lose grant and starved time (R38), the drive stands with the drag brake on, on DRV_BRK too where
it is released and its caps and gear as they were (R73, R78), the winch stands at once and an ACTIVE order is preempted, the WINCH value 0 while AP holds it
(R99, R105, R113), the interlock falling with it (R71). The switch stays. -/
def cutOff (s t : State) (cause : CutCause) (tripTime : Option Nat) : Prop :=
  t.prot =
    { s.prot with
      st := .cutoff, cause := some cause, tripTime := tripTime
      dwell := { warnEntry := none, warnExit := none, cut := none, crit := s.prot.dwell.crit, rearm := none } } ∧
  (∀ k, k = .drive ∨ k = .winch → t.bgt.pub.grant.get k = 0 ∧ t.bgt.starved.get k = 0) ∧
  (∀ k, k = .servo ∨ k = .lights → t.bgt.pub.grant.get k = s.bgt.pub.grant.get k) ∧ t.bgt.pub.a = s.bgt.pub.a ∧
  t.drv =
    { s.drv with
      applied := 0, dir := .none, pwm := 0, dragBrake := true, brake := true, reverse := false
      interlock := s.drv.interlock && !s.wch.moving
      brk := if (s.rsc.run = .running ∨ s.rsc.run = .arming) ∧ s.prot.sw = .closed ∧ s.cfg.driveEn = true then
        some s.cfg.drag else none } ∧
  t.wch =
    { s.wch with slots := t.wch.slots, runFlag := t.wch.runFlag, duty := 0, moving := false, pwm := 0 } ∧
  (s.queueOk → preempted s t) ∧ winchValueEnded s t ∧
  unchangedBut [.now, .lines, .prot, .bgt, .grt, .drv, .wch, .acp, .rsc] s t

/-- From `s` to `t` the bench has been left and its save `sv` restored (R171): the protection state, cause and trip time,
Q and LIMIT, the two bands, and from BENCH-DRY the line position, the referenced flag, the winch drive direction and the
gear, with every substitute, trial value and computed record ended. `locked`: a BENCH-WET left by entry to LOCKOUT, which
keeps LOCKOUT, Q and LIMIT. Restored bands stand beside an active sensor fault until the next sample set (log 27). -/
def benchLeft (s t : State) (sv : BenchSave) (locked : Bool) : Prop :=
  t.rsc.save = none ∧ t.wch.stallArm = false ∧ (∀ k, t.prot.dwell.get k = none) ∧
  (locked = false → t.prot.st = sv.st ∧ t.prot.cause = sv.cause ∧ t.prot.tripTime = sv.tripTime ∧ t.prot.q = sv.q ∧
    t.prot.limit = sv.limit) ∧
  (locked = true → t.prot.st = .lockout ∧ t.prot.cause = none ∧ t.prot.tripTime = none ∧ t.prot.q = s.prot.q ∧
    t.prot.limit = s.prot.limit) ∧
  t.pmon = { s.pmon with chan := t.pmon.chan, packBand := sv.packBand, motorBand := sv.motorBand } ∧
  (s.rsc.run = .benchDry →
    t.wch.linePos = sv.linePos ∧ t.wch.referenced = sv.referenced ∧ t.wch.dir = sv.winchDir ∧ t.drv.gear = sv.gear ∧
    t.wch.drumRate = 0 ∧ t.wch.nextBenchPulse = none ∧ t.wch.duty = 0 ∧ t.wch.stallHold = false ∧
    (∀ q, t.pmon.chan.get q =
      { s.pmon.chan.get q with
        substituted := false, refill := (s.pmon.chan.get q).refill || (s.pmon.chan.get q).substituted }) ∧
    t.bgt.trial = none ∧ (∀ k, t.bgt.starved.get k = 0) ∧ t.bgt.shortCount = 0 ∧ t.bgt.clearCount = 0 ∧
    t.bgt.servoShort = false ∧ t.drv.applied = 0 ∧ t.drv.dragBrake = false ∧ t.drv.pendingGear = none ∧
    t.str.pendingMode = none ∧
    (∀ v, (t.str.servo.get v).emitted = none ∧ (t.str.servo.get v).boundHit = false) ∧
    ∀ l, (t.lgt.lamp.get l).duty = 0 ∧ (t.lgt.lamp.get l).draw = 0) ∧
  (s.rsc.run ≠ .benchDry →
    t.wch.linePos = s.wch.linePos ∧ t.wch.referenced = s.wch.referenced ∧ t.wch.dir = s.wch.dir ∧
    t.drv.gear = s.drv.gear ∧ t.pmon.chan = s.pmon.chan)

/-- From `s` to `t` the protection state has entered LOCKOUT, on the bench or with no bench save (R12, R156, R170, R171):
everything it timed is gone, the switch is OPEN or, in BENCH-DRY, as it was, the vehicle halts where it was under way and
the bench save of a BENCH-WET is restored. The winch stands at once and an ACTIVE order is preempted (R99, R113); where the
vehicle halts every function passes to FS (R64), and elsewhere the WINCH value is 0 while AP holds it (R105). In BENCH-DRY
the computed drive stops and the trial A and grants become 0, as they would at an opening switch (log 18). -/
def lockedOut (s t : State) : Prop :=
  (s.rsc.save = none ∨ s.rsc.run = .benchDry ∨ s.rsc.run = .benchWet →
    t.prot.st = .lockout ∧ t.prot.cause = none ∧ t.prot.tripTime = none ∧ (∀ k, t.prot.dwell.get k = none) ∧
    t.prot.q = s.prot.q ∧ t.prot.limit = s.prot.limit ∧ t.faultLatched .lockout = true) ∧
  t.prot.sw = (if s.rsc.run = .benchDry then s.prot.sw else .opened) ∧
  t.rsc.run = (if s.rsc.run = .arming ∨ s.rsc.run = .running ∨ s.rsc.run = .benchWet then .halted else s.rsc.run) ∧
  (s.prot.sw = .closed → s.rsc.run ≠ .benchDry → t.bgt.pub.a = 0 ∧ t.drv.pwm = 0 ∧ t.drv.brk = none ∧
    (∀ v, (t.str.servo.get v).line = none) ∧ ∀ l, (t.lgt.lamp.get l).line = 0) ∧
  (s.rsc.run = .benchDry → t.drv.applied = 0 ∧ t.drv.dir = .none ∧ t.drv.dragBrake = false ∧ t.drv.brake = false ∧
    t.drv.pendingGear = none ∧ t.drv.gear = s.drv.gear ∧
    (∀ r, s.bgt.trial = some r →
      t.bgt.trial = some { r with a := 0, grant := { servo := 0, drive := 0, winch := 0, lights := 0 } }) ∧
    (∀ k, t.bgt.starved.get k = 0) ∧ t.bgt.servoShort = false ∧ t.rsc.save = s.rsc.save ∧ t.pmon = s.pmon ∧
    t.str = s.str ∧ t.lgt = s.lgt) ∧
  (∀ sv, s.rsc.save = some sv → s.rsc.run = .benchWet → benchLeft s t sv true) ∧
  t.wch.duty = 0 ∧ t.wch.moving = false ∧ t.wch.pwm = 0 ∧ (s.queueOk → preempted s t) ∧ capsKept s t ∧
  (s.rsc.run = .arming ∨ s.rsc.run = .running ∨ s.rsc.run = .benchWet →
    (∀ f, passedToFs s.cfg f 0 (s.grt.fns.get f) (t.grt.fns.get f)) ∧ t.grt = { s.grt with fns := t.grt.fns }) ∧
  (s.rsc.run ≠ .arming → s.rsc.run ≠ .running → s.rsc.run ≠ .benchWet → winchValueEnded s t) ∧
  unchangedBut [.now, .lines, .pmon, .prot, .bgt, .grt, .drv, .str, .wch, .lgt, .acp, .rsc] s t

/-- From `s` to `t` the dwell timer `k`, which ran from `start`, has completed as an event of its own, at the end of its
dwell (log 3), with `v` the latest published Vmin. Of the timers that have run their dwell by then, their conditions
holding, the most severe target is taken (R7): LOCKOUT, then CUTOFF, then WARN, then NORMAL. -/
def dwellCompleted (s t : State) (v : Int) (k : Dwell) (start : Nat) : Prop :=
  let due := fun j => s.dwellTrue v s.pmon.tapFault t.now j ∧ s.dwellRun t.now j
  let warns := due .warnEntry ∨ due .rearm
  let kept : PerDwell (Option Nat) :=
    { warnEntry := none, warnExit := none, cut := s.prot.dwell.cut, crit := s.prot.dwell.crit, rearm := none }
  t.now = max s.now (start + k.length s.cfg * msec) ∧ (due .crit → lockedOut s t) ∧
  (¬due .crit → due .cut → cutOff s t .lowVolt none ∧ t.faultLatched .lowCutoff = true) ∧
  (¬due .crit → ¬due .cut → warns →
    t.prot = { s.prot with st := .warn, cause := none, tripTime := none, dwell := kept } ∧
    t.faultLatched .lowWarn = true ∧ changesOnly [.now, .prot] s t) ∧
  (¬due .crit → ¬due .cut → ¬warns →
    t.prot = { s.prot with st := .normal, dwell := kept } ∧ changesOnly [.now, .prot] s t)

/-! ### What a winch step does to the ACTIVE order -/

/-- R97 lets the winch drive an order: run state, protection state, pack switch, WINCH_EN, and for an order that pays out
the line limit (R95). -/
def State.winchOpen (s : State) (o : Order) : Prop :=
  s.countedRunning = true ∧ (s.prot.st = .normal ∨ s.prot.st = .warn) ∧ s.countedClosed = true ∧
  s.cfg.winchEn = true ∧
  ¬(0 < o.signedSpeed ∧ s.wch.referenced = true ∧
    ((s.cfg.lineMax * s.cfg.pulsesPerTurn : Nat) : Int) ≤ s.wch.linePos)

/-- From `s` to `t` a winch step has ended the order of slot `i` with a result (R106): the record finished, the run flag
cleared by a FAILED end, the motor and its demand at 0, ORDER_DONE posted, the drive following the moving flag. -/
def orderEnded (s t : State) (i : Fin 4) (o : Order) (result : OrderResult) : Prop :=
  t.wch.slots = s.wch.slots.set i
    (some { o with phase := if result = .ok then .done else .failed, result := some result }) ∧
  t.wch.runFlag = (s.wch.runFlag && result == .ok) ∧ t.wch.postList = s.wch.postList ∧ t.wch.duty = 0 ∧
  t.wch.moving = false ∧ t.wch.pwm = 0 ∧ t.wch.demand = 0 ∧ t.valueOf .winch = 0 ∧ t.acp.orderDone = true ∧
  t.wch.speedCap = min 1000 (1000 * s.grantFor .winch / s.cfg.winchRated) ∧ driveFollows s t ∧
  unchangedBut [.now, .grt, .wch, .drv, .acp, .rsc] s t

/-- From `s` to `t` a winch step has judged a stall timer of the ACTIVE order that has run its time (R109, R110). With a
non-zero duty the stall begins a retry pause, or ends the order when no retry is left; with a duty of 0 the timers stop
and the order goes on. -/
def orderStalled (s t : State) (i : Fin 4) (o : Order) (r : OrderRun) : Prop :=
  let cap := min 1000 (1000 * s.grantFor .winch / s.cfg.winchRated)
  let drives := s.winchOpen o ∧ cap ≠ 0 ∧ o.speed ≠ 0
  (drives → o.noRetry = true ∨ s.cfg.winchRetries ≤ o.retriesUsed →
    orderEnded s t i o .stall ∧ t.faultLatched .winchStall = true) ∧
  (¬(drives ∧ (o.noRetry = true ∨ s.cfg.winchRetries ≤ o.retriesUsed)) →
    (drives → t.wch.slots = s.wch.slots.set i (some
      { o with
        retriesUsed := o.retriesUsed + 1
        phase := .active
          { r with pauseStart := some t.now, currentTimer := none, drumTimer := none, armed := false } })) ∧
    (¬drives → t.wch.slots = s.wch.slots.set i (some
      { o with phase := .active { r with currentTimer := none, drumTimer := none } })) ∧
    t.wch.runFlag = s.wch.runFlag ∧ t.wch.duty = 0 ∧ t.wch.moving = false ∧ t.wch.pwm = 0 ∧
    t.wch.demand = (if s.cfg.winchEn then s.cfg.winchRated * o.speed / 1000 else 0) ∧ t.wch.speedCap = cap ∧
    t.valueOf .winch = o.signedSpeed ∧ driveFollows s t ∧ changesOnly [.now, .grt, .wch, .drv] s t)

/-- From `s` to `t` a winch step has judged a direct stall timer that has run its time (R109, R111): with a non-zero duty
the hold becomes present, the motor stands and WINCH_STALL is active; with a duty of 0 the timers stop. -/
def directStalled (s t : State) : Prop :=
  let cap := min 1000 (1000 * s.grantFor .winch / s.cfg.winchRated)
  let drives := s.countedRunning = true ∧ (s.prot.st = .normal ∨ s.prot.st = .warn) ∧ s.countedClosed = true ∧
    s.cfg.winchEn = true ∧ cap ≠ 0 ∧ s.valueOf .winch ≠ 0 ∧
    ¬(0 < s.valueOf .winch ∧ s.wch.referenced = true ∧
      ((s.cfg.lineMax * s.cfg.pulsesPerTurn : Nat) : Int) ≤ s.wch.linePos)
  t.wch.directCurrent = none ∧ t.wch.directDrum = none ∧ t.wch.duty = 0 ∧ t.wch.moving = false ∧ t.wch.pwm = 0 ∧
  (drives → t.wch.stallHold = true ∧ t.wch.stalledSign = some (s.valueOf .winch).sign ∧ t.wch.demand = 0 ∧
    t.faultActive .winchStall = true ∧ t.faultLatched .winchStall = true) ∧
  (¬drives → t.wch.stallHold = false) ∧ t.wch.slots = s.wch.slots ∧ driveFollows s t ∧
  changesOnly [.now, .wch, .drv] s t

/-- The condition of the current check (R109): both currents published and the winch estimate, 0 where it would be
negative, at STALL_I or more. -/
def State.stallCurrent (s : State) : Bool :=
  (s.published .packCurrent).any fun pack : Int => (s.published .servoCurrent).any fun rail : Int =>
    decide ((s.cfg.stallI : Int) ≤ max 0 (pack - rail - s.cfg.baseLoad - s.grantFor .drive - s.grantFor .lights))

/-- A stall is found at time `now` by two timers, of the current check and of the drum check, each running from a start
time or stopped (R109). -/
def State.stallDue (s : State) (now : Nat) (current drum : Option Nat) : Prop :=
  (s.stallCurrent = true ∧ ∃ start, current = some start ∧ start + s.cfg.stallT * msec ≤ now) ∨
  ∃ start, drum = some start ∧ max start (s.wch.lastPulse.getD 0) + s.cfg.noPulseT * msec ≤ now

/-- A stall timer after a step that found no stall: running on or started at `now`, or else stopped (R109). -/
def timerAfter (runs : Bool) (now : Nat) (timer : Option Nat) : Option Nat :=
  if runs then some (timer.getD now) else none

/-- From `s` to `t` a winch step has driven the motor: with the value asked for, within the speed cap of the present grant
(R40, R97), where it is let drive, and with 0 otherwise. The outputs and the drive direction follow (R93, R98), and the drive
does (R71). -/
def winchDriven (s t : State) (lets : Prop) (value : Int) : Prop :=
  t.wch.speedCap = min 1000 (1000 * s.grantFor .winch / s.cfg.winchRated) ∧
  (lets → t.wch.duty = max (-(t.wch.speedCap : Int)) (min t.wch.speedCap value)) ∧ (¬lets → t.wch.duty = 0) ∧
  t.wch.moving = decide (t.wch.duty ≠ 0) ∧
  t.wch.pwm = (if s.rsc.run = .running ∧ s.prot.sw = .closed then t.wch.duty.natAbs else 0) ∧
  t.wch.dir = (if t.wch.duty < 0 then .haul else if 0 < t.wch.duty then .payout else s.wch.dir) ∧ driveFollows s t

/-- From `s` to `t` a winch step has written what the ACTIVE order asks for, and ended nothing (R26, R105). -/
def orderAsked (s t : State) (o : Order) : Prop :=
  t.wch.demand = (if s.cfg.winchEn then s.cfg.winchRated * o.speed / 1000 else 0) ∧
  (∀ f, t.grt.fns.get f =
    if f = .winch then { s.grt.fns.get f with value := o.signedSpeed } else s.grt.fns.get f) ∧
  t.grt = { s.grt with fns := t.grt.fns } ∧ t.wch.runFlag = s.wch.runFlag ∧ t.wch.postList = s.wch.postList ∧
  changesOnly [.now, .grt, .wch, .drv] s t

/-- From `s` to `t` steps 4 to 8 of a winch step (R96) have carried the order of slot `i`, ACTIVE, not in a retry pause and
carrying `r`. With a non-zero duty an armed stall (R169) or a stall timer that has run its time (R109) is a stall, handled
by R110, and the arm that acted clears; otherwise the motor is driven, and each stall timer runs on, starts or stops. -/
def orderCarried (s t : State) (i : Fin 4) (o : Order) (r : OrderRun) : Prop :=
  let cap := min 1000 (1000 * s.grantFor .winch / s.cfg.winchRated)
  let drives := s.winchOpen o ∧ cap ≠ 0 ∧ o.speed ≠ 0
  let armed := s.wch.stallArm = true ∧ r.armed = true
  let stalls := drives ∧ (armed ∨ s.stallDue t.now r.currentTimer r.drumTimer)
  (drives ∧ armed → t.wch.stallArm = false) ∧ (¬(drives ∧ armed) → t.wch.stallArm = s.wch.stallArm) ∧
  (stalls → orderStalled s t i o r) ∧
  (¬stalls → winchDriven s t (s.winchOpen o) o.signedSpeed ∧ orderAsked s t o ∧
    t.wch.slots = s.wch.slots.set i (some
      { o with
        phase := .active
          { r with
            currentTimer := timerAfter (t.wch.duty != 0 && s.stallCurrent) t.now r.currentTimer
            drumTimer := timerAfter (t.wch.duty != 0) t.now r.drumTimer } }))

/-- From `s` to `t` a winch step has left the order in its retry pause (R110): the motor stands, and the demand
and the WINCH value keep the order's speed. -/
def orderPaused (s t : State) (o : Order) : Prop :=
  winchDriven s t False o.signedSpeed ∧ orderAsked s t o ∧ t.wch.slots = s.wch.slots ∧ t.wch.stallArm = s.wch.stallArm

/-- From `s` to `t` a winch step has taken an ACTIVE order that carries `r` through its checks (R96, steps 3 to 8): the
timeout first, then starvation, then the end of a retry pause. -/
def orderStepped (s t : State) (i : Fin 4) (o : Order) (r : OrderRun) : Prop :=
  let deadline := r.startTime + o.timeout * 100 * msec
  let timedOut : OrderResult := if o.kind = .haulTurns ∨ o.kind = .payoutTurns then .timeout else .ok
  (deadline ≤ t.now → orderEnded s t i o timedOut) ∧
  (t.now < deadline → s.cfg.starveT ≤ s.bgt.starved.get .winch →
    orderEnded s t i o .starved ∧ t.faultLatched .winchStarved = true) ∧
  (t.now < deadline → s.bgt.starved.get .winch < s.cfg.starveT →
    (r.pauseStart = none → orderCarried s t i o r) ∧
    ∀ start, r.pauseStart = some start →
      (start + s.cfg.retryPause * msec ≤ t.now → orderCarried s t i o { r with pauseStart := none }) ∧
      (t.now < start + s.cfg.retryPause * msec → orderPaused s t o))

/-- From `s` to `t` a winch step has worked under direct drive (R96, R97, R109, R111). The direct stall hold ends where the
WINCH value is 0 or of the opposite sign; while it stays the duty is 0. A stall found with a non-zero duty makes it present;
otherwise the duty is the WINCH value within the speed cap, stopped at the line limit, and each direct stall timer runs on,
starts or stops. The stall arm does not act on it (R169). -/
def directStepped (s t : State) : Prop :=
  let cap := min 1000 (1000 * s.grantFor .winch / s.cfg.winchRated)
  let value := s.valueOf .winch
  let held := s.wch.stallHold = true ∧ value ≠ 0 ∧ s.wch.stalledSign ≠ some (-value.sign)
  let open' := s.countedRunning = true ∧ (s.prot.st = .normal ∨ s.prot.st = .warn) ∧ s.countedClosed = true ∧
    s.cfg.winchEn = true ∧ ¬held ∧
    ¬(0 < value ∧ s.wch.referenced = true ∧ ((s.cfg.lineMax * s.cfg.pulsesPerTurn : Nat) : Int) ≤ s.wch.linePos)
  let drives := open' ∧ cap ≠ 0 ∧ value ≠ 0
  let stalls := drives ∧ s.stallDue t.now s.wch.directCurrent s.wch.directDrum
  t.wch.speedCap = cap ∧ t.wch.stallArm = s.wch.stallArm ∧ (stalls → directStalled s t) ∧
  (¬stalls → winchDriven s t open' value ∧
    t.wch.demand = (if open' then s.cfg.winchRated * value.natAbs / 1000 else 0) ∧
    t.wch.stallHold = decide held ∧ t.faultActive .winchStall = decide held ∧
    t.wch.stalledSign = (if s.wch.stallHold = true ∧ ¬held then none else s.wch.stalledSign) ∧
    t.wch.directCurrent = timerAfter (t.wch.duty != 0 && s.stallCurrent) t.now s.wch.directCurrent ∧
    t.wch.directDrum = timerAfter (t.wch.duty != 0) t.now s.wch.directDrum ∧ t.wch.slots = s.wch.slots ∧
    changesOnly [.now, .wch, .drv] s t)

/-! ### What a drum pulse does -/

/-- From `s` to `t` a drum pulse has ended the order of slot `i` with a result, at a count of turns (R95, R106, R107): the
record finished, the run flag cleared by a FAILED end, the motor stopped, the WINCH value 0 while AP holds it, ORDER_DONE
posted. -/
def pulseEnds (s t : State) (i : Fin 4) (o : Order) (turns : Nat) (result : OrderResult) : Prop :=
  t.wch =
    { s.wch with
      linePos := t.wch.linePos, lastPulse := t.wch.lastPulse, nextBenchPulse := t.wch.nextBenchPulse
      slots := s.wch.slots.set i (some
        { o with phase := if result = .ok then .done else .failed, result := some result, turnsDone := turns })
      runFlag := s.wch.runFlag && result == .ok, duty := 0, moving := false, pwm := 0 } ∧
  (∀ f, t.grt.fns.get f =
    if f = .winch ∧ s.holderOf .winch = .ap then { s.grt.fns.get f with value := 0 } else s.grt.fns.get f) ∧
  t.grt = { s.grt with fns := t.grt.fns } ∧
  t.acp = { s.acp with orderDone := true, latched := s.acp.latched ||| faultWord t.faultActive } ∧ rscIdle s t

/-- From `s` to `t` a drum pulse has been counted in the drive direction (R93), which is HAUL or PAYOUT. A pulse that leaves
a referenced position at or above the line limit takes a positive duty to 0 (R95). For the ACTIVE order of that direction
the pulse and its turns are counted (R107): it ends DONE/OK with its turns reached, else FAILED/LINE_END at the limit if it
pays out, else it goes on. A count that passes the turns has reached them (log 37). -/
def pulseCounted (s t : State) : Prop :=
  let out := s.wch.dir = .payout
  let pos : Int := if out then min 32767 (s.wch.linePos + 1) else max (-32768) (s.wch.linePos - 1)
  let atLimit := out ∧ s.wch.referenced = true ∧ ((s.cfg.lineMax * s.cfg.pulsesPerTurn : Nat) : Int) ≤ pos
  let goesOn := fun slots : PerSlot (Option Order) =>
    let stops := atLimit ∧ 0 < s.wch.duty
    t.wch =
      { s.wch with
        linePos := pos, lastPulse := some t.now, nextBenchPulse := t.wch.nextBenchPulse, slots := slots
        duty := if stops then 0 else s.wch.duty
        moving := if stops then false else s.wch.moving
        pwm := if stops then 0 else s.wch.pwm } ∧
    changesOnly [.now, .wch, .drv] s t
  t.wch.linePos = pos ∧ t.wch.lastPulse = some t.now ∧ driveFollows s t ∧
  unchangedBut [.now, .grt, .wch, .drv, .acp, .rsc] s t ∧
  (s.wch.active = none → goesOn s.wch.slots) ∧
  ∀ i o r, s.wch.active = some (i, o, r) → (∀ j, s.wch.activeAt j → j = i) →
    let turns := min 255 ((r.pulseCount + 1) / s.cfg.pulsesPerTurn)
    let counted := if o.kind = .haul ∨ o.kind = .haulTurns then s.wch.dir = .haul else out
    let reached := (o.kind = .haulTurns ∨ o.kind = .payoutTurns) ∧ ∃ n, o.turns = some n ∧ n ≤ turns
    (¬counted → goesOn s.wch.slots) ∧
    (counted → reached → pulseEnds s t i o turns .ok) ∧
    (counted → ¬reached → atLimit → pulseEnds s t i o turns .lineEnd) ∧
    (counted → ¬reached → ¬atLimit → goesOn (s.wch.slots.set i (some
      { o with phase := .active { r with pulseCount := r.pulseCount + 1 }, turnsDone := turns })))

/-! ### What a computation of the budget gives -/

/-- What one run of stages 1 to 7 must give (R30 to R35), on what it reads of `s`: `limit` is the LIMIT flag it reads,
`closed` says that the switch counts as CLOSED, `lights` is the LIGHTS demand it is handed. The sharing is said by what
must hold of it: no grant above demand or ceiling, all of A shared or left over; no consumer above its floor while
another is short of the floor it asks for; none of A given on, in either pass, past a consumer of higher rank that is still
short in that pass; and nothing left over while a consumer could take more. -/
def budgetShared (s : State) (limit closed : Bool) (lights : Nat) (r : BudgetResult) : Prop :=
  (∀ v : Int, s.pmon.vmin = some v →
    ((s.cfg.vWarn : Int) ≤ v → r.kv = 1000) ∧ (v < s.cfg.vWarn → v ≤ s.cfg.vCut → r.kv = 250) ∧
    (v < s.cfg.vWarn → (s.cfg.vCut : Int) < v →
      (r.kv : Int) = 250 + 750 * (v - s.cfg.vCut) / ((s.cfg.vWarn : Int) - s.cfg.vCut))) ∧
  (s.pmon.vmin = none → r.kv = 0) ∧ r.kt = s.cfg.ptDerate s.pmon.packBand * 10 ∧
  r.a0 = s.cfg.packLimit * r.kv * r.kt / 1000000 ∧ r.limitRead = limit ∧ r.excluded = decide (s.prot.st = .cutoff) ∧
  r.a =
    (if closed = true ∧ s.prot.st ≠ .lockout ∧ s.pmon.vmin ≠ none then
      (if limit then min r.a0 s.cfg.ocCont else r.a0) - s.cfg.baseLoad
    else 0) ∧
  r.demand.servo = ((s.published .servoCurrent).getD 0).toNat + s.cfg.servoMargin ∧
  r.demand.drive = (if s.prot.st = .cutoff then 0 else s.drv.demand) ∧
  r.demand.winch = (if s.prot.st = .cutoff then 0 else s.wch.demand) ∧ r.demand.lights = lights ∧
  (∀ k, r.grant.get k ≤ min (r.demand.get k) (s.cfg.ceilOf k)) ∧ r.granted + r.leftover = r.a ∧
  (∀ k j, s.cfg.floorOf k < r.grant.get k →
    min (s.cfg.floorOf j) (min (r.demand.get j) (s.cfg.ceilOf j)) ≤ r.grant.get j) ∧
  (∀ k j, s.cfg.rankOf k < s.cfg.rankOf j →
    (r.grant.get k < min (s.cfg.floorOf k) (min (r.demand.get k) (s.cfg.ceilOf k)) → r.grant.get j = 0) ∧
    (r.grant.get k < min (r.demand.get k) (s.cfg.ceilOf k) → r.grant.get j ≤ s.cfg.floorOf j)) ∧
  ∀ k, r.grant.get k < min (r.demand.get k) (s.cfg.ceilOf k) → r.leftover = 0

/-- The starved times, the SERVO counts and SERVO_SHORT after a computation `r` (R36, R37). -/
def budgetAccounted (s t : State) (r : BudgetResult) : Prop :=
  (∀ k, t.bgt.starved.get k =
    if r.grant.get k < r.demand.get k then min 60000 (s.bgt.starved.get k + 10) else 0) ∧
  (r.grant.servo < r.demand.servo → t.bgt.clearCount = 0 ∧ t.bgt.shortCount = min 3 (s.bgt.shortCount + 1) ∧
    t.bgt.servoShort = (s.bgt.servoShort || t.bgt.shortCount == 3)) ∧
  (¬r.grant.servo < r.demand.servo → t.bgt.shortCount = 0 ∧ t.bgt.clearCount = min 3 (s.bgt.clearCount + 1) ∧
    t.bgt.servoShort = (s.bgt.servoShort && t.bgt.clearCount != 3))

/-! ### What a light frame boundary trims -/

/-- The sum of the draws of the eight outputs at their duties (R119). -/
def drawnBy (c : Settings) (duties : PerLamp Nat) : Nat :=
  (Lamp.all.map fun l => duties.get l * c.ratedMa l / 1000).sum

/-- R132, one visit: an output with a draw above 0, while the draws exceed the grant, is cut to its allowed draw. -/
def cutAt (c : Settings) (grant : Nat) (duties : PerLamp Nat) (l : Lamp) : PerLamp Nat :=
  let excess := drawnBy c duties - grant
  let draw := duties.get l * c.ratedMa l / 1000
  if excess = 0 ∨ draw = 0 then duties
  else duties.set l (min (duties.get l) (1000 * (draw - min draw excess) / c.ratedMa l))

/-- R132: the duties after the visits, to the non-essential outputs from L7 down to L0 and then to the essential ones. -/
def cutToGrant (c : Settings) (grant : Nat) (duties : PerLamp Nat) : PerLamp Nat :=
  let down : List Lamp := [.l7, .l6, .l5, .l4, .l3, .l2, .l1, .l0]
  ((down.filter fun l => c.essential l = false) ++ down.filter fun l => c.essential l = true).foldl (cutAt c grant) duties

/-! ### What the read blocks hold (Table 11-5), field by field at its offset -/

/-- The bytes at an offset of a block. -/
def bytesAt (d : List Byte) (offset : Nat) (bytes : List Byte) : Prop := (d.drop offset).take bytes.length = bytes

/-- The bits of the byte at an offset, from bit 0 up. -/
def flagsAt (d : List Byte) (offset : Nat) (flags : List Bool) : Prop :=
  (List.range flags.length).map (bit (d.getD offset 0).toNat) = flags

/-- Bit 7 of a block's header, set where the block holds bench values. -/
def benchMark (d : List Byte) (marked : Prop) : Prop := bit (d.getD 0 0).toNat 7 = true ↔ marked

/-- The PACK block (R150). An injected drum pulse rate sets no bit of the mask (log 31). -/
def packReported (s : State) (d : List Byte) : Prop :=
  flagsAt d 0 [s.pmon.tapFault, s.pmon.packSensor, s.pmon.motorSensor, s.prot.limit] ∧ benchMark d False ∧
  (∀ q : Quantity, bit (beNat ((d.drop 1).take 2)) q.code = (s.pmon.chan.get q).substituted) ∧
  (∀ q : Quantity, q.code < 5 → bytesAt d (3 + 2 * q.code) (unsigned16Opt ((s.published q).map Int.toNat))) ∧
  bytesAt d 13 (wide32Opt ((s.published .packCurrent).map Int.toNat)) ∧
  bytesAt d 17 (unsigned16Opt ((s.published .servoCurrent).map Int.toNat)) ∧
  bytesAt d 19 (unsigned16Opt ((s.published .railVoltage).map Int.toNat)) ∧
  bytesAt d 21 (signed16Opt (s.published .packTemp)) ∧ bytesAt d 23 (signed16Opt (s.published .motorTemp)) ∧
  (∀ i : Fin 4, bytesAt d (25 + 2 * i) (signed16Opt s.pmon.cells[i.val]?)) ∧ bytesAt d 33 (signed16Opt s.pmon.vmin) ∧
  bytesAt d 35 [byteOf (s.pmon.packBand + 16 * s.pmon.motorBand), byteOf s.prot.st.code,
    codeByte (s.prot.cause.map CutCause.code)] ∧
  bytesAt d 38 (unsigned16Opt (s.prot.tripTime.map fun start => (s.now - start) / 1000)) ∧
  (∀ k : Dwell, bytesAt d (40 + 2 * k.code)
    (unsigned16Opt ((s.prot.dwell.get k).map fun start => (s.now - start) / 1000))) ∧
  bytesAt d 50 (word32 s.prot.q) ∧ bytesAt d 54 [byteOf s.prot.sw.code] ∧
  bytesAt d 55 (unsigned16Opt (s.prot.prechargeEnd.map fun due => (due - s.now) / 1000))

/-- The BUDGET block (R42): the published results, or the trial ones in BENCH-DRY once there are any (log 15). -/
def budgetReported (s : State) (d : List Byte) : Prop :=
  let trial := if s.rsc.run = .benchDry then s.bgt.trial else none
  let r := trial.getD s.bgt.pub
  flagsAt d 0 [r.limitRead, r.excluded] ∧ benchMark d (trial ≠ none) ∧ bytesAt d 1 (unsigned16 r.a) ∧
  bytesAt d 3 (unsigned16 r.a0) ∧ bytesAt d 5 (unsigned16 r.kv) ∧ bytesAt d 7 (unsigned16 r.kt) ∧
  bytesAt d 9 (unsigned16 r.leftover) ∧
  (∀ k : Consumer,
    bytesAt d (11 + 7 * k.code) [byteOf (s.bgt.rank.get k)] ∧
    bytesAt d (12 + 7 * k.code) (unsigned16 (r.demand.get k)) ∧
    bytesAt d (14 + 7 * k.code) (unsigned16 (r.grant.get k)) ∧
    bytesAt d (16 + 7 * k.code) (unsigned16 (s.bgt.starved.get k))) ∧
  bytesAt d 39 [byteOf s.bgt.shortCount, byteOf s.bgt.clearCount]

/-- The GRANTS block (R66). -/
def grantsReported (s : State) (d : List Byte) : Prop :=
  bytesAt d 0 [byteOf s.grt.link.code] ∧
  bytesAt d 1 (unsigned16Opt (s.grt.freshEnd.map fun due => (due - s.now) / 1000)) ∧
  (∀ f : Fn,
    let r := s.grt.fns.get f
    (r.seq < 16 → (d.getD (3 + 7 * f.code) 0).toNat =
      r.holder.code + 4 * r.seq + (if r.reacquire then 64 else 0) +
        if s.grt.lastDecoded.get f = none then 128 else 0) ∧
    bytesAt d (4 + 7 * f.code) (signed16 r.value) ∧
    bytesAt d (6 + 7 * f.code) (unsigned16 (r.lease.elim 0 fun due => (due - s.now) / 1000)) ∧
    bytesAt d (8 + 7 * f.code) (signed16Opt (s.grt.lastDecoded.get f))) ∧
  ∀ f : Fn, bit (d.getD 52 0).toNat f.code = s.grt.lost.get f

/-- The DRIVE block (R80). The released bit is the release of DRV_PWM (log 30). -/
def driveReported (s : State) (d : List Byte) : Prop :=
  flagsAt d 0 [s.drv.interlock, s.drv.dragBrake, s.drv.brake, s.drv.reverse,
    decide (s.rsc.run = .running ∧ (s.prot.st = .normal ∨ s.prot.st = .warn) ∧ s.prot.sw = .closed ∧
      s.cfg.driveEn = true)] ∧
  benchMark d (s.rsc.run = .benchDry ∨ s.rsc.run = .benchWet) ∧ bytesAt d 1 (signed16 s.drv.target) ∧
  bytesAt d 3 (signed16 s.drv.applied) ∧ bytesAt d 5 [byteOf s.drv.dir.code] ∧
  bytesAt d 6 (unsigned16 s.drv.budgetCap) ∧ bytesAt d 8 (unsigned16 s.drv.thermalCap) ∧
  bytesAt d 10 (unsigned16 s.drv.cap) ∧
  bytesAt d 12 [byteOf s.drv.gear.code, codeByte (s.drv.pendingGear.map Gear.code)] ∧
  bytesAt d 14 (unsigned16 s.drv.demand)

/-- The STEER block (R92). -/
def steerReported (s : State) (d : List Byte) : Prop :=
  flagsAt d 0 [s.str.active, s.bgt.servoShort] ∧ benchMark d (s.rsc.run = .benchDry) ∧
  bytesAt d 1 [byteOf s.str.mode.code, codeByte (s.str.pendingMode.map SteerMode.code)] ∧
  bytesAt d 3 (signed16 s.str.steerUsed) ∧ bytesAt d 5 [byteOf s.str.shareEff] ∧ bytesAt d 6 (signed16 s.str.front) ∧
  bytesAt d 8 (signed16 s.str.rear) ∧
  ∀ v : Servo,
    let r := s.str.servo.get v
    bytesAt d (10 + 5 * v.code) (unsigned16Opt (r.aim.map Int.toNat)) ∧
    bytesAt d (12 + 5 * v.code) (unsigned16Opt (r.emitted.map Int.toNat)) ∧
    bytesAt d (14 + 5 * v.code) [if r.boundHit then 1 else 0]

/-- The eight bytes of an order's slot record in the WINCH block and in a WINCH_REAP (R115, R117). -/
def orderBytes (o : Order) : List Byte :=
  [byteOf (o.kind.code + (if o.noRetry then 4 else 0) + 16 * o.phase.code)] ++ signed16 o.speed ++
    [byteOf (o.turns.getD 0), byteOf o.timeout, codeByte (o.result.map OrderResult.code), byteOf o.turnsDone,
      byteOf o.retriesUsed]

/-- The WINCH block (R117). Of an EMPTY slot it says the state alone; the rest of its bytes are the model's (log 15). -/
def winchReported (s : State) (d : List Byte) : Prop :=
  flagsAt d 0 [s.wch.referenced, s.wch.moving, decide (s.holderOf .winch = .ap), s.wch.stallHold, s.wch.runFlag] ∧
  benchMark d (s.rsc.run = .benchDry ∨ s.rsc.run = .benchWet) ∧ bytesAt d 1 (signed16 s.wch.linePos) ∧
  bytesAt d 3 (unsigned16 (s.cfg.lineMax * s.cfg.pulsesPerTurn)) ∧ bytesAt d 5 [byteOf s.wch.dir.code] ∧
  bytesAt d 6 (signed16 s.wch.duty) ∧ bytesAt d 8 (unsigned16 s.wch.speedCap) ∧
  bytesAt d 10 (idList 4 (s.wch.postList.map Fin.val)) ∧
  (∀ i : Fin 4, (s.wch.slots.get i = none → (d.getD (14 + 8 * i) 0).toNat / 16 % 8 = 0) ∧
    ∀ o, s.wch.slots.get i = some o → bytesAt d (14 + 8 * i) (orderBytes o)) ∧
  (s.wch.active = none → bytesAt d 46 (List.replicate 7 0xFF)) ∧
  (∀ i o r, s.wch.active = some (i, o, r) →
    bytesAt d 46 [byteOf i.val] ∧ bytesAt d 47 (unsigned16 ((s.now - r.startTime) / 1000)) ∧
    bytesAt d 49 (unsigned16 r.pulseCount) ∧
    bytesAt d 51 (unsigned16Opt (r.pauseStart.map fun start =>
      (start + s.cfg.retryPause * msec - s.now) / 1000))) ∧
  bytesAt d 53 (unsigned16 s.wch.demand)

/-- The LIGHTS block (R134). -/
def lightsReported (s : State) (d : List Byte) : Prop :=
  let l := s.lgt
  flagsAt d 0 [l.off, l.reduced, l.forced, l.trimmed] ∧ benchMark d (s.rsc.run = .benchDry) ∧
  (l.excess ≤ 7 → (d.getD 0 0).toNat / 16 % 8 = l.excess) ∧ bytesAt d 1 [byteOf (l.activeScene + 16 * l.pendingScene)] ∧
  bytesAt d 2 (unsigned16Opt (l.latched.map LightInputs.grant)) ∧ bytesAt d 4 (unsigned16 l.demand) ∧
  bytesAt d 6 (unsigned16 l.essentialDemand) ∧ bytesAt d 8 (unsigned16 l.scale) ∧
  bytesAt d 10 (unsigned16 l.essentialScale) ∧ bytesAt d 12 (word16 l.blink) ∧
  (l.follow.length = 6 → flagsAt d 14 l.follow) ∧
  (∀ k : Lamp, bit (d.getD 15 0).toNat k.code = (l.lamp.get k).lit) ∧
  ∀ k : Lamp,
    bytesAt d (16 + 6 * k.code) (unsigned16 (l.lamp.get k).base) ∧
    bytesAt d (18 + 6 * k.code) (unsigned16 (l.lamp.get k).duty) ∧
    bytesAt d (20 + 6 * k.code) (unsigned16 (l.lamp.get k).draw)

/-- The bytes of a block report the state (R150). -/
def blockReported (s : State) (d : List Byte) : ReadBlock → Prop
  | .pack => d.length = 57 ∧ packReported s d
  | .budget => d.length = 41 ∧ budgetReported s d
  | .grants => d.length = 53 ∧ grantsReported s d
  | .drive => d.length = 16 ∧ driveReported s d
  | .steer => d.length = 35 ∧ steerReported s d
  | .winch => d.length = 55 ∧ winchReported s d
  | .lights => d.length = 64 ∧ lightsReported s d

/-! ### Everything together -/

/-- A safe state: every condition above. -/
def State.safe (s : State) : Prop :=
  s.switchOk ∧ s.outputsOk ∧ s.dutiesOk ∧ s.interlockOk ∧ s.budgetOk ∧ s.lightsOk ∧ s.configOk ∧ s.radioOk ∧
  s.holdersOk ∧ s.queueOk ∧ s.windowsOk ∧ s.causeOk ∧ s.faultsOk

end Sys2Proof.Machine
end

