-- ==== Sys2Proof/Certificates/Slice0/Obligations.lean ====
section
/-! DEFINITION. The statements for the provers. Each says in its docstring which rule of spec/ it follows, or which
choice of the model (a log entry) it rests on. -/

open Sys2Proof Sys2Proof.Machine

/-! ### The queue and the whole machine -/

/-- The model's choice (log 1): one step takes the command at the front of the queue and is that command's meaning
on the queue's rest; with nothing waiting, the clock alone advances, by one microsecond. -/
def Obligations.StepRunsFrontCommand : Prop :=
  (∀ (c : Instr) (rest : List Instr) (s : State),
    step (s.withPending (c :: rest)) = exec c (s.withPending rest)) ∧
  ∀ s : State, step (s.withPending []) = .next { s with pending := [], now := s.now + 1 }

/-- No command stops the machine, in any state: an event that cannot occur and a refused command are next states
too. No command touches the queue behind it or sets the clock back (log 1, log 2). -/
def Obligations.EveryCommandCompletes : Prop :=
  ∀ (c : Instr) (s : State), ∃ t, exec c s = .next t ∧ t.pending = s.pending ∧ s.now ≤ t.now

/-- After a full reset, whatever the store, the calibration, the lines and the time, the machine is safe; so it is
in the reset state. -/
def Obligations.ResetStateIsSafe : Prop :=
  State.reset.safe ∧
  ∀ (kind : FullResetKind) (strap : Bool) (s : State), (s.fullReset kind strap).safe

/-- R20, R156: in LOCKOUT the switch is OPEN; CLOSED belongs to ARMING, RUNNING and BENCH-WET, PRECHARGING to a
start in flight or BENCH-WET. R1: no window holds more samples than its depth. Section 1.3: a cutoff cause is present in
CUTOFF only and a trip time with HARD_TRIP only, and so they stand in a bench save. Every step keeps each of the three. -/
def Obligations.SwitchFollowsRunState : Prop :=
  ∀ s t : State, step s = .next t →
    (s.switchOk → t.switchOk) ∧ (s.windowsOk → t.windowsOk) ∧ (s.causeOk → t.causeOk)

/-- R73, R98 ("… is 0 unless the run state is RUNNING and the protection state is NORMAL or WARN"); R73, R74: DRV_BRK is
driven only in RUNNING or ARMING, out of LOCKOUT, with the switch CLOSED and the drag brake on, and never together with
DRV_PWM; R81 and R133 for servos and lights. Every step keeps it. -/
def Obligations.OutputsOnlyWhileAllowed : Prop :=
  ∀ s t : State, s.outputsOk → step s = .next t → t.outputsOk

/-- R70 ("the magnitude of the applied drive duty never exceeds …"), R71, R97. Every step keeps the duties within the caps of
their latest steps; every step keeps the interlock flag equal to the winch's moving flag, and while the winch moves the drive
duty within WINCH_DRIVE_CAP, but for a step that changes that setting, whose new value acts from the next drive step or the
next rise of the flag. -/
def Obligations.DutiesWithinCaps : Prop :=
  ∀ s t : State, step s = .next t →
    (s.dutiesOk → t.dutiesOk) ∧
    (s.interlockOk → t.drv.interlock = t.wch.moving ∧ (t.cfg.winchDriveCap = s.cfg.winchDriveCap → t.interlockOk))

/-- R35, R38: the grants never exceed A, and with the switch not CLOSED they are 0. Every step keeps it. -/
def Obligations.GrantsWithinAvailable : Prop :=
  ∀ s t : State, s.budgetOk → step s = .next t → t.budgetOk

/-- R132: the light draws never exceed the LIGHTS grant latched at the latest boundary. Every step keeps it. -/
def Obligations.LightDrawsWithinGrant : Prop :=
  ∀ s t : State, s.lightsOk → step s = .next t → t.lightsOk

/-- R52: while the link is fresh and the decoded throttle or steering lies outside its neutral band, AP does not
hold it. Every step keeps it, in a machine whose working copy has its 350 bytes. -/
def Obligations.RadioKeepsTheWheel : Prop :=
  ∀ s t : State, s.configOk → s.radioOk → step s = .next t → t.radioOk

/-- R45: every holder is FS or a member of its function's allowed set, and the working copy keeps its 350 bytes
(section 9.5). Every step keeps both. -/
def Obligations.HoldersStayAllowed : Prop :=
  ∀ s t : State, s.configOk → s.holdersOk → step s = .next t → t.configOk ∧ t.holdersOk

/-- R101, R113: the winch queue and its post list. Every step keeps it. -/
def Obligations.WinchQueueStaysOrdered : Prop :=
  ∀ s t : State, s.queueOk → step s = .next t → t.queueOk

/-- R151: "An entry is never active and not latched". After every command, whatever the state before. -/
def Obligations.ActiveFaultsAreLatched : Prop :=
  ∀ (c : Instr) (s t : State), exec c s = .next t → t.faultsOk

/-- R47: "A record's seq advances by one at every change of its holder, wrapping from 15 to 0", and "where the
holder stays the same, seq does not move", for every command but the resets. -/
def Obligations.SeqCountsHolderChanges : Prop :=
  ∀ (c : Instr) (s t : State) (f : Fn),
    (∀ b, c ≠ .powerOnReset b ∧ c ≠ .brownOutReset b ∧ c ≠ .pinReset b) → (∀ ps, c ≠ .reset ps) →
    exec c s = .next t →
    (t.holderOf f = s.holderOf f ∧ (t.grt.fns.get f).seq = (s.grt.fns.get f).seq) ∨
    (t.holderOf f ≠ s.holderOf f ∧ (t.grt.fns.get f).seq = ((s.grt.fns.get f).seq + 1) % 16)

/-- R12: "LOCKOUT is left by a full reset, which gives NORMAL, or by LOCKOUT_CLEAR". Off the bench nothing else
leaves it. -/
def Obligations.LockoutLeftOnlyByClear : Prop :=
  ∀ (c : Instr) (s t : State),
    s.rsc.save = none → s.prot.st = .lockout → exec c s = .next t → t.prot.st ≠ .lockout →
    t.prot.st = .normal ∧ ((∃ b, c = .powerOnReset b ∨ c = .brownOutReset b ∨ c = .pinReset b) ∨ c = .lockoutClear [])

/-- Table 11-4 and R147, R157: the bytes of the accessory write that carries a well-formed command spell that
command. A RESET's strap is no byte of the write: it is the level of ADDR (R146). -/
def Obligations.WritesSpellTheirCommand : Prop :=
  ∀ (i : Instr) (bytes : List Byte) (strap : Bool), i.wellFormed = true → i.writeBytes = some bytes →
    (∀ params, i = .reset params → params.strap = strap) → ofWrite strap bytes = i

/-! ### The accessory port (chapter 8) -/

/-- R147: the first check that fails decides the answer, and a refusal by them changes nothing but the response
buffer and, in SLEEP, the wake; a write without a byte takes no command. With the refusal goes the data of the commands
whose data are sent with every status (Table 11-4, R55, R173). What is sent where the write carries no such byte, and for
a fault index above 15, is the model's (log 13). -/
def Obligations.PortRefusesInOrder : Prop :=
  ∀ (s : State) (strap : Bool),
    (∀ (b : Byte) (params : List Byte), b.toNat ∉ commandBytes →
      ∃ t, exec (.acpUnknownWrite (b :: params)) s = .next t ∧ answersWith [] s t .unknown []) ∧
    (∀ (b : Byte) (params : List Byte), b.toNat ∈ commandBytes → ¬lengthMatches b params →
      ∃ t, exec (ofWrite strap (b :: params)) s = .next t ∧ answersWith [] s t .badLength t.acp.data ∧
        alwaysSent s b params t.acp.data) ∧
    (∀ (b : Byte) (params : List Byte), b.toNat ∈ commandBytes → lengthMatches b params → b ≠ 0x01 →
      s.rsc.storeEnd ≠ none →
      ∃ t, exec (ofWrite strap (b :: params)) s = .next t ∧ answersWith [] s t .busy t.acp.data ∧
        alwaysSent s b params t.acp.data) ∧
    ∃ t, exec (.acpUnknownWrite []) s = .next t ∧ changesOnly [] s t

/-- R147, R162: in SLEEP every accessory write that takes a command starts the 5 ms wake timer, a wake in flight
going on; a HALT and a RESET, which end the sleep, apart. -/
def Obligations.WriteWakesSleep : Prop :=
  ∀ (s : State) (strap : Bool) (b : Byte) (params : List Byte),
    s.rsc.run = .sleep → ¬(b = 0x10 ∧ params.length = 1 ∧ runctlRow params = .halt) → ¬(b = 0x11 ∧ params = []) →
    ∃ t, exec (ofWrite strap (b :: params)) s = .next t ∧ t.rsc.run = .sleep ∧
      t.rsc.sleepOrigin = s.rsc.sleepOrigin ∧ t.rsc.wakeEnd = some (s.rsc.wakeEnd.getD (s.now + 5 * msec))

/-- R150, R42, R66, R80, R92, R117, R134 and Table 11-5: READ answers with the block of its number, each of its bytes
reporting the state, and changes nothing; a number above 6 is refused. R148: a read transaction sends the status byte,
the data in order, and 0x00 for each further byte. Beside the rules the blocks rest on choices of the model: what a
negative or absent figure reads as (log 12, log 15), the trial values of BENCH-DRY before the first period (log 15), the
released bit (log 30) and the injected drum rate in the mask (log 31). -/
def Obligations.ReadReturnsBlocks : Prop :=
  ∀ (s : State) (b : Byte), s.portOpen →
    (∀ block : ReadBlock,
      ([.pack, .budget, .grants, .drive, .steer, .winch, .lights] : List ReadBlock)[b.toNat]? = some block →
      ∃ t, exec (.read [b]) s = .next t ∧ answersWith [] s t .ok t.acp.data ∧ blockReported s t.acp.data block) ∧
    (6 < b.toNat → ∃ t, exec (.read [b]) s = .next t ∧ answersWith [] s t .badValue []) ∧
    ∀ n : Nat, (s.readTransaction n).length = n ∧
      (0 < n → (s.readTransaction n).head? = some (byteOf s.acp.status.code)) ∧
      ∀ i : Nat, i + 1 < n → (s.readTransaction n)[i + 1]? = some (s.acp.data.getD i 0)

/-- R149, R63, R154, R155 and Table 11-4: STATUS answers in every state, during a store too, and clears both pending
events; READ_CAUSE returns the four flags and clears them; ATTN_MASK replaces the eighteen bits; ATTN_N is low
exactly while something latched or pending is not masked out. That the number of latched faults goes on one byte is the
model's choice (log 39). -/
def Obligations.StatusCausesAndAttention : Prop :=
  (∀ s : State, ∃ t, exec (.status []) s = .next t ∧
    t.acp =
      { s.acp with
        status := .ok
        data :=
          [byteOf s.rsc.run.code, byteOf s.prot.st.code, byteOf s.prot.sw.code,
            byteOf ((if s.rsc.valid then 1 else 0) + (if s.rsc.storeEnd ≠ none then 2 else 0) +
              (if s.acp.orderDone then 4 else 0) + (if s.grantLost then 8 else 0))] ++
          idList 7 ((Fn.all.filter s.grt.lost.get).map Fn.code) ++
          [codeByte ((FaultEntry.all.filter s.faultLatched).map FaultEntry.code).head?,
            byteOf (FaultEntry.all.filter s.faultLatched).length]
        orderDone := false
        latched := s.acp.latched ||| faultWord t.faultActive } ∧
    t.grt = { s.grt with lost := PerFn.build fun _ => false, apLost := false } ∧ rscTaken s t ∧
    unchangedBut [.acp, .grt, .rsc] s t) ∧
  (∀ s : State, s.portOpen → ∃ t, exec (.readCause []) s = .next t ∧
    t.acp =
      { s.acp with
        status := .ok
        data :=
          [byteOf ((if s.acp.causes.powerOn then 1 else 0) + (if s.acp.causes.brownOut then 2 else 0) +
            (if s.acp.causes.pin then 4 else 0) + (if s.acp.causes.soft then 8 else 0))]
        causes := { powerOn := false, brownOut := false, pin := false, soft := false }
        latched := s.acp.latched ||| faultWord t.faultActive } ∧
    apHeard s t .ok ∧ rscTaken s t ∧ unchangedBut [.acp, .grt, .rsc] s t) ∧
  (∀ (s : State) (x y z : Byte), s.portOpen → ∃ t, exec (.attnMask [x, y, z]) s = .next t ∧
    t.acp =
      { s.acp with
        status := .ok
        data := [byteOf (x.toNat % 4), y, z]
        mask := BitVec.ofNat 18 (x.toNat * 65536 + y.toNat * 256 + z.toNat)
        latched := s.acp.latched ||| faultWord t.faultActive } ∧
    apHeard s t .ok ∧ rscTaken s t ∧ unchangedBut [.acp, .grt, .rsc] s t) ∧
  ∀ s : State, s.attnLow = true ↔
    (∃ e : FaultEntry, s.faultLatched e = true ∧ s.acp.mask.getLsbD e.code = true) ∨
    (s.acp.orderDone = true ∧ s.acp.mask.getLsbD 16 = true) ∨
    ((∃ f, s.grt.lost.get f = true) ∧ s.acp.mask.getLsbD 17 = true)

/-- R152: the walk through the fault set. AP_LOST, which the command's own completion ends (R54), is reported and judged
as it stood before (log 20); what a refusal of an index above 15 sends is the model's (log 13). -/
def Obligations.FaultWalk : Prop :=
  ∀ s : State, s.portOpen →
    (∃ t, exec (.faultNext []) s = .next t ∧ answersWith [] s t .ok t.acp.data ∧
      (∀ e, s.faultLatched e = true → (∀ d : FaultEntry, d.code < e.code → s.faultLatched d = false) →
        t.acp.data = [byteOf e.code, if s.faultActive e then 1 else 0]) ∧
      ((∀ e, s.faultLatched e = false) → t.acp.data = [0xFF, 0])) ∧
    (∀ b : Byte, 15 < b.toNat → ∃ t, exec (.faultAck [b]) s = .next t ∧ answersWith [] s t .badValue [0, 0]) ∧
    ∀ e : FaultEntry,
      (s.faultActive e = true → ∃ t, exec (.faultAck [byteOf e.code]) s = .next t ∧
        answersWith [] s t .refusedState [1, if s.faultLatched e then 1 else 0]) ∧
      (s.faultActive e = false → ∃ t, exec (.faultAck [byteOf e.code]) s = .next t ∧
        (∀ d, t.faultLatched d = ((d != e && s.faultLatched d) || t.faultActive d)) ∧ t.faultLatched e = false ∧
        t.acp = { s.acp with status := .ok, data := [0, 0], latched := t.acp.latched } ∧ apHeard s t .ok ∧
        rscTaken s t ∧ unchangedBut [.acp, .grt, .rsc] s t)

/-- R13: LOCKOUT_CLEAR. -/
def Obligations.LockoutClearJudged : Prop :=
  ∀ s : State, s.portOpen →
    ((s.rsc.run = .halted ∧ s.prot.st = .lockout ∧
        ∃ v, s.pmon.vmin = some v ∧ ((s.cfg.vCut + s.cfg.vRearm : Nat) : Int) ≤ v) →
      ∃ t, exec (.lockoutClear []) s = .next t ∧
        t.prot = { s.prot with st := .normal, dwell := PerDwell.build fun _ => none } ∧
        answersWith [.prot] s t .ok []) ∧
    (¬(s.rsc.run = .halted ∧ s.prot.st = .lockout ∧
        ∃ v, s.pmon.vmin = some v ∧ ((s.cfg.vCut + s.cfg.vRearm : Nat) : Int) ≤ v) →
      ∃ t, exec (.lockoutClear []) s = .next t ∧ answersWith [] s t .refusedState [])

/-! ### Run control and the stored configuration (chapters 9 and 10) -/

/-- R157, R64, R19, R20, R171: a HALT, in every run state. Outside the bench the measurements and the protection
state stay; from the bench its save is restored, the bands beside an active sensor fault too (log 27). The machine's other
blocks are the ones the open switch and the lost holders act on: the drive keeps the caps of its latest
step (R78), an order ACTIVE while AP held WINCH is preempted (R113), and direct drive's stall hold and timers end (R99, R100). That a scene entry written during a LOAD is kept where the
HALT abandons the LOAD is the model's choice (log 38). -/
def Obligations.HaltStopsTheVehicle : Prop :=
  ∀ (s : State) (b : Byte), s.portOpen → runctlRow [b] = .halt → ∃ t, exec (.halt [b]) s = .next t ∧
    answersPosted s t .ok [0, 0, 0] ∧
    t.rsc =
      { s.rsc with
        run := .halted, startInFlight := false, pendingStart := false, sleepOrigin := none, wakeEnd := none
        armingEnd := none, idleEnd := none, load := none, save := none } ∧
    t.prot.sw = .opened ∧ (∀ f, passedToFs s.cfg f 0 (s.grt.fns.get f) (t.grt.fns.get f)) ∧
    t.grt = { s.grt with fns := t.grt.fns, apLost := false } ∧ (s.queueOk → preempted s t) ∧ capsKept s t ∧
    (s.prot.sw = .closed ∨ s.holderOf .winch ≠ .fs → t.wch.directEnded) ∧
    (s.prot.sw = .closed → t.drv.pwm = 0 ∧ t.drv.brk = none ∧ t.drv.pendingGear = none ∧ t.wch.duty = 0 ∧
      t.wch.moving = false ∧ t.wch.pwm = 0 ∧ t.str.pendingMode = none ∧ (∀ v, (t.str.servo.get v).line = none) ∧
      (∀ l, (t.lgt.lamp.get l).line = 0) ∧ t.bgt.pub.a = 0 ∧ ∀ k, t.bgt.pub.grant.get k = 0) ∧
    (s.rsc.save = none → t.pmon = s.pmon ∧ t.prot.st = s.prot.st ∧ t.prot.cause = s.prot.cause ∧
      t.prot.q = s.prot.q ∧ t.prot.limit = s.prot.limit) ∧
    (∀ sv, s.rsc.save = some sv → benchLeft s t sv false) ∧
    unchangedBut [.pmon, .prot, .bgt, .grt, .drv, .str, .wch, .lgt, .acp, .rsc] s t

/-- R161, R64, R157, R113, R100: the two ways into SLEEP, where an order ACTIVE while AP held WINCH is preempted and direct
drive's stall hold and timers end, while the drive keeps its caps (R78); and the answers of the command, the accepted one's
and those of the other run states. The clock after it is the model's (log 2). -/
def Obligations.SleepEntered : Prop :=
  ∀ (s : State) (b : Byte) (due : Nat), s.portOpen → runctlRow [b] = .sleep →
    (s.rsc.run = .halted → ∃ t, exec (.sleep [b]) s = .next t ∧
      answersPosted s t .ok [4, 0, if s.rsc.pendingStart then 1 else 0] ∧ t.now = s.now ∧
      t.rsc.run = .sleep ∧ t.rsc.sleepOrigin = some .fromHalted ∧ t.rsc.startInFlight = false ∧
      t.rsc.armingEnd = none ∧ t.rsc.idleEnd = none ∧ t.prot.sw = .opened ∧ t.grt.link = .never ∧
      t.grt.freshEnd = none ∧ (∀ f, t.grt.lastDecoded.get f = none) ∧
      (∀ f, passedToFs s.cfg f 0 (s.grt.fns.get f) (t.grt.fns.get f)) ∧ (s.queueOk → preempted s t) ∧ capsKept s t ∧
      (s.prot.sw = .closed ∨ s.holderOf .winch ≠ .fs → t.wch.directEnded) ∧
      unchangedBut [.prot, .bgt, .grt, .drv, .str, .wch, .lgt, .acp, .rsc] s t) ∧
    (s.rsc.run = .running → s.rsc.idleEnd = some due → ∃ t, exec .idleSleepExpiry s = .next t ∧
      t.now = max s.now due ∧ t.rsc.run = .sleep ∧ t.rsc.sleepOrigin = some .fromRunning ∧ t.rsc.armingEnd = none ∧
      t.rsc.idleEnd = none ∧ t.prot.sw = .opened ∧ t.grt.link = .never ∧ (∀ f, t.grt.lastDecoded.get f = none) ∧
      (∀ f, passedToFs s.cfg f 0 (s.grt.fns.get f) (t.grt.fns.get f)) ∧ (s.queueOk → preempted s t) ∧ capsKept s t ∧
      (s.prot.sw = .closed ∨ s.holderOf .winch ≠ .fs → t.wch.directEnded) ∧ acpPosted s t ∧
      unchangedBut [.now, .prot, .bgt, .grt, .drv, .str, .wch, .lgt, .acp, .rsc] s t) ∧
    (s.rsc.run ≠ .halted → ∃ t, exec (.sleep [b]) s = .next t ∧
      answersWith [] s t (if s.rsc.run = .sleep then .ok else .refusedState) s.runBytes)

/-- R166, R157, R170: entry to either bench state and what it saves, the refusals, and OC_TRIP asserted at entry: in
BENCH-DRY a hard trip by the protection state, in BENCH-WET the end of the precharge and of the bench (R19, R171), either
of which preempts an ACTIVE order (R113) where the trip enters CUTOFF or LOCKOUT or WINCH leaves AP. The
save of BENCH-WET holds the line position, the referenced flag, the winch direction and the gear too, and LOCKOUT entered
in BENCH-DRY leaves the switch (log 18). The field a refusal for a copy not marked valid names is the one the model finds
first (log 9), after the run-state bytes (log 13). -/
def Obligations.BenchEntered : Prop :=
  ∀ (s : State) (d w : Byte), s.portOpen → runctlRow [d] = .benchDry → runctlRow [w] = .benchWet →
    (s.rsc.run = .halted ∧ s.rsc.startInFlight = false →
      (s.lines.ocTrip = false ∨ s.prot.st = .lockout → ∃ t, exec (.benchDry [d]) s = .next t ∧
        t.rsc = { s.rsc with run := .benchDry, save := some s.benchSave, idleEnd := none } ∧
        answers s t .ok [5, 0, if s.rsc.pendingStart then 1 else 0] ∧ apHeard s t .ok ∧
        unchangedBut [.acp, .grt, .rsc] s t) ∧
      (s.lines.ocTrip = true → s.prot.st ≠ .lockout → ∃ t, exec (.benchDry [d]) s = .next t ∧
        t.rsc.run = .benchDry ∧ t.rsc.save = some s.benchSave ∧ t.prot.sw = s.prot.sw ∧ t.acp.status = .ok ∧
        t.acp.data = [5, 0, if s.rsc.pendingStart then 1 else 0] ∧
        (s.prot.st = .normal ∨ s.prot.st = .warn ∨ s.prot.cause ≠ some .hardTrip → t.prot.st = .cutoff ∧
          t.prot.cause = some .hardTrip ∧ t.prot.tripTime = some s.now ∧ t.faultLatched .hardTrip = true) ∧
        (s.prot.st ≠ .cutoff ∨ s.prot.cause = some .hardTrip → s.queueOk → preempted s t) ∧
        (s.prot.st = .cutoff → s.prot.cause = some .hardTrip → t.prot.st = .lockout ∧ t.prot.cause = none ∧
          t.prot.tripTime = none ∧ (∀ k, t.prot.dwell.get k = none) ∧ t.drv.applied = 0 ∧ t.wch.duty = 0 ∧
          t.faultLatched .lockout = true)) ∧
      (s.prot.st ≠ .lockout → s.rsc.valid = true → s.prot.sw = .opened →
        (s.lines.ocTrip = false → ∃ t, exec (.benchWet [w]) s = .next t ∧
          t.rsc = { s.rsc with run := .benchWet, save := some s.benchSave, idleEnd := none } ∧
          t.prot =
            { s.prot with sw := .precharging, prechargeEnd := some (s.now + s.cfg.prechargeMs * msec) } ∧
          answers s t .ok [6, 0, if s.rsc.pendingStart then 1 else 0] ∧ apHeard s t .ok ∧
          unchangedBut [.prot, .acp, .grt, .rsc] s t) ∧
        (s.lines.ocTrip = true → ∃ t, exec (.benchWet [w]) s = .next t ∧ t.rsc.run = .halted ∧
          t.acp.status = .ok ∧ t.acp.data = [0, 0, 0] ∧ t.prot.sw = .opened ∧ t.prot.prechargeEnd = none ∧
          benchLeft s t s.benchSave false ∧ t.faultLatched .hardTrip = true ∧ t.faultLatched .prechargeFail = true ∧
          (s.queueOk → preempted s t) ∧
          ∀ f, passedToFs s.cfg f 0 (s.grt.fns.get f) (t.grt.fns.get f))) ∧
      (s.prot.st = .lockout → ∃ t, exec (.benchWet [w]) s = .next t ∧ answersWith [] s t .refusedState s.runBytes) ∧
      (s.prot.st ≠ .lockout → s.rsc.valid = false → ∃ t, exec (.benchWet [w]) s = .next t ∧
        answersWith [] s t .configField (s.runBytes ++ s.badFieldBytes))) ∧
    (¬(s.rsc.run = .halted ∧ s.rsc.startInFlight = false) →
      (∃ t, exec (.benchDry [d]) s = .next t ∧ answersWith [] s t .refusedState s.runBytes) ∧
      ∃ t, exec (.benchWet [w]) s = .next t ∧ answersWith [] s t .refusedState s.runBytes)

/-- R157, R158, R165, R154, R65, R90, R94, R113: a LOAD begins in HALTED with no start in flight and takes 5 ms; elsewhere it
is refused. Its end judges the image by its CRC and its fields. Where it fails the factory defaults stand, not valid, with
CONFIG_BAD latched; where it passes the image stands, valid, and a start is made if one is pending and the protection state
is not LOCKOUT. Either way the replaced working copy sets off what a written one does. With OC_TRIP asserted that start's
precharge fails at once (R17, R19). The clock after it is the model's (log 2). -/
def Obligations.LoadBeginsAndJudges : Prop :=
  (∀ (s : State) (b : Byte), s.portOpen → runctlRow [b] = .load →
    (s.rsc.run = .halted ∧ s.rsc.startInFlight = false → ∃ t, exec (.load [b]) s = .next t ∧
      t.rsc =
        { s.rsc with
          run := .loading, load := some ⟨s.now + 5 * msec, false⟩, pendingStart := bit b.toNat 5, idleEnd := none } ∧
      answers s t .ok [1, 0, if bit b.toNat 5 then 1 else 0] ∧ apHeard s t .ok ∧ unchangedBut [.acp, .grt, .rsc] s t) ∧
    (¬(s.rsc.run = .halted ∧ s.rsc.startInFlight = false) → ∃ t, exec (.load [b]) s = .next t ∧
      answersWith [] s t .refusedState s.runBytes)) ∧
  ∀ (s : State) (l : LoadRun), s.rsc.load = some l → s.rsc.run = .loading → s.prot.sw = .opened →
    ∃ t, exec .loadEnd s = .next t ∧
      t.now = max s.now l.endTime ∧
      t.rsc =
        { s.rsc with
          run := .halted, work := t.cfg, load := none, pendingStart := false, valid := t.rsc.valid
          startInFlight := t.rsc.startInFlight, idleEnd := none } ∧
      t.acp = { s.acp with mask := t.cfg.attnDefault, orderDone := t.acp.orderDone, latched := t.acp.latched } ∧
      t.prot =
        { s.prot with
          sw := t.prot.sw, prechargeEnd := t.prot.prechargeEnd, throttleRested := t.prot.throttleRested } ∧
      reconfigured s t ∧ t.grt.apLost = s.grt.apLost ∧
      (∀ bytes, s.rsc.store = .written bytes → bytes.length = 352 →
        bytes.drop 350 = word16 (crc16 (bytes.take 350)).toNat → firstBad ⟨bytes.take 350⟩ = none →
        t.cfg.bytes = bytes.take 350 ∧ t.rsc.valid = true ∧
        (let starts := (if l.powerUp then t.cfg.autoStart else s.rsc.pendingStart) = true ∧ s.prot.st ≠ .lockout;
          (¬starts → t.rsc.startInFlight = s.rsc.startInFlight ∧ t.prot.sw = .opened) ∧
          (starts → s.lines.ocTrip = false → t.rsc.startInFlight = true ∧ t.prot.sw = .precharging ∧
            t.prot.prechargeEnd = some (t.now + t.cfg.prechargeMs * msec)) ∧
          (starts → s.lines.ocTrip = true → t.rsc.startInFlight = false ∧ t.prot.sw = .opened ∧
            t.faultLatched .hardTrip = true ∧ t.faultLatched .prechargeFail = true))) ∧
      ((∀ bytes, s.rsc.store = .written bytes → bytes.length = 352 →
          bytes.drop 350 = word16 (crc16 (bytes.take 350)).toNat → firstBad ⟨bytes.take 350⟩ ≠ none) →
        t.cfg = factorySettings ∧ t.rsc.valid = false ∧ t.faultLatched .configBad = true ∧ t.prot.sw = .opened) ∧
      unchangedBut [.now, .prot, .grt, .drv, .str, .wch, .lgt, .acp, .rsc] s t

/-- R159, R17, R157: START, judged in order, and RUNCTL with no flag. The field a refusal names is the one the model
finds first (log 9), NOT_CHECKED where there is none, after the run-state bytes (log 13). -/
def Obligations.StartJudgedInOrder : Prop :=
  ∀ (s : State) (b n : Byte), s.portOpen → runctlRow [b] = .start → runctlRow [n] = .noFlag →
    (s.rsc.run = .halted → s.rsc.startInFlight = false → s.prot.st ≠ .lockout → s.rsc.valid = true →
      s.prot.sw = .opened →
      (s.lines.ocTrip = false → ∃ t, exec (.start [b]) s = .next t ∧
        t.rsc = { s.rsc with startInFlight := true, idleEnd := none } ∧
        t.prot = { s.prot with sw := .precharging, prechargeEnd := some (s.now + s.cfg.prechargeMs * msec) } ∧
        answers s t .ok [0, 1, if s.rsc.pendingStart then 1 else 0] ∧ apHeard s t .ok ∧
        unchangedBut [.prot, .acp, .grt, .rsc] s t) ∧
      (s.lines.ocTrip = true → ∃ t, exec (.start [b]) s = .next t ∧ t.acp.status = .ok ∧
        t.rsc.startInFlight = false ∧ t.prot.sw = .opened ∧ t.prot.st = s.prot.st ∧
        t.faultLatched .hardTrip = true ∧ t.faultLatched .prechargeFail = true)) ∧
    (s.rsc.run = .halted → s.rsc.startInFlight = true → ∃ t, exec (.start [b]) s = .next t ∧
      answersWith [] s t .ok s.runBytes) ∧
    (s.rsc.run ≠ .halted ∨ (s.rsc.startInFlight = false ∧ s.prot.st = .lockout) →
      ∃ t, exec (.start [b]) s = .next t ∧ answersWith [] s t .refusedState s.runBytes) ∧
    (s.rsc.run = .halted → s.rsc.startInFlight = false → s.prot.st ≠ .lockout → s.rsc.valid = false →
      ∃ t, exec (.start [b]) s = .next t ∧ answersWith [] s t .configField (s.runBytes ++ s.badFieldBytes)) ∧
    ∃ t, exec (.runctlNoFlag [n]) s = .next t ∧ answersWith [] s t .ok s.runBytes

/-- R160, R162, R19: ARMING becomes RUNNING, and a wake ends in HALTED, with a precharge where the sleep came from
RUNNING, which OC_TRIP asserted ends at once. The clock after it is the model's (log 2). -/
def Obligations.ArmingAndWakeEnd : Prop :=
  ∀ (s : State) (due : Nat),
    (s.rsc.run = .arming → s.rsc.armingEnd = some due → ∃ t, exec .armingTimerExpiry s = .next t ∧
      t.now = max s.now due ∧ t.rsc = { s.rsc with run := .running, armingEnd := none, idleEnd := s.idleUntil t } ∧
      acpSettled s t ∧ unchangedBut [.now, .acp, .rsc] s t) ∧
    (s.rsc.run = .sleep → s.rsc.wakeEnd = some due →
      (s.rsc.sleepOrigin ≠ some .fromRunning → ∃ t, exec .wakeTimerExpiry s = .next t ∧ t.now = max s.now due ∧
        t.rsc = { s.rsc with run := .halted, wakeEnd := none, sleepOrigin := none, idleEnd := none } ∧
        acpSettled s t ∧ unchangedBut [.now, .acp, .rsc] s t) ∧
      (s.rsc.sleepOrigin = some .fromRunning → s.prot.sw = .opened → s.lines.ocTrip = false →
        ∃ t, exec .wakeTimerExpiry s = .next t ∧ t.now = max s.now due ∧
          t.rsc =
            { s.rsc with
              run := .halted, wakeEnd := none, sleepOrigin := none, idleEnd := none
              startInFlight := decide (s.prot.st ≠ .lockout) } ∧
          (s.prot.st = .lockout → t.prot = s.prot) ∧
          (s.prot.st ≠ .lockout →
            t.prot = { s.prot with sw := .precharging, prechargeEnd := some (t.now + s.cfg.prechargeMs * msec) }) ∧
          acpSettled s t ∧ unchangedBut [.now, .prot, .acp, .rsc] s t) ∧
      (s.rsc.sleepOrigin = some .fromRunning → s.prot.sw = .opened → s.lines.ocTrip = true →
        ∃ t, exec .wakeTimerExpiry s = .next t ∧ t.now = max s.now due ∧
          t.rsc =
            { s.rsc with
              run := .halted, wakeEnd := none, sleepOrigin := none, idleEnd := none, startInFlight := false } ∧
          t.prot.sw = .opened ∧ t.prot.st = s.prot.st ∧
          (s.prot.st ≠ .lockout → t.faultLatched .hardTrip = true ∧ t.faultLatched .prechargeFail = true) ∧
          unchangedBut [.now, .prot, .acp, .rsc] s t))

/-- R163, R65, R90, R94, R113: CFG_READ and CFG_CHECK, and a CFG_WRITE that is taken or turned away, with what an accepted
write sets off. The field a CONFIG_FIELD answer names is the one the model finds first (log 9). A write is turned away for
a field it touches, which the model reads as a field standing on a byte written (log 10). -/
def Obligations.ConfigurationCommands : Prop :=
  ∀ (s : State) (hi lo n : Byte) (data : List Byte), s.portOpen → s.configOk →
    let offset := hi.toNat * 256 + lo.toNat
    let writable := (s.rsc.run = .halted ∧ s.rsc.startInFlight = false) ∨ s.rsc.run = .benchDry
    (1 ≤ n.toNat ∧ n.toNat ≤ 16 ∧ offset + n.toNat ≤ 352 → ∃ t, exec (.cfgRead [hi, lo, n]) s = .next t ∧
      answersWith [] s t .ok (((s.cfg.bytes ++ word16 (crc16 s.cfg.bytes).toNat).drop offset).take n.toNat)) ∧
    (¬(1 ≤ n.toNat ∧ n.toNat ≤ 16 ∧ offset + n.toNat ≤ 352) →
      ∃ t, exec (.cfgRead [hi, lo, n]) s = .next t ∧ answersWith [] s t .badValue []) ∧
    (∃ t, exec (.cfgCheck []) s = .next t ∧
      t.rsc = { s.wakeSource.rsc with valid := decide (firstBad s.cfg = none), idleEnd := s.idleUntil t } ∧
      (firstBad s.cfg = none → answers s t .ok []) ∧ (firstBad s.cfg ≠ none → answers s t .configField s.badFieldBytes) ∧
      unchangedBut [.acp, .grt, .rsc] s t) ∧
    (data.length = n.toNat → ¬writable → ∃ t, exec (.cfgWrite (hi :: lo :: n :: data)) s = .next t ∧
      answersWith [] s t .refusedState []) ∧
    (data.length = n.toNat → writable → n.toNat = 0 ∨ 16 < n.toNat ∨ 350 < offset + n.toNat →
      ∃ t, exec (.cfgWrite (hi :: lo :: n :: data)) s = .next t ∧ answersWith [] s t .badValue []) ∧
    (data.length = n.toNat → writable → 1 ≤ n.toNat → n.toNat ≤ 16 → offset + n.toNat ≤ 350 →
      (∀ field, firstBadTouched (s.cfg.write offset data) offset n.toNat = some field →
        ∃ t, exec (.cfgWrite (hi :: lo :: n :: data)) s = .next t ∧
          answersWith [] s t .configField (word16 field ++ [1])) ∧
      (firstBadTouched (s.cfg.write offset data) offset n.toNat = none →
        ∃ t, exec (.cfgWrite (hi :: lo :: n :: data)) s = .next t ∧
          t.rsc = { s.rsc with work := t.cfg, valid := false, idleEnd := none } ∧ answersPosted s t .ok [] ∧ t.configOk ∧
          (∀ i, t.cfg.bytes.getD i 0 =
            if offset ≤ i ∧ i < offset + n.toNat then data.getD (i - offset) 0 else s.cfg.bytes.getD i 0) ∧
          reconfigured s t ∧ t.grt.apLost = false ∧ t.prot = { s.prot with throttleRested := t.prot.throttleRested } ∧
          unchangedBut [.prot, .grt, .drv, .str, .wch, .lgt, .acp, .rsc] s t))

/-- R164: a store begins in HALTED with no start in flight and a valid copy, takes 40 ms, and ends by comparing what
it reads back. Until it ends the store holds a partly written image, and then what was read back (log 14); the field a
refusal for a copy not marked valid names is the one the model finds first (log 9). The clock after it is the model's
(log 2). -/
def Obligations.StoreRunsAndEnds : Prop :=
  ∀ (s : State) (due : Nat) (readBack : List Byte),
    (s.portOpen → s.rsc.run = .halted ∧ s.rsc.startInFlight = false →
      (s.rsc.valid = true → ∃ t, exec (.cfgStore []) s = .next t ∧
        t.rsc = { s.rsc with storeEnd := some (s.now + 40 * msec), store := .partlyWritten, idleEnd := none } ∧
        answers s t .ok [] ∧ apHeard s t .ok ∧ unchangedBut [.acp, .grt, .rsc] s t) ∧
      (s.rsc.valid = false → ∃ t, exec (.cfgStore []) s = .next t ∧
        answersWith [] s t .configField s.badFieldBytes)) ∧
    (s.portOpen → ¬(s.rsc.run = .halted ∧ s.rsc.startInFlight = false) →
      ∃ t, exec (.cfgStore []) s = .next t ∧ answersWith [] s t .refusedState []) ∧
    (s.rsc.storeEnd = some due → ∃ t, exec (.storeEnd readBack) s = .next t ∧ t.now = max s.now due ∧
      t.rsc = { s.rsc with storeEnd := none, store := .written readBack, idleEnd := s.idleUntil t } ∧
      (readBack ≠ s.cfg.bytes ++ word16 (crc16 s.cfg.bytes).toNat → t.faultLatched .storeFail = true) ∧
      (readBack = s.cfg.bytes ++ word16 (crc16 s.cfg.bytes).toNat → acpSettled s t) ∧
      unchangedBut [.now, .acp, .rsc] s t)

/-- R14, R21, R43, R67, R79, R91, R118, R135, R146, R153 to R155, R165, R171: what the soft reset keeps and what it sets,
at the moment it begins, the bench's save restored first; and what each of the three full resets sets, with its own cause
alone. The store and the calibration block in it survive a full reset, and the power-up load is in flight. The time the
reset takes and the level of ADDR it samples are the model's (log 22); where the spec gives a value none, the value stated
is the model's (log 6: it stands in BudgetResult.zero, Drv.fresh, Str.fresh, Lgt.fresh and Wch.powerOn); that the saved bands are
restored beside an active sensor fault too is the model's choice (log 27), and so is that a scene entry written during a
LOAD is kept where the soft reset abandons the LOAD (log 38); a restored CUTOFF is no rise of HARD_TRIP (log 28). -/
def Obligations.ResetValues : Prop :=
  (∀ (s : State) (strap : Bool), s.portOpen → ∃ t, exec (.reset ⟨strap, []⟩) s = .next t ∧
    (let dry := s.rsc.run = .benchDry
      let save := s.rsc.save
      t.prot.st = (if save.elim s.prot.st BenchSave.st = .lockout then .lockout else .normal) ∧
      t.prot.q = save.elim s.prot.q BenchSave.q ∧ t.prot.limit = save.elim s.prot.limit BenchSave.limit ∧
      t.pmon =
        { s.pmon with
          packBand := save.elim s.pmon.packBand BenchSave.packBand
          motorBand := save.elim s.pmon.motorBand BenchSave.motorBand
          chan := t.pmon.chan, nextSample := s.now + 2 * msec } ∧
      (∀ q, t.pmon.chan.get q =
        if dry ∧ save ≠ none then
          { s.pmon.chan.get q with
            substituted := false, refill := (s.pmon.chan.get q).refill || (s.pmon.chan.get q).substituted }
        else s.pmon.chan.get q) ∧
      t.wch =
        { Wch.powerOn s.now with
          linePos := if dry then save.elim s.wch.linePos BenchSave.linePos else s.wch.linePos
          referenced := if dry then save.elim s.wch.referenced BenchSave.referenced else s.wch.referenced }) ∧
    t.rsc =
      { s.rsc with
        run := .halted, startInFlight := false, pendingStart := false, sleepOrigin := none, wakeEnd := none
        armingEnd := none, idleEnd := none, load := none, storeEnd := none, save := none } ∧
    t.prot.cause = none ∧ t.prot.tripTime = none ∧ (∀ k, t.prot.dwell.get k = none) ∧ t.prot.sw = .opened ∧
    t.prot.prechargeEnd = none ∧ t.bgt.pub = BudgetResult.zero ∧ t.bgt.trial = none ∧
    (∀ k, t.bgt.starved.get k = 0) ∧ t.bgt.shortCount = 0 ∧ t.bgt.clearCount = 0 ∧ t.bgt.servoShort = false ∧
    t.bgt.nextPeriod = s.now + 10 * msec ∧ t.drv = Drv.fresh s.now ∧ t.str = Str.fresh s.cfg s.now ∧
    t.lgt = Lgt.fresh s.now ∧ t.dlr = Dlr.fresh ∧ t.pnd = Pnd.fresh s.now ∧ t.grt.link = .never ∧
    t.grt.freshEnd = none ∧ t.grt.apLost = false ∧ (∀ f, t.grt.lost.get f = false) ∧
    (∀ f, t.grt.lastDecoded.get f = none) ∧
    (∀ f, t.holderOf f = .fs ∧ t.valueOf f = 0 ∧ (t.grt.fns.get f).seq = ((s.grt.fns.get f).seq + 1) % 16) ∧
    t.acp.status = .ok ∧ t.acp.data = [] ∧ t.acp.mask = s.cfg.attnDefault ∧ t.acp.orderDone = false ∧
    t.acp.causes = { s.acp.causes with soft := true } ∧ t.acp.addrHigh = strap ∧
    t.lines = { s.lines with addr := strap } ∧
    (∀ e, t.faultLatched e = ((s.faultLatched e && (e == .hardTrip || e == .lockout)) || t.faultActive e)) ∧
    unchangedBut [.lines, .pmon, .prot, .bgt, .grt, .drv, .str, .wch, .lgt, .dlr, .pnd, .acp, .rsc] s t) ∧
  ∀ (s : State) (strap : Bool) (kind : FullResetKind),
    ∃ t, exec (match kind with
        | .powerOn => .powerOnReset strap
        | .brownOut => .brownOutReset strap
        | .pin => .pinReset strap) s = .next t ∧
      t.rsc.run = .loading ∧ t.rsc.load = some ⟨s.now + 5 * msec, true⟩ ∧ t.cfg = factorySettings ∧
      t.rsc.valid = false ∧ t.rsc.pendingStart = factorySettings.autoStart ∧ t.rsc.startInFlight = false ∧
      t.rsc.wakeEnd = none ∧ t.rsc.storeEnd = none ∧ t.rsc.sleepOrigin = none ∧ t.rsc.armingEnd = none ∧
      t.rsc.idleEnd = none ∧ t.rsc.save = none ∧ t.rsc.store = s.rsc.store ∧ t.rsc.cal = s.rsc.calStored ∧
      t.prot.st = .normal ∧ t.prot.cause = none ∧ t.prot.tripTime = none ∧ (∀ k, t.prot.dwell.get k = none) ∧
      t.prot.q = 0 ∧ t.prot.limit = false ∧ t.prot.sw = .opened ∧ t.prot.prechargeEnd = none ∧
      (∀ q, (t.pmon.chan.get q).window = [] ∧ t.published q = none) ∧ t.pmon.vmin = none ∧ t.pmon.packBand = 0 ∧
      t.pmon.motorBand = 0 ∧ t.bgt.pub = BudgetResult.zero ∧ t.drv = Drv.fresh s.now ∧ t.wch = Wch.powerOn s.now ∧
      t.str = Str.fresh factorySettings s.now ∧ t.lgt = Lgt.fresh s.now ∧ t.dlr = Dlr.fresh ∧ t.pnd = Pnd.fresh s.now ∧
      (∀ f, t.holderOf f = .fs ∧ t.valueOf f = 0 ∧ (t.grt.fns.get f).seq = 0) ∧ t.grt.link = .never ∧
      t.acp.status = .ok ∧ t.acp.data = [] ∧ t.acp.latched = 0 ∧ t.acp.orderDone = false ∧
      t.acp.mask = factorySettings.attnDefault ∧ t.acp.addrHigh = strap ∧
      t.acp.causes =
        { powerOn := kind == .powerOn, brownOut := kind == .brownOut, pin := kind == .pin, soft := false } ∧
      t.lines = { s.lines with addr := strap } ∧ t.now = s.now ∧ t.pending = s.pending

/-! ### Function grants (chapter 3), radio link and pendant (chapter 7) -/

/-- R55, R56, R100: CLAIM. The lease starts in full, the value stays, and a claim of WINCH stops direct drive at once. In
SLEEP, and for a function id above 6, it is refused. -/
def Obligations.ClaimTakesTheHolder : Prop :=
  ∀ (s : State) (f : Fn) (x : Byte), s.portOpen →
    (s.rsc.run ≠ .sleep → s.cfg.allows f .ap = true → s.holderOf f ≠ .pd →
      ¬(f.proportional = true ∧ s.grt.link = .fresh ∧
        ∃ v, s.grt.lastDecoded.get f = some v ∧ s.cfg.neutralBand f < v.natAbs) →
      ∃ t, exec (.claim [byteOf f.code]) s = .next t ∧ t.acp.status = .ok ∧
        t.acp.data = [byteOf (s.holderOf f).code, byteOf (t.grt.fns.get f).seq] ∧
        (s.holderOf f = .ap → t.grt.fns.get f =
          { s.grt.fns.get f with lease := some (s.now + s.cfg.apTimeout * msec) }) ∧
        (s.holderOf f ≠ .ap →
          movedTo .ap (s.valueOf f) (some (s.now + s.cfg.apTimeout * msec)) (s.grt.fns.get f) (t.grt.fns.get f)) ∧
        onlyRecord f s t .ok ∧ followsTable s t ∧ t.wch.slots = s.wch.slots ∧
        (f = .winch → s.holderOf f ≠ .ap → t.wch.duty = 0 ∧ t.wch.moving = false ∧ t.wch.pwm = 0 ∧
          t.wch.stallHold = false) ∧
        answers s t .ok t.acp.data ∧ unchangedBut [.prot, .grt, .drv, .wch, .lgt, .acp, .rsc] s t) ∧
    (s.rsc.run ≠ .sleep → s.cfg.allows f .ap = false ∨ s.holderOf f = .pd →
      ∃ t, exec (.claim [byteOf f.code]) s = .next t ∧
        answersWith [] s t .notAllowed [byteOf (s.holderOf f).code, byteOf (s.grt.fns.get f).seq]) ∧
    (s.rsc.run ≠ .sleep → s.cfg.allows f .ap = true → s.holderOf f ≠ .pd → f.proportional = true →
      s.grt.link = .fresh → (∃ v, s.grt.lastDecoded.get f = some v ∧ s.cfg.neutralBand f < v.natAbs) →
      ∃ t, exec (.claim [byteOf f.code]) s = .next t ∧
        answersWith [] s t .overridden [byteOf (s.holderOf f).code, byteOf (s.grt.fns.get f).seq]) ∧
    (s.rsc.run = .sleep → ∃ t, exec (.claim [byteOf f.code]) s = .next t ∧
      answersWith [] s t .refusedState [byteOf (s.holderOf f).code, byteOf (s.grt.fns.get f).seq]) ∧
    (6 < x.toNat → ∃ t, exec (.claim [x]) s = .next t ∧
      answersWith [] s t (if s.rsc.run = .sleep then .refusedState else .badValue) [0xFF, 0xFF])

/-- R55, R57: SET: what it writes and when it is turned away. Holder and seq stay. In SLEEP, and for a function id above
6, it is refused. -/
def Obligations.SetWritesTheValue : Prop :=
  ∀ (s : State) (f : Fn) (hi lo q x : Byte), s.portOpen →
    (s.rsc.run ≠ .sleep → s.holderOf f = .ap → (s.grt.fns.get f).seq = q.toNat → f ≠ .winch →
      (f.proportional = true → ∃ t, exec (.set [byteOf f.code, hi, lo, q]) s = .next t ∧
        t.grt.fns.get f =
          { s.grt.fns.get f with
            value := max (-1000) (min 1000 (beInt [hi, lo])), lease := some (s.now + s.cfg.apTimeout * msec) } ∧
        answers s t (if 1000 < (beInt [hi, lo]).natAbs then .okClamped else .ok)
          [byteOf Holder.ap.code, byteOf q.toNat] ∧
        onlyRecord f s t .ok ∧ followsTable s t ∧ unchangedBut [.prot, .grt, .drv, .wch, .lgt, .acp, .rsc] s t) ∧
      (f.proportional = false → 0 ≤ beInt [hi, lo] → beInt [hi, lo] ≤ f.topCode →
        ∃ t, exec (.set [byteOf f.code, hi, lo, q]) s = .next t ∧
          t.grt.fns.get f =
            { s.grt.fns.get f with value := beInt [hi, lo], lease := some (s.now + s.cfg.apTimeout * msec) } ∧
          answers s t .ok [byteOf Holder.ap.code, byteOf q.toNat] ∧ onlyRecord f s t .ok ∧ followsTable s t ∧
          unchangedBut [.prot, .grt, .drv, .wch, .lgt, .acp, .rsc] s t) ∧
      (f.proportional = false → beInt [hi, lo] < 0 ∨ f.topCode < beInt [hi, lo] →
        ∃ t, exec (.set [byteOf f.code, hi, lo, q]) s = .next t ∧
          answersWith [] s t .badValue [byteOf Holder.ap.code, byteOf q.toNat])) ∧
    (s.rsc.run ≠ .sleep → s.holderOf f = .ap → (s.grt.fns.get f).seq = q.toNat → f = .winch →
      ∃ t, exec (.set [byteOf f.code, hi, lo, q]) s = .next t ∧
        answersWith [] s t .notAllowed [byteOf Holder.ap.code, byteOf q.toNat]) ∧
    (s.rsc.run ≠ .sleep → s.holderOf f ≠ .ap ∨ (s.grt.fns.get f).seq ≠ q.toNat →
      ∃ t, exec (.set [byteOf f.code, hi, lo, q]) s = .next t ∧
        answersWith [] s t .notHolder [byteOf (s.holderOf f).code, byteOf (s.grt.fns.get f).seq]) ∧
    (s.rsc.run = .sleep → ∃ t, exec (.set [byteOf f.code, hi, lo, q]) s = .next t ∧
      answersWith [] s t .refusedState [byteOf (s.holderOf f).code, byteOf (s.grt.fns.get f).seq]) ∧
    (6 < x.toNat → ∃ t, exec (.set [x, hi, lo, q]) s = .next t ∧
      answersWith [] s t (if s.rsc.run = .sleep then .refusedState else .badValue) [0xFF, 0xFF])

/-- R55, R58, R48: CLAIM_SET makes the claim of R56 and the write of R57 in one step, a passage to AP clearing the reacquire
flag, or is refused by the first check that fails; in SLEEP, and for a function id above 6, it is refused too. -/
def Obligations.ClaimSetDoesBoth : Prop :=
  ∀ (s : State) (f : Fn) (hi lo x : Byte), s.portOpen →
    let inRange := f.proportional = true ∨ (0 ≤ beInt [hi, lo] ∧ beInt [hi, lo] ≤ f.topCode)
    let outside := f.proportional = true ∧ s.grt.link = .fresh ∧
      ∃ v, s.grt.lastDecoded.get f = some v ∧ s.cfg.neutralBand f < v.natAbs
    let present := [byteOf (s.holderOf f).code, byteOf (s.grt.fns.get f).seq]
    let written := if f.proportional then max (-1000) (min 1000 (beInt [hi, lo])) else beInt [hi, lo]
    (s.rsc.run ≠ .sleep → f ≠ .winch → inRange → s.cfg.allows f .ap = true → s.holderOf f ≠ .pd → ¬outside →
      ∃ t, exec (.claimSet [byteOf f.code, hi, lo]) s = .next t ∧
        (s.holderOf f = .ap →
          t.grt.fns.get f = { s.grt.fns.get f with value := written, lease := some (s.now + s.cfg.apTimeout * msec) }) ∧
        (s.holderOf f ≠ .ap →
          movedTo .ap written (some (s.now + s.cfg.apTimeout * msec)) (s.grt.fns.get f) (t.grt.fns.get f)) ∧
        answers s t (if f.proportional = true ∧ 1000 < (beInt [hi, lo]).natAbs then .okClamped else .ok)
          [byteOf (s.holderOf f).code, byteOf (t.grt.fns.get f).seq] ∧
        onlyRecord f s t .ok ∧ followsTable s t ∧ unchangedBut [.prot, .grt, .drv, .wch, .lgt, .acp, .rsc] s t) ∧
    (s.rsc.run ≠ .sleep → f = .winch → ∃ t, exec (.claimSet [byteOf f.code, hi, lo]) s = .next t ∧
      answersWith [] s t .notAllowed present) ∧
    (s.rsc.run ≠ .sleep → f ≠ .winch → ¬inRange →
      ∃ t, exec (.claimSet [byteOf f.code, hi, lo]) s = .next t ∧ answersWith [] s t .badValue present) ∧
    (s.rsc.run ≠ .sleep → f ≠ .winch → inRange → s.cfg.allows f .ap = false ∨ s.holderOf f = .pd →
      ∃ t, exec (.claimSet [byteOf f.code, hi, lo]) s = .next t ∧ answersWith [] s t .notAllowed present) ∧
    (s.rsc.run ≠ .sleep → f ≠ .winch → s.cfg.allows f .ap = true → s.holderOf f ≠ .pd → outside →
      ∃ t, exec (.claimSet [byteOf f.code, hi, lo]) s = .next t ∧ answersWith [] s t .overridden present) ∧
    (s.rsc.run = .sleep → ∃ t, exec (.claimSet [byteOf f.code, hi, lo]) s = .next t ∧
      answersWith [] s t .refusedState present) ∧
    (6 < x.toNat → ∃ t, exec (.claimSet [x, hi, lo]) s = .next t ∧
      answersWith [] s t (if s.rsc.run = .sleep then .refusedState else .badValue) [0xFF, 0xFF])

/-- R55, R59, R100, R113, R106: RELEASE: back to DL with its last decoded value, or to FS with the neutral value. An order
ACTIVE at the release of WINCH is preempted, its motor stopped and ORDER_DONE posted. In SLEEP, and for a function id above
6, it is refused. -/
def Obligations.ReleaseGivesUp : Prop :=
  ∀ (s : State) (f : Fn) (x : Byte), s.portOpen →
    (s.rsc.run ≠ .sleep → s.holderOf f = .ap → ∃ t, exec (.release [byteOf f.code]) s = .next t ∧
      answersPosted s t .ok [byteOf Holder.ap.code, byteOf (t.grt.fns.get f).seq] ∧
      (∀ v, s.cfg.defaultHolder f = some .dl → s.grt.link = .fresh → s.grt.lastDecoded.get f = some v →
        movedTo .dl v none (s.grt.fns.get f) (t.grt.fns.get f)) ∧
      (¬(s.cfg.defaultHolder f = some .dl ∧ s.grt.link = .fresh ∧ s.grt.lastDecoded.get f ≠ none) →
        passedToFs s.cfg f 0 (s.grt.fns.get f) (t.grt.fns.get f)) ∧
      onlyRecord f s t .ok ∧ followsTable s t ∧
      (f = .winch → t.wch.directEnded ∧ (s.queueOk → preempted s t)) ∧
      unchangedBut [.prot, .grt, .drv, .wch, .lgt, .acp, .rsc] s t) ∧
    (s.rsc.run ≠ .sleep → s.holderOf f ≠ .ap → ∃ t, exec (.release [byteOf f.code]) s = .next t ∧
      answersWith [] s t .notHolder [byteOf (s.holderOf f).code, byteOf (s.grt.fns.get f).seq]) ∧
    (s.rsc.run = .sleep → ∃ t, exec (.release [byteOf f.code]) s = .next t ∧
      answersWith [] s t .refusedState [byteOf (s.holderOf f).code, byteOf (s.grt.fns.get f).seq]) ∧
    (6 < x.toNat → ∃ t, exec (.release [x]) s = .next t ∧
      answersWith [] s t (if s.rsc.run = .sleep then .refusedState else .badValue) [0xFF, 0xFF])

/-- R60: "REFRESH restarts the lease of every record the accessory port holds, each with the full AP_TIMEOUT", completes
with OK and lists the ids, ascending. In SLEEP it is refused (R55). -/
def Obligations.RefreshRestartsLeases : Prop :=
  ∀ s : State, s.portOpen →
    (s.rsc.run ≠ .sleep → ∃ t, exec (.refresh []) s = .next t ∧
      (∀ f, s.holderOf f = .ap →
        t.grt.fns.get f = { s.grt.fns.get f with lease := some (s.now + s.cfg.apTimeout * msec) }) ∧
      (∀ f, s.holderOf f ≠ .ap → t.grt.fns.get f = s.grt.fns.get f) ∧
      t.grt = { s.grt with fns := t.grt.fns, apLost := false } ∧
      answers s t .ok (idList 7 ((Fn.all.filter fun f => s.holderOf f == .ap).map Fn.code)) ∧ rscIdle s t ∧
      unchangedBut [.grt, .acp, .rsc] s t) ∧
    (s.rsc.run = .sleep → ∃ t, exec (.refresh []) s = .next t ∧ answersWith [] s t .refusedState [])

/-- R137 to R139, R49, R51 to R53, R63, R100, R113: a fresh frame, out of SLEEP, acts on each record by itself; a record of
FS that neither overrides nor returns stays. An order ACTIVE when the radio takes WINCH from AP is preempted, and at any
change of WINCH's holder the direct stall hold and timers end. The frame as one
command, whatever the assembler held, is the model's (log 7). -/
def Obligations.FreshFrameActsOnEachRecord : Prop :=
  ∀ (s : State) (bytes : List Byte) (f : Fn), s.rsc.run ≠ .sleep → frameAccepted s.cfg bytes = true →
    s.dlr.lastCounter ≠ some (frameCounter bytes) → frameFailsafe bytes = false →
    ∃ t, exec (.radioFrame bytes) s = .next t ∧ t.grt.link = .fresh ∧
      t.grt.freshEnd = some (s.now + s.cfg.dlTimeout * msec) ∧ t.dlr.lastCounter = some (frameCounter bytes) ∧
      t.dlr.raw = some (frameChannels bytes) ∧ t.dlr.asm = .hunting ∧
      (s.cfg.dlChannel f = 0 → t.grt.fns.get f = s.grt.fns.get f ∧
        t.grt.lastDecoded.get f = s.grt.lastDecoded.get f ∧ t.grt.lost.get f = s.grt.lost.get f) ∧
      (s.cfg.dlChannel f ≠ 0 → ∃ v : Int, t.grt.lastDecoded.get f = some v ∧
        (s.holderOf f = .dl → t.grt.fns.get f = { s.grt.fns.get f with value := v }) ∧
        (s.holderOf f = .pd → t.grt.fns.get f = s.grt.fns.get f) ∧
        (s.holderOf f = .ap ∨ s.holderOf f = .fs → s.cfg.allows f .dl = true →
          (f.proportional = true ∧ s.cfg.neutralBand f < v.natAbs) ∨
            (f.proportional = false ∧ s.grt.lastDecoded.get f ≠ none ∧ s.grt.lastDecoded.get f ≠ some v) →
          movedTo .dl v none (s.grt.fns.get f) (t.grt.fns.get f) ∧
          t.grt.lost.get f = (s.grt.lost.get f || s.holderOf f == .ap)) ∧
        (s.holderOf f = .fs → s.cfg.defaultHolder f = some .dl →
          (f.proportional = true ∧ (s.grt.fns.get f).reacquire = true ∧ v.natAbs ≤ s.cfg.neutralBand f) ∨
            f.proportional = false →
          movedTo .dl v none (s.grt.fns.get f) (t.grt.fns.get f)) ∧
        (s.holderOf f = .ap → s.cfg.allows f .dl = false ∨
            (f.proportional = true ∧ v.natAbs ≤ s.cfg.neutralBand f) ∨
            (f.proportional = false ∧
              (s.grt.lastDecoded.get f = none ∨ s.grt.lastDecoded.get f = some v)) →
          t.grt.fns.get f = s.grt.fns.get f ∧ t.grt.lost.get f = s.grt.lost.get f) ∧
        (s.holderOf f = .fs →
          ¬(s.cfg.allows f .dl = true ∧ ((f.proportional = true ∧ s.cfg.neutralBand f < v.natAbs) ∨
            (f.proportional = false ∧ s.grt.lastDecoded.get f ≠ none ∧ s.grt.lastDecoded.get f ≠ some v))) →
          ¬(s.cfg.defaultHolder f = some .dl ∧ ((f.proportional = true ∧ (s.grt.fns.get f).reacquire = true ∧
            v.natAbs ≤ s.cfg.neutralBand f) ∨ f.proportional = false)) →
          t.grt.fns.get f = s.grt.fns.get f ∧ t.grt.lost.get f = s.grt.lost.get f)) ∧
      t.grt.apLost = s.grt.apLost ∧ followsTable s t ∧
      acpPosted s t ∧
      (t.holderOf .winch ≠ s.holderOf .winch →
        t.wch.directEnded ∧ (s.holderOf .winch = .ap → s.queueOk → preempted s t)) ∧
      unchangedBut [.prot, .grt, .drv, .wch, .lgt, .dlr, .acp, .rsc] s t

/-- R140, R141: the value a fresh frame decodes for each function from its channel's raw value, in a copy whose
deadband is below its half-span. -/
def Obligations.ChannelsDecode : Prop :=
  ∀ (s : State) (bytes : List Byte) (f : Fn), s.rsc.run ≠ .sleep → frameAccepted s.cfg bytes = true →
    s.dlr.lastCounter ≠ some (frameCounter bytes) → frameFailsafe bytes = false → s.cfg.dlChannel f ≠ 0 →
    s.cfg.calDeadband (s.cfg.dlChannel f) < s.cfg.calHalfSpan (s.cfg.dlChannel f) →
    let raw := (frameChannels bytes).getD (s.cfg.dlChannel f - 1) 0
    let center := s.cfg.calCenter (s.cfg.dlChannel f)
    let deadband := s.cfg.calDeadband (s.cfg.dlChannel f)
    let span := s.cfg.calHalfSpan (s.cfg.dlChannel f) - deadband
    ∃ t, exec (.radioFrame bytes) s = .next t ∧ t.grt.lastDecoded.get f = some
      (if f.proportional then
        (if ((raw : Int) - center).natAbs ≤ deadband then (0 : Int)
        else if center < raw then (min 1000 ((raw - center - deadband) * 1000 / span) : Nat)
        else -((min 1000 ((center - raw - deadband) * 1000 / span) : Nat) : Int))
      else if f = .gear then (if 2048 ≤ raw then (1 : Int) else 0)
      else if f = .winch then
        (if raw < 1365 then -(s.cfg.dlWinchSpeed : Int) else if 2730 < raw then s.cfg.dlWinchSpeed else 0)
      else if f = .scene then (raw * 8 / 4096 : Nat)
      else (raw / 1024 : Nat))

/-- R137 to R139, R143: a rejected frame changes nothing; an accepted one that is not fresh, or that comes in SLEEP,
leaves the grant table; and a frame that asks for a reply is answered 200 µs later when the transmitter is idle. -/
def Obligations.FrameAcceptance : Prop :=
  ∀ (s : State) (bytes : List Byte), s.dlr.asm = .hunting → s.dlr.gapEnd = none →
    (frameAccepted s.cfg bytes = false → ∃ t, exec (.radioFrame bytes) s = .next t ∧ changesOnly [] s t) ∧
    (frameAccepted s.cfg bytes = true →
      (s.rsc.run = .sleep ∨ s.dlr.lastCounter = some (frameCounter bytes) ∨ frameFailsafe bytes = true) →
      ∃ t, exec (.radioFrame bytes) s = .next t ∧ t.grt = s.grt ∧ t.rsc.wakeEnd = s.wakeSource.rsc.wakeEnd ∧
        t.dlr =
          { s.dlr with
            lastCounter := some (frameCounter bytes), raw := some (frameChannels bytes), reply := t.dlr.reply } ∧
        acpSettled s t ∧ unchangedBut [.dlr, .acp, .rsc] s t) ∧
    (frameAccepted s.cfg bytes = true → ∃ t, exec (.radioFrame bytes) s = .next t ∧
      (s.dlr.reply = .idle → frameReplyReq bytes = true →
        t.dlr.reply = .waiting (frameCounter bytes) (s.now + 200)) ∧
      (s.dlr.reply ≠ .idle ∨ frameReplyReq bytes = false → t.dlr.reply = s.dlr.reply))

/-- R136: the frame assembler's three events. The byte that completes a frame is the command RADIO_FRAME of the bytes
collected, which is the model's reading (log 7). The clock after it is the model's (log 2). -/
def Obligations.AssemblerCollects : Prop :=
  ∀ (s : State) (b : Byte) (held : List Byte) (due : Nat),
    (s.dlr.asm = .hunting → ∃ t, exec (.linkByteReceived b) s = .next t ∧
      t.dlr = (if b = 0xC5 then { s.dlr with asm := .collecting [b], gapEnd := some (s.now + 500) } else s.dlr) ∧
      changesOnly [.dlr] s t) ∧
    (s.dlr.asm = .collecting held → held.length + 1 < 19 → ∃ t, exec (.linkByteReceived b) s = .next t ∧
      t.dlr = { s.dlr with asm := .collecting (held ++ [b]), gapEnd := some (s.now + 500) } ∧ changesOnly [.dlr] s t) ∧
    (s.dlr.asm = .collecting held → held.length + 1 = 19 →
      ∃ t, exec (.linkByteReceived b) s = .next t ∧ exec (.radioFrame (held ++ [b])) s = .next t) ∧
    (∃ t, exec .framingError s = .next t ∧ t.dlr = { s.dlr with asm := .hunting, gapEnd := none } ∧
      changesOnly [.dlr] s t) ∧
    (s.dlr.gapEnd = some due → ∃ t, exec .linkGapTimeout s = .next t ∧ t.now = max s.now due ∧
      t.dlr = { s.dlr with asm := .hunting, gapEnd := none } ∧ changesOnly [.now, .dlr] s t)

/-- R49, R50, R54, R100, R113, R106: the expiry of the radio's freshness and of an accessory lease, each by the failsafe
action of R46, with what the changed table sets off: an order ACTIVE when WINCH's lease expires is preempted, and where
WINCH changes its holder the direct stall hold and timers end. The clock after it is the model's (log 2). -/
def Obligations.FreshnessAndLeaseExpire : Prop :=
  ∀ (s : State) (f : Fn) (due : Nat),
    (s.grt.freshEnd = some due → ∃ t, exec .dlFreshnessExpiry s = .next t ∧ t.now = max s.now due ∧
      t.grt = { s.grt with fns := t.grt.fns, link := .lost, freshEnd := none } ∧
      (s.holderOf f = .dl →
        passedToFs s.cfg f (if s.cfg.holds f then s.valueOf f else 0) (s.grt.fns.get f) (t.grt.fns.get f)) ∧
      (s.holderOf f ≠ .dl → t.grt.fns.get f = s.grt.fns.get f) ∧ t.faultLatched .dlLost = true ∧ acpSettled s t ∧
      followsTable s t ∧ (s.holderOf .winch = .dl → t.wch.directEnded) ∧ t.wch.slots = s.wch.slots ∧
      unchangedBut [.now, .prot, .grt, .drv, .wch, .lgt, .acp, .rsc] s t) ∧
    ((s.grt.fns.get f).lease = some due → s.holderOf f = .ap → ∃ t, exec (.apLeaseExpiry f) s = .next t ∧
      t.now = max s.now due ∧
      passedToFs s.cfg f (if s.cfg.holds f then s.valueOf f else 0) (s.grt.fns.get f) (t.grt.fns.get f) ∧
      (∀ g, g ≠ f → t.grt.fns.get g = s.grt.fns.get g) ∧ t.grt = { s.grt with fns := t.grt.fns, apLost := true } ∧
      t.faultLatched .apLost = true ∧ acpPosted s t ∧ followsTable s t ∧
      (f = .winch → t.wch.directEnded ∧ (s.queueOk → preempted s t)) ∧
      unchangedBut [.now, .prot, .grt, .drv, .wch, .lgt, .acp, .rsc] s t)

/-- R142, R143 and Table 11-2: the reply is built when it begins, takes 500 µs, and leaves the transmitter idle. A
Vmin that is negative is sent as two's complement (log 12). The clock after it is the model's (log 2). -/
def Obligations.ReplySent : Prop :=
  ∀ (s : State) (counter due : Nat) (bytes : List Byte),
    (s.dlr.reply = .waiting counter due → counter < 16 → ∃ t, exec .replyTimerExpiry s = .next t ∧
      t.now = max s.now due ∧ t.dlr = { s.dlr with reply := t.dlr.reply } ∧
      t.dlr.reply = .sending t.linkOut (t.now + 500) ∧ t.linkOut.length = 10 ∧ t.linkOut.getD 0 0 = 0xC6 ∧
      (t.linkOut.getD 1 0).toNat = counter ∧
      (t.linkOut.drop 2).take 2 = word16 (BitVec.ofInt 16 ((s.published .packVoltage).getD 0)).toNat ∧
      (t.linkOut.drop 4).take 2 = word16 (BitVec.ofInt 16 (s.pmon.vmin.getD 0)).toNat ∧
      (∀ i : Nat, s.published .packCurrent = some (i : Int) → (t.linkOut.getD 6 0).toNat = min 255 (i / 100)) ∧
      (s.published .packCurrent = none → t.linkOut.getD 6 0 = 0) ∧
      (∀ c : Int, s.published .packTemp = some c →
        ((t.linkOut.getD 7 0).toNat : Int) = max 0 (min 254 (c + 40))) ∧
      (s.published .packTemp = none → t.linkOut.getD 7 0 = 255) ∧
      (t.linkOut.getD 8 0).toNat = s.prot.st.code + 4 * s.rsc.run.code + (if s.acp.latched = 0 then 0 else 128) ∧
      t.linkOut.getD 9 0 = crc8 ((t.linkOut.drop 1).take 8) ∧
      changesOnly [.now, .dlr] s t) ∧
    (s.dlr.reply = .sending bytes due → ∃ t, exec .replySent s = .next t ∧ t.now = max s.now due ∧
      t.dlr = { s.dlr with reply := .idle } ∧ changesOnly [.now, .dlr] s t)

/-- R144, R145, R61, R62, R100, R113: an edge restarts the settle timer; at its end the line's level becomes the debounced state
and a change is presented, waking the part in SLEEP and moving WINCH elsewhere: to PD while a button is pressed and PD is
allowed, its lease and its reacquire flag gone at a takeover, and back at the release of both. A takeover from AP preempts an
ACTIVE order, and any change of the holder ends the direct stall hold and timers. A clamp of the drive by a
WINCH_DRIVE_CAP of 0 (log 19) and the clock after the command (log 2) are the model's. -/
def Obligations.PendantTakesTheWinch : Prop :=
  ∀ (s : State) (line : PendantLine) (low : Bool) (due : Nat),
    (∃ t, exec (.pendantEdge line low) s = .next t ∧ t.pnd.settleEnd line = some (s.now + 20 * msec) ∧
      (∀ l, t.pnd.pressed l = s.pnd.pressed l) ∧ t.lines.low line = low ∧
      (∀ l, l ≠ line → t.pnd.settleEnd l = s.pnd.settleEnd l ∧ t.lines.low l = s.lines.low l) ∧
      changesOnly [.lines, .pnd] s t) ∧
    (s.pnd.settleEnd line = some due → s.pnd.pressed line = s.lines.low line →
      ∃ t, exec (.pendantSettleExpiry line) s = .next t ∧ t.now = max s.now due ∧ t.pnd.settleEnd line = none ∧
        (∀ l, t.pnd.pressed l = s.pnd.pressed l) ∧ changesOnly [.now, .pnd] s t) ∧
    (s.pnd.settleEnd line = some due → s.pnd.pressed line ≠ s.lines.low line →
      ∃ t, exec (.pendantSettleExpiry line) s = .next t ∧ t.now = max s.now due ∧ t.pnd.settleEnd line = none ∧
        t.pnd.pressed line = s.lines.low line ∧ (∀ l, l ≠ line → t.pnd.pressed l = s.pnd.pressed l) ∧
        (s.rsc.run = .sleep → t.grt = s.grt ∧ t.rsc.run = .sleep ∧
          t.rsc.wakeEnd =
            if s.lines.low line ∧ s.rsc.wakeEnd = none then some (t.now + 5 * msec) else s.rsc.wakeEnd) ∧
        (s.rsc.run ≠ .sleep → s.cfg.allows .winch .pd = true → t.pnd.inPressed = true ∨ t.pnd.outPressed = true →
          let v : Int := if t.pnd.inPressed = true ∧ t.pnd.outPressed = false then -(s.cfg.pdSpeed : Int)
            else if t.pnd.inPressed = false ∧ t.pnd.outPressed = true then s.cfg.pdSpeed else 0
          (s.holderOf .winch ≠ .pd → movedTo .pd v none (s.grt.fns.get .winch) (t.grt.fns.get .winch)) ∧
          (s.holderOf .winch = .pd → t.grt.fns.get .winch = { s.grt.fns.get .winch with value := v }) ∧
          t.grt.lost.get .winch = (s.grt.lost.get .winch || s.holderOf .winch == .ap) ∧
          (s.queueOk → preempted s t)) ∧
        (s.rsc.run ≠ .sleep → s.cfg.allows .winch .pd = false → t.pnd.inPressed = true ∨ t.pnd.outPressed = true →
          t.grt = s.grt) ∧
        (s.rsc.run ≠ .sleep → t.pnd.inPressed = false → t.pnd.outPressed = false → s.holderOf .winch ≠ .pd →
          t.grt = s.grt) ∧
        (s.rsc.run ≠ .sleep → followsTable s t) ∧ (s.rsc.run = .sleep → t.acp.orderDone = s.acp.orderDone) ∧
        (t.holderOf .winch ≠ s.holderOf .winch → t.wch.directEnded) ∧ acpPosted s t ∧
        (s.rsc.run ≠ .sleep → t.pnd.inPressed = false → t.pnd.outPressed = false → s.holderOf .winch = .pd →
          (∀ v, s.cfg.defaultHolder .winch = some .dl → s.grt.link = .fresh → s.grt.lastDecoded.get .winch = some v →
            movedTo .dl v none (s.grt.fns.get .winch) (t.grt.fns.get .winch)) ∧
          (¬(s.cfg.defaultHolder .winch = some .dl ∧ s.grt.link = .fresh ∧ s.grt.lastDecoded.get .winch ≠ none) →
            passedToFs s.cfg .winch 0 (s.grt.fns.get .winch) (t.grt.fns.get .winch))) ∧
        (∀ g, g ≠ .winch → t.grt.fns.get g = s.grt.fns.get g ∧ t.grt.lost.get g = s.grt.lost.get g) ∧
        t.grt = { s.grt with fns := t.grt.fns, lost := t.grt.lost } ∧
        unchangedBut [.now, .prot, .grt, .drv, .wch, .lgt, .pnd, .acp, .rsc] s t)

/-! ### The winch (chapter 5) -/

/-- R102, R103, R101: WINCH_POST. `m` is how many slots round the ring, from the one after the newest post or after the
last-posted slot, the first EMPTY one lies. In SLEEP it is refused. -/
def Obligations.OrderPosted : Prop :=
  ∀ (s : State) (k hi lo turns timeout noRetry : Byte) (m : Fin 4), s.portOpen →
    let newest := s.wch.postList.getLast?.getD s.wch.lastPosted
    (∀ kind : OrderKind, s.rsc.run ≠ .sleep → kind.code = k.toNat →
      (kind = .haulTurns ∨ kind = .payoutTurns → turns ≠ 0) → timeout ≠ 0 →
      s.wch.slots.get (newest + 1 + m) = none → (∀ n : Fin 4, n < m → s.wch.slots.get (newest + 1 + n) ≠ none) →
      ∃ t, exec (.winchPost [k, hi, lo, turns, timeout, noRetry]) s = .next t ∧
        t.wch =
          { s.wch with
            slots := s.wch.slots.set (newest + 1 + m) (some
              { kind := kind, speed := max 100 (min 1000 (hi.toNat * 256 + lo.toNat))
                turns := if kind = .haulTurns ∨ kind = .payoutTurns then some turns.toNat else none
                timeout := timeout.toNat, noRetry := decide (noRetry ≠ 0), phase := .posted, result := none
                turnsDone := 0, retriesUsed := 0 })
            postList := s.wch.postList ++ [newest + 1 + m]
            lastPosted := newest + 1 + m } ∧
        answersWith [.wch] s t
          (if 100 ≤ hi.toNat * 256 + lo.toNat ∧ hi.toNat * 256 + lo.toNat ≤ 1000 then .ok else .okClamped)
          [byteOf (newest + 1 + m).val]) ∧
    (s.rsc.run ≠ .sleep → 3 < k.toNat ∨ (2 ≤ k.toNat ∧ turns = 0) ∨ timeout = 0 →
      ∃ t, exec (.winchPost [k, hi, lo, turns, timeout, noRetry]) s = .next t ∧ answersWith [] s t .badValue [0xFF]) ∧
    (s.rsc.run ≠ .sleep → k.toNat ≤ 3 → ¬(2 ≤ k.toNat ∧ turns = 0) → timeout ≠ 0 → (∀ i, s.wch.slots.get i ≠ none) →
      ∃ t, exec (.winchPost [k, hi, lo, turns, timeout, noRetry]) s = .next t ∧ answersWith [] s t .queueFull [0xFF]) ∧
    (s.rsc.run = .sleep → ∃ t, exec (.winchPost [k, hi, lo, turns, timeout, noRetry]) s = .next t ∧
      answersWith [] s t .refusedState [0xFF])

/-- R102, R106, R114, R115, R71 and Table 11-5: WINCH_CANCEL ends a POSTED or ACTIVE order; WINCH_REAP takes the oldest
finished order of the post list. In SLEEP both are refused. -/
def Obligations.OrderCancelledAndReaped : Prop :=
  ∀ (s : State) (i : Fin 4) (b : Byte) (before after : List (Fin 4)), s.portOpen →
    (s.rsc.run ≠ .sleep →
      (∀ o, s.wch.slots.get i = some o → o.finished = false → ∃ t, exec (.winchCancel [byteOf i.val]) s = .next t ∧
        t.wch.slots = s.wch.slots.set i (some { o with phase := .failed, result := some .cancelled }) ∧
        t.wch.postList = s.wch.postList ∧ t.wch.runFlag = false ∧ t.acp.orderDone = true ∧
        (o.isActive = true → t.wch.duty = 0 ∧ t.wch.moving = false ∧ t.wch.pwm = 0) ∧
        (o.isActive = false → t.wch.duty = s.wch.duty ∧ t.wch.pwm = s.wch.pwm) ∧
        (∀ f, t.grt.fns.get f =
          if f = .winch ∧ s.holderOf .winch = .ap then { s.grt.fns.get f with value := 0 } else s.grt.fns.get f) ∧
        t.acp =
          { s.acp with
            status := .ok, data := [], orderDone := true, latched := s.acp.latched ||| faultWord t.faultActive } ∧
        driveFollows s t ∧ unchangedBut [.grt, .wch, .drv, .acp, .rsc] s t) ∧
      ((∀ o, s.wch.slots.get i = some o → o.finished = true) → ∃ t, exec (.winchCancel [byteOf i.val]) s = .next t ∧
        answersWith [] s t .badValue []) ∧
      (3 < b.toNat → ∃ t, exec (.winchCancel [b]) s = .next t ∧ answersWith [] s t .badValue []) ∧
      (∀ o, s.wch.slots.get i = some o → s.wch.postList = before ++ i :: after → s.wch.postList.Nodup →
        o.finished = true → (∀ j ∈ before, (s.wch.slots.get j).any Order.finished = false) →
        ∃ t, exec (.winchReap []) s = .next t ∧
          t.wch = { s.wch with slots := s.wch.slots.set i none, postList := before ++ after } ∧
          answersWith [.wch] s t .ok (byteOf i.val :: orderBytes o)) ∧
      ((∀ j ∈ s.wch.postList, (s.wch.slots.get j).any Order.finished = false) →
        ∃ t, exec (.winchReap []) s = .next t ∧ answersWith [] s t .badValue [])) ∧
    (s.rsc.run = .sleep → (∃ t, exec (.winchCancel [b]) s = .next t ∧ answersWith [] s t .refusedState []) ∧
      ∃ t, exec (.winchReap []) s = .next t ∧ answersWith [] s t .refusedState [])

/-- R116: "WINCH_RESUME sets the run flag and completes with OK", whatever the flag, the queue and the holder, and
has no other effect: no order starts. The common checks of R102 and R147 come first: in SLEEP it is refused. -/
def Obligations.QueueResumed : Prop :=
  ∀ s : State, s.portOpen →
    (s.rsc.run ≠ .sleep → ∃ t, exec (.winchResume []) s = .next t ∧
      t.wch = { s.wch with runFlag := true } ∧ answersWith [.wch] s t .ok []) ∧
    (s.rsc.run = .sleep → ∃ t, exec (.winchResume []) s = .next t ∧ answersWith [] s t .refusedState [])

/-- R40, R96 to R98, R105, R109 to R112, R169, R26, R71: a winch step, but for the start of an order. Under direct drive
the duty is the WINCH value within the speed cap, stopped at the line limit, by the direct stall hold and by a stall found.
While AP holds WINCH and no order is ACTIVE or may start, the motor stands and the WINCH value is 0. An ACTIVE order, which
AP's hold of WINCH goes with (R113), is taken through its checks, in a retry pause too, and driven. The drive follows the
moving flag. That the demand is 0 where R97 would not drive (CUTOFF, LOCKOUT, the line limit), that the end of the hold is
judged before the duty is formed, and that the drive direction follows the duty the step ends with are the model's reading
(log 16), and so are which orders an arm acts on (log 21) and a clamp by a WINCH_DRIVE_CAP of 0 (log 19). The clock after it
is the model's (log 2). -/
def Obligations.WinchStepFormsTheDuty : Prop :=
  ∀ s : State,
    (s.holderOf .winch ≠ .ap → s.wch.active = none → ∃ t, exec .winchStep s = .next t ∧
      t.now = max s.now s.wch.nextStep ∧ t.wch.nextStep = t.now + 10 * msec ∧ directStepped s t) ∧
    (s.holderOf .winch = .ap → s.wch.active = none →
      (∀ i o, s.wch.slots.get i = some o → o.phase ≠ .posted) ∨ s.wch.runFlag = false ∨
        ¬(s.countedRunning = true ∧ (s.prot.st = .normal ∨ s.prot.st = .warn) ∧ s.countedClosed = true ∧
          s.cfg.winchEn = true) →
      ∃ t, exec .winchStep s = .next t ∧ t.now = max s.now s.wch.nextStep ∧ t.wch.nextStep = t.now + 10 * msec ∧
        winchDriven s t False 0 ∧ t.wch.demand = 0 ∧ t.wch.slots = s.wch.slots ∧
        (∀ f, t.grt.fns.get f =
          if f = .winch then { s.grt.fns.get f with value := 0 } else s.grt.fns.get f) ∧
        changesOnly [.now, .grt, .wch, .drv] s t) ∧
    ∀ (i : Fin 4) (o : Order) (r : OrderRun), s.holderOf .winch = .ap → s.wch.active = some (i, o, r) →
      (∀ j, s.wch.activeAt j → j = i) → ∃ t, exec .winchStep s = .next t ∧
        t.now = max s.now s.wch.nextStep ∧ t.wch.nextStep = t.now + 10 * msec ∧ orderStepped s t i o r

/-- R104, R105, R96, R97, R109, R112, R169, R71: at a winch step the oldest POSTED order of the post list becomes ACTIVE, and
drives from that step within the speed cap, the drive following the moving flag; with the stall arm set it finds a stall at
that step where it forms a duty. A starved time at STARVE_T ends it at the same step, and a paying-out order at the line
limit ends FAILED/LINE_END at once. That the step of the start is a step the arm acts at (log 21), a clamp by a
WINCH_DRIVE_CAP of 0 (log 19) and the clock after the command (log 2) are the model's. -/
def Obligations.OrderStarts : Prop :=
  ∀ (s : State) (i : Fin 4) (o : Order) (before after : List (Fin 4)),
    s.wch.postList = before ++ i :: after → s.wch.slots.get i = some o → o.phase = .posted →
    (∀ j ∈ before, (s.wch.slots.get j).any (fun p => p.phase == .posted) = false) → s.wch.active = none →
    s.wch.runFlag = true → s.holderOf .winch = .ap → s.countedRunning = true →
    s.prot.st = .normal ∨ s.prot.st = .warn → s.countedClosed = true → s.cfg.winchEn = true → 0 < o.timeout →
    let blocked := (o.kind = .payout ∨ o.kind = .payoutTurns) ∧ s.wch.referenced = true ∧
      ((s.cfg.lineMax * s.cfg.pulsesPerTurn : Nat) : Int) ≤ s.wch.linePos
    (¬blocked → s.bgt.starved.get .winch < s.cfg.starveT → ∃ t, exec .winchStep s = .next t ∧
      t.now = max s.now s.wch.nextStep ∧ t.wch.nextStep = t.now + 10 * msec ∧
      orderCarried s t i o
        { startTime := t.now, pulseCount := 0, pauseStart := none, currentTimer := none, drumTimer := none
          armed := s.wch.stallArm }) ∧
    (¬blocked → s.cfg.starveT ≤ s.bgt.starved.get .winch → ∃ t, exec .winchStep s = .next t ∧
      orderEnded s t i o .starved ∧ t.faultLatched .winchStarved = true) ∧
    (blocked → ∃ t, exec .winchStep s = .next t ∧ orderEnded s t i o .lineEnd)

/-- R106, R108, R112: the two ends a winch step finds before it forms a duty, the timeout first. A timeout ends a _TURNS
order FAILED/TIMEOUT and an open-ended one DONE/OK; starvation ends either FAILED/STARVED. Each is the winch step that
finds it, as an event of its own (log 3). The clock after it is the model's (log 2). -/
def Obligations.OrderTimesOutOrStarves : Prop :=
  ∀ (s : State) (i : Fin 4) (o : Order) (r : OrderRun), s.wch.active = some (i, o, r) → s.holderOf .winch = .ap →
    (∀ j, s.wch.activeAt j → j = i) →
    let deadline := r.startTime + o.timeout * 100 * msec
    let timedOut : OrderResult := if o.kind = .haulTurns ∨ o.kind = .payoutTurns then .timeout else .ok
    (∃ t, exec .orderTimeout s = .next t ∧ t.now = max s.now deadline ∧ orderEnded s t i o timedOut) ∧
    (s.cfg.starveT ≤ s.bgt.starved.get .winch → ∃ t, exec .orderStarved s = .next t ∧ t.now = s.now ∧
      (deadline ≤ s.now → orderEnded s t i o timedOut) ∧
      (s.now < deadline → orderEnded s t i o .starved ∧ t.faultLatched .winchStarved = true ∧
        t.faultActive .winchStarved = false))

/-- R109 to R111, R26, R40, R97: either stall check of the ACTIVE order, its timer having run its time at a step that
forms a non-zero duty, begins a retry pause or ends the order FAILED/STALL; at a step that forms a duty of 0 no stall is
found and the timers stop. The end of the pause forms the duty again, in the same direction, within the cap of the present
grant, a timeout and a starvation judged first. Under direct drive either check makes the hold present. Each is the winch
step that finds it, as an event of its own (log 3). Where the moving flag rises at the end of a pause, a clamp by a
WINCH_DRIVE_CAP of 0 (its direction NONE) is the model's choice (log 19), and so is the clock after the command (log 2). -/
def Obligations.StallsHandled : Prop :=
  ∀ (s : State) (i : Fin 4) (o : Order) (r : OrderRun) (start : Nat),
    let currentDue := max s.now (start + s.cfg.stallT * msec)
    let drumDue := max s.now (max start (s.wch.lastPulse.getD 0) + s.cfg.noPulseT * msec)
    let estimateHigh := ∃ pack : Int, s.published .packCurrent = some pack ∧
      ∃ rail : Int, s.published .servoCurrent = some rail ∧
        (s.cfg.stallI : Int) ≤ pack - rail - s.cfg.baseLoad - s.grantFor .drive - s.grantFor .lights
    (s.wch.active = some (i, o, r) → s.holderOf .winch = .ap → (∀ j, s.wch.activeAt j → j = i) →
      s.bgt.starved.get .winch < s.cfg.starveT → r.pauseStart = none →
      (r.drumTimer = some start → drumDue < r.startTime + o.timeout * 100 * msec →
        ∃ t, exec .drumCheckStall s = .next t ∧ t.now = drumDue ∧ orderStalled s t i o r) ∧
      (r.currentTimer = some start → estimateHigh → currentDue < r.startTime + o.timeout * 100 * msec →
        ∃ t, exec .currentCheckStall s = .next t ∧ t.now = currentDue ∧ orderStalled s t i o r)) ∧
    (s.wch.active = some (i, o, r) → s.holderOf .winch = .ap → (∀ j, s.wch.activeAt j → j = i) →
      r.pauseStart = some start → r.currentTimer = none → r.drumTimer = none → r.armed = false →
      ∃ t, exec .retryPauseEnd s = .next t ∧ t.now = max s.now (start + s.cfg.retryPause * msec) ∧
        (r.startTime + o.timeout * 100 * msec ≤ t.now → orderEnded s t i o
          (if o.kind = .haulTurns ∨ o.kind = .payoutTurns then .timeout else .ok)) ∧
        (t.now < r.startTime + o.timeout * 100 * msec → s.cfg.starveT ≤ s.bgt.starved.get .winch →
          orderEnded s t i o .starved) ∧
        (t.now < r.startTime + o.timeout * 100 * msec → s.bgt.starved.get .winch < s.cfg.starveT →
          t.wch.slots = s.wch.slots.set i (some
            { o with
              phase := .active
                { r with
                  pauseStart := none
                  currentTimer := if t.wch.duty ≠ 0 ∧ s.estimateHigh = true then some t.now else none
                  drumTimer := if t.wch.duty ≠ 0 then some t.now else none } }) ∧
          t.wch.speedCap = min 1000 (1000 * s.grantFor .winch / s.cfg.winchRated) ∧
          (s.winchOpen o → t.wch.duty = max (-(t.wch.speedCap : Int)) (min t.wch.speedCap o.signedSpeed)) ∧
          (¬s.winchOpen o → t.wch.duty = 0) ∧ t.valueOf .winch = o.signedSpeed ∧ driveFollows s t ∧
          changesOnly [.now, .grt, .wch, .drv] s t)) ∧
    (s.wch.active = none → s.holderOf .winch ≠ .ap → s.wch.stallHold = false →
      (s.wch.directCurrent = some start → estimateHigh → ∃ t, exec .currentCheckStall s = .next t ∧
        t.now = currentDue ∧ directStalled s t) ∧
      (s.wch.directDrum = some start → ∃ t, exec .drumCheckStall s = .next t ∧
        t.now = drumDue ∧ directStalled s t))

/-- R93 to R95, R106, R107, R168, R71, R102: what a drum pulse counts, where it ends an order (its turns reached, or the line
limit), and how WINCH_ZERO references the line, refused in SLEEP. A pulse of the injected series is taken as a real one; in
BENCH-DRY the real input is not counted. With the drive direction NONE no pulse is. That a count which passes an order's
turns ends it (log 37) and the clock after the command (log 2) are the model's. -/
def Obligations.DrumPulsesCount : Prop :=
  ∀ s : State,
    (s.rsc.run ≠ .benchDry → s.wch.dir ≠ .none → ∃ t, exec .drumPulse s = .next t ∧ t.now = s.now ∧
      t.wch.nextBenchPulse = s.wch.nextBenchPulse ∧ pulseCounted s t) ∧
    (s.rsc.run = .benchDry ∨ s.wch.dir = .none → ∃ t, exec .drumPulse s = .next t ∧ changesOnly [] s t) ∧
    (∀ due, s.wch.nextBenchPulse = some due → ∃ t, exec .benchDrumPulse s = .next t ∧ t.now = max s.now due ∧
      t.wch.nextBenchPulse = some (t.now + 1000000 / s.wch.drumRate) ∧ (s.wch.dir ≠ .none → pulseCounted s t) ∧
      (s.wch.dir = .none → t.wch = { s.wch with nextBenchPulse := t.wch.nextBenchPulse } ∧
        changesOnly [.now, .wch] s t)) ∧
    (s.portOpen → s.rsc.run ≠ .sleep →
      (s.wch.active = none → s.wch.duty = 0 → ∃ t, exec (.winchZero []) s = .next t ∧
        t.wch = { s.wch with linePos := 0, referenced := true } ∧ answersWith [.wch] s t .ok []) ∧
      (s.wch.active ≠ none ∨ s.wch.duty ≠ 0 → ∃ t, exec (.winchZero []) s = .next t ∧
        answersWith [] s t .refusedState [])) ∧
    (s.portOpen → s.rsc.run = .sleep → ∃ t, exec (.winchZero []) s = .next t ∧ answersWith [] s t .refusedState [])

/-! ### Pack monitor and protection (chapter 1) -/

/-- R1 to R6: what a sample set does to each window, each mean, the cells, Vmin and the bands. A real sample is the
raw one through the calibration, whose conversions are left open (log 4), within its reading range. The bands are
those of the bench save where the sample set's own LOCKOUT has left the bench (R171, log 27). The clock after it is the
model's (log 2). -/
def Obligations.MonitorPublishes : Prop :=
  ∀ (s : State) (raw : PerQuantity Int), ∃ t, exec (.sampleSet raw) s = .next t ∧
    t.now = max s.now s.pmon.nextSample ∧ t.pmon.nextSample = t.now + 2 * msec ∧
    (∀ q : Quantity,
      let old := s.pmon.chan.get q
      let new := t.pmon.chan.get q
      let y := s.rsc.cal.sample q (raw.get q)
      q.range.1 ≤ y ∧ y ≤ q.range.2 ∧ (old.substituted = true → new.window = old.window) ∧
      (old.substituted = false →
        (old.refill = true → new.window = List.replicate q.depth y) ∧
        (old.refill = false → old.window.length < q.depth → new.window = old.window ++ [y]) ∧
        (old.refill = false → old.window.length = q.depth → new.window = old.window.drop 1 ++ [y])) ∧
      (new.window.length = q.depth → new.published = some (new.window.sum.tdiv q.depth)) ∧
      (new.window.length ≠ q.depth → new.published = old.published)) ∧
    (∀ a : Int, t.published .tap1 = some a → ∀ b : Int, t.published .tap2 = some b →
      ∀ c : Int, t.published .tap3 = some c → ∀ d : Int, t.published .tap4 = some d →
        t.pmon.cells = [a, b - a, c - b, d - c].take s.cfg.cells ∧
        (t.pmon.tapFault = true ↔ ∃ v ∈ t.pmon.cells, v < 1000 ∨ 4600 < v) ∧
        (t.pmon.tapFault = false → 0 < s.cfg.cells →
          ∃ m : Int, t.pmon.vmin = some m ∧ m ∈ t.pmon.cells ∧ ∀ v ∈ t.pmon.cells, m ≤ v) ∧
        (∀ v : Int, t.published .packVoltage = some v → t.pmon.tapFault = true →
          t.pmon.vmin = some (v.fdiv s.cfg.cells)) ∧
        (t.published .packVoltage = none → t.pmon.tapFault = true → t.pmon.vmin = s.pmon.vmin)) ∧
    (t.published .tap1 = none ∨ t.published .tap2 = none ∨ t.published .tap3 = none ∨ t.published .tap4 = none →
      t.pmon.cells = s.pmon.cells ∧ t.pmon.tapFault = s.pmon.tapFault ∧ t.pmon.vmin = s.pmon.vmin) ∧
    (s.rsc.save = none ∨ t.rsc.run = s.rsc.run →
      (∀ temp : Int, t.published .packTemp = some temp →
        t.pmon.packSensor = decide (temp < -40 ∨ 150 < temp) ∧ (t.pmon.packSensor = true → t.pmon.packBand = 3) ∧
        (t.pmon.packSensor = false →
          bandFollows s.cfg.ptThreshold s.cfg.ptHys temp s.pmon.packBand t.pmon.packBand)) ∧
      (∀ temp : Int, t.published .motorTemp = some temp →
        t.pmon.motorSensor = decide (temp < -40 ∨ 150 < temp) ∧ (t.pmon.motorSensor = true → t.pmon.motorBand = 3) ∧
        (t.pmon.motorSensor = false →
          bandFollows s.cfg.mtThreshold s.cfg.mtHys temp s.pmon.motorBand t.pmon.motorBand)) ∧
      (t.published .packTemp = none → t.pmon.packSensor = s.pmon.packSensor ∧ t.pmon.packBand = s.pmon.packBand) ∧
      (t.published .motorTemp = none →
        t.pmon.motorSensor = s.pmon.motorSensor ∧ t.pmon.motorBand = s.pmon.motorBand)) ∧
    unchangedBut [.now, .pmon, .prot, .bgt, .grt, .drv, .str, .wch, .lgt, .acp, .rsc] s t

/-- R3, R7 to R9, R11, R12, R99, R113: the protection state at a sample set. Where Vmin is published, every dwell timer is
judged on it, and the most severe transition that is due is taken; a TAP fault found moves NORMAL to WARN at once. That it
yields to a cut or crit timer that completes at the same sample set is the model's choice (log 34). Entry to CUTOFF or
LOCKOUT stops the winch at once and preempts an ACTIVE order (R99, R113). -/
def Obligations.ProtectionFollowsVmin : Prop :=
  ∀ (s : State) (raw : PerQuantity Int), ∃ t, exec (.sampleSet raw) s = .next t ∧
    let taps := t.published .tap1 ≠ none ∧ t.published .tap2 ≠ none ∧ t.published .tap3 ≠ none ∧ t.published .tap4 ≠ none
    let publishes := taps ∧
      ((t.pmon.tapFault = false ∧ 0 < s.cfg.cells) ∨ (t.pmon.tapFault = true ∧ t.published .packVoltage ≠ none))
    (∀ v : Int, t.pmon.vmin = some v → publishes →
      let true' := s.dwellTrue v t.pmon.tapFault t.now
      let due := fun k => true' k ∧ s.dwellRun t.now k
      let warns := due .warnEntry ∨ due .rearm ∨ (t.pmon.tapFault = true ∧ s.prot.st = .normal)
      let timed := fun k => (true' k → t.prot.dwell.get k = some ((s.prot.dwell.get k).getD t.now)) ∧
        (¬true' k → t.prot.dwell.get k = none)
      (due .crit → s.rsc.save = none ∨ s.rsc.run = .benchDry ∨ s.rsc.run = .benchWet → t.prot.st = .lockout) ∧
      (due .crit ∨ due .cut → t.wch.duty = 0 ∧ t.wch.moving = false ∧ t.wch.pwm = 0 ∧ (s.queueOk → preempted s t)) ∧
      (¬due .crit → due .cut → t.prot.st = .cutoff ∧ t.prot.cause = some .lowVolt ∧ t.prot.tripTime = none ∧
        t.prot.sw = s.prot.sw ∧ timed .crit ∧ t.prot.dwell.get .rearm = none) ∧
      (¬due .crit → ¬due .cut → warns → t.prot.st = .warn ∧ t.prot.cause = none ∧ t.prot.tripTime = none ∧
        timed .cut ∧ timed .crit ∧
        t.prot.dwell.get .warnExit = none ∧ changesOnly [.now, .pmon, .prot] s t) ∧
      (¬due .crit → ¬due .cut → ¬warns → due .warnExit → t.prot.st = .normal ∧
        timed .cut ∧ timed .crit ∧
        t.prot.dwell.get .warnEntry = none ∧ changesOnly [.now, .pmon, .prot] s t) ∧
      (¬due .crit → ¬due .cut → ¬warns → ¬due .warnExit →
        (∀ k, timed k) ∧
        t.prot =
          { s.prot with dwell := t.prot.dwell, throttleRested := decide (s.valueOf .throttle = 0) } ∧
        changesOnly [.now, .pmon, .prot] s t)) ∧
    (¬publishes →
      (taps → t.pmon.tapFault = true → s.prot.st = .normal → t.prot.st = .warn) ∧
      (¬taps ∨ t.pmon.tapFault = false ∨ s.prot.st ≠ .normal → t.prot = s.prot) ∧
      changesOnly [.now, .pmon, .prot] s t)

/-- R7 to R9, R11, R12, R38, R71, R73, R78, R99, R113: the completion of each dwell timer (WARN_ENTRY_COMPLETE,
WARN_EXIT_COMPLETE, CUT_TIMER_COMPLETE, CRIT_TIMER_COMPLETE, REARM_TIMER_COMPLETE), as an event of its own at the end of its
dwell (log 3), where the timer runs and its condition holds of the latest Vmin. Whichever is named, the most severe target of
the timers that have run by then is taken. What LOCKOUT does at once in BENCH-DRY is the model's reading of R170 (log 18), a
band restored beside an active sensor fault the model's too (log 27), and so is the clock after the command (log 2). -/
def Obligations.DwellTimersComplete : Prop :=
  ∀ (s : State) (start : Nat) (v : Int), s.pmon.vmin = some v →
    (s.prot.dwell.warnEntry = some start → s.dwellTrue v s.pmon.tapFault s.now .warnEntry →
      ∃ t, exec .warnEntryComplete s = .next t ∧ dwellCompleted s t v .warnEntry start) ∧
    (s.prot.dwell.warnExit = some start → s.dwellTrue v s.pmon.tapFault s.now .warnExit →
      ∃ t, exec .warnExitComplete s = .next t ∧ dwellCompleted s t v .warnExit start) ∧
    (s.prot.dwell.cut = some start → s.dwellTrue v s.pmon.tapFault s.now .cut →
      ∃ t, exec .cutTimerComplete s = .next t ∧ dwellCompleted s t v .cut start) ∧
    (s.prot.dwell.crit = some start → s.dwellTrue v s.pmon.tapFault s.now .crit →
      ∃ t, exec .critTimerComplete s = .next t ∧ dwellCompleted s t v .crit start) ∧
    (s.prot.dwell.rearm = some start → s.dwellTrue v s.pmon.tapFault s.now .rearm →
      ∃ t, exec .rearmTimerComplete s = .next t ∧ dwellCompleted s t v .rearm start)

/-- R10, R12, R19, R21, R171: the over-current line, its assertion judged by the protection state while the switch is
CLOSED or counted as CLOSED, and by the precharge in flight, whose failure in BENCH-WET leaves the bench; and its
release. What LOCKOUT does at once in BENCH-DRY is the model's reading of R170 (log 18), and so is a band restored beside
an active sensor fault (log 27). -/
def Obligations.OverCurrentTrips : Prop :=
  ∀ s : State,
    (s.lines.ocTrip = false → s.countedClosed = true →
      (s.prot.st = .normal ∨ s.prot.st = .warn → ∃ t, exec .ocTripAssert s = .next t ∧
        cutOff s t .hardTrip (some s.now) ∧ t.now = s.now ∧ t.lines = { s.lines with ocTrip := true } ∧
        t.faultLatched .hardTrip = true) ∧
      (s.prot.st = .cutoff → s.prot.cause ≠ some .hardTrip → ∃ t, exec .ocTripAssert s = .next t ∧
        t.prot =
          { s.prot with
            cause := some .hardTrip, tripTime := some s.now, dwell := { s.prot.dwell with rearm := none } } ∧
        t.lines = { s.lines with ocTrip := true } ∧ t.faultLatched .hardTrip = true ∧ changesOnly [.lines, .prot] s t) ∧
      (s.prot.st = .cutoff → s.prot.cause = some .hardTrip → ∃ t, exec .ocTripAssert s = .next t ∧ lockedOut s t ∧
        t.lines = { s.lines with ocTrip := true } ∧ t.now = s.now) ∧
      (s.prot.st = .lockout → ∃ t, exec .ocTripAssert s = .next t ∧ t.lines = { s.lines with ocTrip := true } ∧
        changesOnly [.lines] s t)) ∧
    (s.lines.ocTrip = false → s.countedClosed = false → s.prot.sw = .precharging → ∃ t,
      exec .ocTripAssert s = .next t ∧ t.prot.sw = .opened ∧ t.prot.prechargeEnd = none ∧
        t.faultLatched .hardTrip = true ∧ t.faultLatched .prechargeFail = true ∧ t.rsc.startInFlight = false ∧
        (s.rsc.run = .benchWet → t.rsc.run = .halted ∧ (s.queueOk → preempted s t) ∧
          ∀ sv, s.rsc.save = some sv → benchLeft s t sv false) ∧
        (s.rsc.run ≠ .benchWet → t.rsc.run = s.rsc.run ∧ t.prot.st = s.prot.st ∧
          unchangedBut [.lines, .prot, .acp, .rsc] s t)) ∧
    (s.lines.ocTrip = false → s.countedClosed = false → s.prot.sw ≠ .precharging → ∃ t,
      exec .ocTripAssert s = .next t ∧ t.lines = { s.lines with ocTrip := true } ∧ changesOnly [.lines] s t) ∧
    (s.lines.ocTrip = true → ∃ t, exec .ocTripAssert s = .next t ∧ changesOnly [] s t) ∧
    ∃ t, exec .ocTripRelease s = .next t ∧ t.lines = { s.lines with ocTrip := false } ∧ changesOnly [.lines] s t

/-- R18, R10, R159, R160, R171: the end of a precharge. The switch closes only where both voltages are ready and the
rail stands at nine tenths of the pack or more; with OC_TRIP asserted then, the closing is a hard trip, judged by the
protection state. A band restored beside an active sensor fault is the model's (log 27), and so is the clock after the
command (log 2). -/
def Obligations.PrechargeExpires : Prop :=
  ∀ (s : State) (due : Nat), s.prot.sw = .precharging → s.prot.prechargeEnd = some due →
    (∀ rail : Int, s.published .railVoltage = some rail → ∀ pack : Int, s.published .packVoltage = some pack →
      pack * 9 ≤ rail * 10 → s.lines.ocTrip = false → ∃ t, exec .prechargeExpiry s = .next t ∧ t.now = max s.now due ∧
        t.prot = { s.prot with sw := .closed, prechargeEnd := none } ∧
        (s.rsc.startInFlight = true → t.rsc.run = .arming ∧ t.rsc.startInFlight = false ∧
          t.rsc.armingEnd = if s.valueOf .throttle = 0 then some (t.now + s.cfg.armNeutral * msec) else none) ∧
        (s.rsc.startInFlight = false → t.rsc = { s.rsc with idleEnd := s.idleUntil t }) ∧ acpSettled s t ∧
        unchangedBut [.now, .prot, .acp, .rsc] s t) ∧
    (∀ rail : Int, s.published .railVoltage = some rail → ∀ pack : Int, s.published .packVoltage = some pack →
      pack * 9 ≤ rail * 10 → s.lines.ocTrip = true →
      ∃ t, exec .prechargeExpiry s = .next t ∧ t.now = max s.now due ∧
        (s.prot.st = .normal ∨ s.prot.st = .warn ∨ (s.prot.st = .cutoff ∧ s.prot.cause ≠ some .hardTrip) →
          t.prot.sw = .closed ∧ t.prot.prechargeEnd = none ∧ t.prot.st = .cutoff ∧ t.prot.cause = some .hardTrip ∧
          t.prot.tripTime = some t.now ∧ t.faultLatched .hardTrip = true ∧ t.rsc.startInFlight = false ∧
          (s.prot.st ≠ .cutoff → s.queueOk → preempted s t) ∧
          t.rsc.run = if s.rsc.startInFlight then .arming else s.rsc.run) ∧
        (s.prot.st = .cutoff → s.prot.cause = some .hardTrip → s.rsc.run = .halted ∧ s.rsc.save = none →
          s.rsc.startInFlight = true → t.prot.sw = .opened ∧ t.prot.st = .lockout ∧ t.prot.cause = none ∧
          t.faultLatched .lockout = true ∧ t.rsc.run = .halted ∧ t.rsc.startInFlight = false ∧
          (s.queueOk → preempted s t))) ∧
    (s.published .railVoltage = none ∨ s.published .packVoltage = none ∨
        (s.published .railVoltage).getD 0 * 10 < (s.published .packVoltage).getD 0 * 9 →
      ∃ t, exec .prechargeExpiry s = .next t ∧ t.now = max s.now due ∧ t.prot.sw = .opened ∧
        t.prot.prechargeEnd = none ∧ t.rsc.startInFlight = false ∧ t.faultLatched .prechargeFail = true ∧
        (s.rsc.run = .benchWet → t.rsc.run = .halted ∧ (s.queueOk → preempted s t) ∧
          ∀ sv, s.rsc.save = some sv → benchLeft s t sv false) ∧
        (s.rsc.run ≠ .benchWet → t.rsc.run = s.rsc.run ∧ t.prot.st = s.prot.st ∧
          unchangedBut [.now, .prot, .acp, .rsc] s t))

/-! ### The current budget (chapter 2) -/

/-- R15, R16, R22, R29 to R38, R44: a budget period, on and off the bench, and SERVO_SHORT as its counts leave it. The
published computation reads the switch and the LIGHTS demand as they stand; BENCH-DRY runs a second one with the switch
counted as CLOSED and the lights' trial demand, its trial results the ones accounted; until the first light frame boundary
on the bench that is the demand of the last boundary before the entry, the model's choice (log 35). SERVO_SHORT as a command
of its own is the model's (log 3). The clock after it is the model's (log 2). -/
def Obligations.BudgetPeriodShares : Prop :=
  ∀ s : State,
    (∃ t, exec .budgetPeriod s = .next t ∧ t.now = max s.now s.bgt.nextPeriod ∧
      t.bgt.nextPeriod = t.now + 10 * msec ∧
      (∀ i : Int, s.published .packCurrent = some i →
        (t.prot.q : Int) =
          (if (s.cfg.ocCont : Int) < i then min (s.prot.q + (i - s.cfg.ocCont)) (2 * s.cfg.ocTripQ : Nat)
          else min (max 0 (s.prot.q + (i - s.cfg.ocCont).tdiv 4)) (2 * s.cfg.ocTripQ : Nat)) ∧
        t.prot.limit =
          (if s.cfg.ocTripQ ≤ t.prot.q then true else if t.prot.q ≤ s.cfg.ocTripQ / 2 then false else s.prot.limit)) ∧
      t.prot = { s.prot with q := t.prot.q, limit := t.prot.limit } ∧
      (s.published .packCurrent = none → t.prot = s.prot) ∧
      budgetShared s t.prot.limit (s.prot.sw == .closed) s.lgt.pubDemand t.bgt.pub ∧
      (∀ k, t.bgt.rank.get k = s.cfg.rankOf k ∧ t.bgt.floor.get k = s.cfg.floorOf k ∧
        t.bgt.ceiling.get k = s.cfg.ceilOf k) ∧
      (s.rsc.run = .benchDry → ∃ r, t.bgt.trial = some r ∧ budgetShared s t.prot.limit true s.lgt.demand r ∧
        budgetAccounted s t r) ∧
      (s.rsc.run ≠ .benchDry → t.bgt.trial = none) ∧
      (s.rsc.run ≠ .benchDry → s.prot.sw = .closed → budgetAccounted s t t.bgt.pub) ∧
      (s.rsc.run ≠ .benchDry → s.prot.sw ≠ .closed → t.bgt.starved = s.bgt.starved ∧
        t.bgt.shortCount = s.bgt.shortCount ∧ t.bgt.clearCount = s.bgt.clearCount ∧
        t.bgt.servoShort = s.bgt.servoShort) ∧
      changesOnly [.now, .prot, .bgt] s t) ∧
    ∃ t, exec .servoShort s = .next t ∧
      t.bgt =
        { s.bgt with
          servoShort :=
            if s.bgt.shortCount = 3 then true else if s.bgt.clearCount = 3 then false else s.bgt.servoShort } ∧
      changesOnly [.bgt] s t

/-! ### Drive and steering (chapter 4) -/

/-- R25, R39, R68 to R70, R72 to R77: a drive step. That DRV_DIR keeps its level in both bench states is the model's
reading of R73 (log 29). The clock after it is the model's (log 2). -/
def Obligations.DriveStepDrives : Prop :=
  ∀ s : State,
    let cap := min (min 1000 (1000 * s.grantFor .drive / s.cfg.driveRated)) (s.cfg.mtDerate s.pmon.motorBand * 10)
    let cap' := if s.wch.moving then min cap s.cfg.winchDriveCap else cap
    let target := if s.countedRunning = true ∧ (s.prot.st = .normal ∨ s.prot.st = .warn) ∧ s.cfg.driveEn = true then
      s.valueOf .throttle else 0
    let goal := max (-(cap' : Int)) (min cap' target)
    ∃ t, exec .driveStep s = .next t ∧ t.now = max s.now s.drv.nextStep ∧ t.drv.nextStep = t.now + 10 * msec ∧
      t.drv.budgetCap = min 1000 (1000 * s.grantFor .drive / s.cfg.driveRated) ∧
      t.drv.thermalCap = s.cfg.mtDerate s.pmon.motorBand * 10 ∧ t.drv.interlockCap = s.cfg.winchDriveCap ∧
      t.drv.interlock = s.wch.moving ∧ t.drv.cap = cap' ∧
      t.drv.target = target ∧
      (cap' < s.drv.applied.natAbs → t.drv.applied = if s.drv.applied < 0 then -(cap' : Int) else cap') ∧
      (s.drv.applied.natAbs ≤ cap' → t.drv.applied =
        if goal < s.drv.applied then max goal (s.drv.applied - s.cfg.rate) else min goal (s.drv.applied + s.cfg.rate)) ∧
      t.drv.dir = (if 0 < t.drv.applied then .forward else if t.drv.applied < 0 then .backward else .none) ∧
      t.drv.dragBrake = decide (target = 0 ∧ t.drv.applied = 0) ∧
      (t.drv.brake = true ↔ t.drv.dragBrake = true ∨
        (t.drv.applied ≠ 0 ∧ (target = 0 ∨ (0 < target ↔ 0 < t.drv.applied)) ∧ target.natAbs < t.drv.applied.natAbs)) ∧
      t.drv.reverse = decide (t.drv.applied < 0) ∧
      t.drv.demand =
        (if s.cfg.driveEn = true ∧ s.countedRunning = true then (s.valueOf .throttle).natAbs * s.cfg.driveRated / 1000
        else 0) ∧
      t.drv.pwm =
        (if s.rsc.run = .running ∧ (s.prot.st = .normal ∨ s.prot.st = .warn) ∧ s.prot.sw = .closed ∧
            s.cfg.driveEn = true then t.drv.applied.natAbs else 0) ∧
      t.drv.dirReverse =
        (if s.rsc.run = .benchDry ∨ s.rsc.run = .benchWet then s.drv.dirReverse
        else if t.drv.dir = .forward then false else if t.drv.dir = .backward then true else s.drv.dirReverse) ∧
      t.drv.brk =
        (if t.drv.dragBrake = true ∧ (s.rsc.run = .running ∨ s.rsc.run = .arming) ∧ s.prot.st ≠ .lockout ∧
            s.prot.sw = .closed ∧ s.cfg.driveEn = true then some s.cfg.drag else none) ∧
      (let wanted := Gear.ofValue (s.valueOf .gear);
        (s.countedClosed = false ∨ wanted = s.drv.gear → t.drv.gear = s.drv.gear ∧ t.drv.pendingGear = none) ∧
        (s.countedClosed = true → wanted ≠ s.drv.gear →
          (t.drv.applied.natAbs ≤ s.cfg.gearShiftMax ∧ s.bgt.servoShort = false →
            t.drv.gear = wanted ∧ t.drv.pendingGear = none) ∧
          (¬(t.drv.applied.natAbs ≤ s.cfg.gearShiftMax ∧ s.bgt.servoShort = false) →
            t.drv.gear = s.drv.gear ∧ t.drv.pendingGear = some wanted))) ∧
      changesOnly [.now, .drv] s t

/-- R81 to R88: a servo frame. An absent pulse that SERVO_SHORT holds stays absent, the model's choice between R88 and R90
(log 33). The clock after it is the model's (log 2). -/
def Obligations.ServoFrameSteers : Prop :=
  ∀ s : State,
    (s.countedClosed = false → ∃ t, exec .servoFrame s = .next t ∧ t.str.active = false ∧ t.str.mode = s.str.mode ∧
      t.str.pendingMode = s.str.pendingMode ∧
      (∀ v, t.str.servo.get v = { s.str.servo.get v with line := none }) ∧ t.now = max s.now s.str.nextFrame ∧
      t.str.nextFrame = t.now + s.cfg.servoFrameMs * msec ∧ changesOnly [.now, .str] s t) ∧
    (s.countedClosed = true → ∃ t, exec .servoFrame s = .next t ∧ t.str.active = true ∧
      t.now = max s.now s.str.nextFrame ∧ t.str.nextFrame = t.now + s.cfg.servoFrameMs * msec ∧
      (let wanted := SteerMode.ofValue (s.valueOf .steerMode)
        let near := (s.valueOf .steer).natAbs ≤ s.cfg.modeBand
        t.str.mode = (if near then wanted else s.str.mode) ∧
        t.str.pendingMode = (if near ∨ wanted = s.str.mode then none else some wanted)) ∧
      t.str.steerUsed = s.valueOf .steer ∧
      t.str.shareEff =
        (if t.str.mode = .counter then s.cfg.rearShare - s.drv.applied.natAbs * s.cfg.rearFade / 1000
        else s.cfg.rearShare) ∧
      t.str.front = (if t.str.mode = .rear then 0 else s.valueOf .steer) ∧
      t.str.rear =
        (match t.str.mode with
        | .front => 0
        | .rear => s.valueOf .steer * s.cfg.rearDir
        | .counter => (-(s.valueOf .steer) * t.str.shareEff).tdiv 100
        | .crab => (s.valueOf .steer * s.cfg.rearShare).tdiv 100) ∧
      (∀ v : Servo,
        let c := s.cfg
        let steered := fun x : Int =>
          if 0 ≤ x then c.servoCenter v + (x * ((c.servoMax v : Int) - c.servoCenter v)).tdiv 1000
          else c.servoCenter v + (x * ((c.servoCenter v : Int) - c.servoMin v)).tdiv 1000
        let pulse : Int := (match v with
          | .frontSteer => steered t.str.front
          | .rearSteer => steered t.str.rear
          | .gear => (if s.drv.gear = .high then c.gearHighUs else c.gearLowUs : Nat)
          | .frontDiff => (if s.valueOf .diff = 1 ∨ s.valueOf .diff = 3 then c.frontLockUs else c.frontOpenUs : Nat)
          | .rearDiff => (if s.valueOf .diff = 2 ∨ s.valueOf .diff = 3 then c.rearLockUs else c.rearOpenUs : Nat)) +
          c.servoTrim v
        let old := (s.str.servo.get v).emitted
        let new := t.str.servo.get v
        (c.servoMin v ≤ c.servoMax v → ∃ aim : Int, new.aim = some aim ∧
          aim = max (c.servoMin v : Int) (min (c.servoMax v) pulse) ∧ new.boundHit = decide (pulse ≠ aim) ∧
          (s.bgt.servoShort = true → new.emitted = old) ∧
          (s.bgt.servoShort = false → old = none ∨ c.servoSlew = 0 → new.emitted = some aim) ∧
          (∀ e : Int, old = some e → s.bgt.servoShort = false → c.servoSlew ≠ 0 →
            new.emitted = some (if aim < e then max aim (e - c.servoSlew) else min aim (e + c.servoSlew)))) ∧
        new.line = (if s.rsc.run = .benchDry then none else new.emitted)) ∧
      changesOnly [.now, .str] s t)

/-! ### Lights (chapter 6) and the bench (chapter 10) -/

/-- R119, R121, R123 to R133: a light frame boundary. An entry that blinks with a period of 0 is left open (log 5). The excess
is what the draws of the dimmed duties have above the latched grant, at most 7 mA, and the duties are those the trim leaves,
in its order; the draws then never exceed the grant. What is reported as the excess is the model's reading (log 17). In BENCH-DRY the figures reported are
those of the trial computation, the excess and the reduced mode among them (log 17). The clock after it is the model's
(log 2). -/
def Obligations.LightFrameDrives : Prop :=
  ∀ s : State, ∃ t, exec .lightFrameBoundary s = .next t ∧ t.now = max s.now s.lgt.nextFrame ∧
    t.lgt.nextFrame = t.now + 20 * msec ∧ t.lgt.frameTable = (s.cfg.bytes.drop 158).take 192 ∧
    t.lgt.activeScene = s.lgt.pendingScene ∧ t.lgt.pendingScene = s.lgt.pendingScene ∧
    t.lgt.blink = (s.lgt.blink + 1) % 2 ^ 32 ∧
    t.lgt.latched = some
      { grant := s.grantFor .lights, prot := s.prot.st, run := s.rsc.run, lightsEn := s.cfg.lightsEn
        steer := s.valueOf .steer, brake := s.drv.brake, reverse := s.drv.reverse, winchRun := s.wch.moving } ∧
    t.lgt.follow =
      [s.drv.brake, s.drv.reverse, decide (s.valueOf .steer < -(s.cfg.turnThresh : Int)),
        decide ((s.cfg.turnThresh : Int) < s.valueOf .steer), s.wch.moving,
        decide (s.prot.st ≠ .normal ∧ s.lgt.blink * 20 / 500 % 2 = 0)] ∧
    (let off := (s.cfg.lightsEn = false ∨ s.rsc.run = .halted ∨ s.rsc.run = .loading ∨ s.rsc.run = .sleep);
      (off → t.lgt.pubDemand = 0 ∧ t.lgt.scale = 1000 ∧ t.lgt.reduced = false ∧ t.lgt.trimmed = false ∧
        t.lgt.excess = 0 ∧
        ∀ l, (t.lgt.lamp.get l).duty = 0 ∧ (t.lgt.lamp.get l).draw = 0 ∧ (t.lgt.lamp.get l).line = 0) ∧
      (¬off →
        let grant := s.grantFor .lights
        let forced := s.prot.st = .cutoff ∨ s.prot.st = .lockout
        let drawAt := fun l => (t.lgt.lamp.get l).base * s.cfg.ratedMa l / 1000
        let dimmed := fun l =>
          if (t.lgt.lamp.get l).lit = false ∨ (t.lgt.reduced = true ∧ s.cfg.essential l = false) then 0
          else (t.lgt.lamp.get l).base * (if t.lgt.reduced then t.lgt.essentialScale else t.lgt.scale) / 1000
        t.lgt.demand = (Lamp.all.map drawAt).sum ∧
        t.lgt.essentialDemand = ((Lamp.all.filter s.cfg.essential).map drawAt).sum ∧
        t.lgt.pubDemand = (if s.rsc.run = .benchDry then 0 else t.lgt.demand) ∧
        t.lgt.scale = (if t.lgt.demand = 0 then 1000 else min 1000 (1000 * grant / t.lgt.demand)) ∧
        t.lgt.reduced = decide (forced ∨ t.lgt.scale < s.cfg.reduceThresh) ∧
        (t.lgt.reduced = true → t.lgt.essentialScale =
          if t.lgt.essentialDemand = 0 then 1000 else min 1000 (1000 * grant / t.lgt.essentialDemand)) ∧
        t.lgt.forced = decide forced ∧
        t.lgt.excess = drawnBy s.cfg (PerLamp.build dimmed) - grant ∧ t.lgt.excess ≤ 7 ∧
        t.lgt.trimmed = decide (t.lgt.excess ≠ 0) ∧ (Lamp.all.map fun l => (t.lgt.lamp.get l).draw).sum ≤ grant ∧
        ∀ l : Lamp,
          let e := frameEntry t.lgt.frameTable t.lgt.activeScene l
          let r := t.lgt.lamp.get l
          r.base = (if e.mode = 0 then 0 else e.level) ∧ (e.mode = 0 → r.lit = false) ∧ (e.mode = 1 → r.lit = true) ∧
          (e.mode = 2 → e.period ≠ 0 → r.lit = decide (s.lgt.blink * 20 / (e.period * 100) % 2 = e.phase)) ∧
          (e.mode = 3 → r.lit = t.lgt.follow.getD e.follow false) ∧
          r.draw = r.duty * s.cfg.ratedMa l / 1000 ∧ r.duty = (cutToGrant s.cfg grant (PerLamp.build dimmed)).get l ∧
          r.duty ≤ dimmed l ∧ (t.lgt.excess = 0 → r.duty = dimmed l) ∧
          r.line = if s.prot.sw = .closed ∧ s.rsc.run ≠ .benchDry then r.duty else 0)) ∧
    changesOnly [.now, .lgt] s t

/-- R122, R168, R169: a scene entry written, a measurement substituted, a stall armed. -/
def Obligations.SceneWrittenAndBenchDriven : Prop :=
  ∀ (s : State) (sc out b1 b2 b3 q : Byte) (value : List Byte), s.portOpen → value.length = 4 →
    (let e := sceneEntryOf b1.toNat b2.toNat b3.toNat
      let good := (sc.toNat ≤ 7 ∧ out.toNat ≤ 7 ∧ e.level ≤ 1000 ∧ (e.mode = 2 → 2 ≤ e.period ∧ e.period ≤ 20) ∧
        (e.mode = 3 → e.follow ≤ 5));
      (good → s.configOk → ∃ t, exec (.sceneWrite [sc, out, b1, b2, b3]) s = .next t ∧ t.configOk ∧
        (∀ i, t.cfg.bytes.getD i 0 =
          if 158 + 3 * (8 * sc.toNat + out.toNat) ≤ i ∧ i < 161 + 3 * (8 * sc.toNat + out.toNat) then
            [b1, b2, b3].getD (i - (158 + 3 * (8 * sc.toNat + out.toNat))) 0
          else s.cfg.bytes.getD i 0) ∧
        t.rsc = { s.wakeSource.rsc with work := t.cfg, idleEnd := s.idleUntil t } ∧ answers s t .ok [] ∧
        apHeard s t .ok ∧ unchangedBut [.grt, .acp, .rsc] s t) ∧
      (¬good → ∃ t, exec (.sceneWrite [sc, out, b1, b2, b3]) s = .next t ∧ answersWith [] s t .badValue [])) ∧
    (s.rsc.run = .benchDry →
      (∀ k : Quantity, k.code = q.toNat →
        (k.range.1 ≤ beInt value ∧ beInt value ≤ k.range.2 →
          ∃ t, exec (.benchInject (q :: value)) s = .next t ∧
            (t.pmon.chan.get k).window = List.replicate k.depth (beInt value) ∧
            (t.pmon.chan.get k).substituted = true ∧ (t.pmon.chan.get k).published = s.published k ∧
            (∀ j, j ≠ k → t.pmon.chan.get j = s.pmon.chan.get j) ∧ t.pmon = { s.pmon with chan := t.pmon.chan } ∧
            answersWith [.pmon] s t .ok []) ∧
        (beInt value < k.range.1 ∨ k.range.2 < beInt value →
          ∃ t, exec (.benchInject (q :: value)) s = .next t ∧ answersWith [] s t .badValue [])) ∧
      (q.toNat = 10 → 0 ≤ beInt value → beInt value ≤ 500 → ∃ t, exec (.benchInject (q :: value)) s = .next t ∧
        t.wch =
          { s.wch with
            drumRate := (beInt value).toNat
            nextBenchPulse :=
              if beInt value = 0 then none else some (s.now + 1000000 / (beInt value).toNat) } ∧
        answersWith [.wch] s t .ok []) ∧
      (10 < q.toNat ∨ (q.toNat = 10 ∧ (beInt value < 0 ∨ 500 < beInt value)) →
        ∃ t, exec (.benchInject (q :: value)) s = .next t ∧ answersWith [] s t .badValue []) ∧
      ∃ t, exec (.benchStall []) s = .next t ∧ t.wch = { s.wch with stallArm := true } ∧
        answersWith [.wch] s t .ok []) ∧
    (s.rsc.run ≠ .benchDry →
      (∃ t, exec (.benchInject (q :: value)) s = .next t ∧ answersWith [] s t .refusedState []) ∧
      ∃ t, exec (.benchStall []) s = .next t ∧ answersWith [] s t .refusedState [])
end

