-- ==== Sys2Proof/Laws/State.lean ====
section
/-! SUPPORT. One lemma per field per block update, true by `rfl`: what each update of one block leaves and sets. -/

namespace Sys2Proof.Machine

variable (s : State)

@[simp] theorem State.withNow_now (x : Nat) : (s.withNow x).now = x := rfl
@[simp] theorem State.withNow_lines (x : Nat) : (s.withNow x).lines = s.lines := rfl
@[simp] theorem State.withNow_pmon (x : Nat) : (s.withNow x).pmon = s.pmon := rfl
@[simp] theorem State.withNow_prot (x : Nat) : (s.withNow x).prot = s.prot := rfl
@[simp] theorem State.withNow_bgt (x : Nat) : (s.withNow x).bgt = s.bgt := rfl
@[simp] theorem State.withNow_grt (x : Nat) : (s.withNow x).grt = s.grt := rfl
@[simp] theorem State.withNow_drv (x : Nat) : (s.withNow x).drv = s.drv := rfl
@[simp] theorem State.withNow_str (x : Nat) : (s.withNow x).str = s.str := rfl
@[simp] theorem State.withNow_wch (x : Nat) : (s.withNow x).wch = s.wch := rfl
@[simp] theorem State.withNow_lgt (x : Nat) : (s.withNow x).lgt = s.lgt := rfl
@[simp] theorem State.withNow_dlr (x : Nat) : (s.withNow x).dlr = s.dlr := rfl
@[simp] theorem State.withNow_pnd (x : Nat) : (s.withNow x).pnd = s.pnd := rfl
@[simp] theorem State.withNow_acp (x : Nat) : (s.withNow x).acp = s.acp := rfl
@[simp] theorem State.withNow_rsc (x : Nat) : (s.withNow x).rsc = s.rsc := rfl
@[simp] theorem State.withNow_pending (x : Nat) : (s.withNow x).pending = s.pending := rfl
@[simp] theorem State.withNow_withNow (x y : Nat) : (s.withNow x).withNow y = s.withNow y := rfl
@[simp] theorem State.withNow_self : s.withNow s.now = s := rfl

@[simp] theorem State.withLines_now (x : Lines) : (s.withLines x).now = s.now := rfl
@[simp] theorem State.withLines_lines (x : Lines) : (s.withLines x).lines = x := rfl
@[simp] theorem State.withLines_pmon (x : Lines) : (s.withLines x).pmon = s.pmon := rfl
@[simp] theorem State.withLines_prot (x : Lines) : (s.withLines x).prot = s.prot := rfl
@[simp] theorem State.withLines_bgt (x : Lines) : (s.withLines x).bgt = s.bgt := rfl
@[simp] theorem State.withLines_grt (x : Lines) : (s.withLines x).grt = s.grt := rfl
@[simp] theorem State.withLines_drv (x : Lines) : (s.withLines x).drv = s.drv := rfl
@[simp] theorem State.withLines_str (x : Lines) : (s.withLines x).str = s.str := rfl
@[simp] theorem State.withLines_wch (x : Lines) : (s.withLines x).wch = s.wch := rfl
@[simp] theorem State.withLines_lgt (x : Lines) : (s.withLines x).lgt = s.lgt := rfl
@[simp] theorem State.withLines_dlr (x : Lines) : (s.withLines x).dlr = s.dlr := rfl
@[simp] theorem State.withLines_pnd (x : Lines) : (s.withLines x).pnd = s.pnd := rfl
@[simp] theorem State.withLines_acp (x : Lines) : (s.withLines x).acp = s.acp := rfl
@[simp] theorem State.withLines_rsc (x : Lines) : (s.withLines x).rsc = s.rsc := rfl
@[simp] theorem State.withLines_pending (x : Lines) : (s.withLines x).pending = s.pending := rfl
@[simp] theorem State.withLines_withLines (x y : Lines) : (s.withLines x).withLines y = s.withLines y := rfl
@[simp] theorem State.withLines_self : s.withLines s.lines = s := rfl

@[simp] theorem State.withPmon_now (x : Pmon) : (s.withPmon x).now = s.now := rfl
@[simp] theorem State.withPmon_lines (x : Pmon) : (s.withPmon x).lines = s.lines := rfl
@[simp] theorem State.withPmon_pmon (x : Pmon) : (s.withPmon x).pmon = x := rfl
@[simp] theorem State.withPmon_prot (x : Pmon) : (s.withPmon x).prot = s.prot := rfl
@[simp] theorem State.withPmon_bgt (x : Pmon) : (s.withPmon x).bgt = s.bgt := rfl
@[simp] theorem State.withPmon_grt (x : Pmon) : (s.withPmon x).grt = s.grt := rfl
@[simp] theorem State.withPmon_drv (x : Pmon) : (s.withPmon x).drv = s.drv := rfl
@[simp] theorem State.withPmon_str (x : Pmon) : (s.withPmon x).str = s.str := rfl
@[simp] theorem State.withPmon_wch (x : Pmon) : (s.withPmon x).wch = s.wch := rfl
@[simp] theorem State.withPmon_lgt (x : Pmon) : (s.withPmon x).lgt = s.lgt := rfl
@[simp] theorem State.withPmon_dlr (x : Pmon) : (s.withPmon x).dlr = s.dlr := rfl
@[simp] theorem State.withPmon_pnd (x : Pmon) : (s.withPmon x).pnd = s.pnd := rfl
@[simp] theorem State.withPmon_acp (x : Pmon) : (s.withPmon x).acp = s.acp := rfl
@[simp] theorem State.withPmon_rsc (x : Pmon) : (s.withPmon x).rsc = s.rsc := rfl
@[simp] theorem State.withPmon_pending (x : Pmon) : (s.withPmon x).pending = s.pending := rfl
@[simp] theorem State.withPmon_withPmon (x y : Pmon) : (s.withPmon x).withPmon y = s.withPmon y := rfl
@[simp] theorem State.withPmon_self : s.withPmon s.pmon = s := rfl

@[simp] theorem State.withProt_now (x : Prot) : (s.withProt x).now = s.now := rfl
@[simp] theorem State.withProt_lines (x : Prot) : (s.withProt x).lines = s.lines := rfl
@[simp] theorem State.withProt_pmon (x : Prot) : (s.withProt x).pmon = s.pmon := rfl
@[simp] theorem State.withProt_prot (x : Prot) : (s.withProt x).prot = x := rfl
@[simp] theorem State.withProt_bgt (x : Prot) : (s.withProt x).bgt = s.bgt := rfl
@[simp] theorem State.withProt_grt (x : Prot) : (s.withProt x).grt = s.grt := rfl
@[simp] theorem State.withProt_drv (x : Prot) : (s.withProt x).drv = s.drv := rfl
@[simp] theorem State.withProt_str (x : Prot) : (s.withProt x).str = s.str := rfl
@[simp] theorem State.withProt_wch (x : Prot) : (s.withProt x).wch = s.wch := rfl
@[simp] theorem State.withProt_lgt (x : Prot) : (s.withProt x).lgt = s.lgt := rfl
@[simp] theorem State.withProt_dlr (x : Prot) : (s.withProt x).dlr = s.dlr := rfl
@[simp] theorem State.withProt_pnd (x : Prot) : (s.withProt x).pnd = s.pnd := rfl
@[simp] theorem State.withProt_acp (x : Prot) : (s.withProt x).acp = s.acp := rfl
@[simp] theorem State.withProt_rsc (x : Prot) : (s.withProt x).rsc = s.rsc := rfl
@[simp] theorem State.withProt_pending (x : Prot) : (s.withProt x).pending = s.pending := rfl
@[simp] theorem State.withProt_withProt (x y : Prot) : (s.withProt x).withProt y = s.withProt y := rfl
@[simp] theorem State.withProt_self : s.withProt s.prot = s := rfl

@[simp] theorem State.withBgt_now (x : Bgt) : (s.withBgt x).now = s.now := rfl
@[simp] theorem State.withBgt_lines (x : Bgt) : (s.withBgt x).lines = s.lines := rfl
@[simp] theorem State.withBgt_pmon (x : Bgt) : (s.withBgt x).pmon = s.pmon := rfl
@[simp] theorem State.withBgt_prot (x : Bgt) : (s.withBgt x).prot = s.prot := rfl
@[simp] theorem State.withBgt_bgt (x : Bgt) : (s.withBgt x).bgt = x := rfl
@[simp] theorem State.withBgt_grt (x : Bgt) : (s.withBgt x).grt = s.grt := rfl
@[simp] theorem State.withBgt_drv (x : Bgt) : (s.withBgt x).drv = s.drv := rfl
@[simp] theorem State.withBgt_str (x : Bgt) : (s.withBgt x).str = s.str := rfl
@[simp] theorem State.withBgt_wch (x : Bgt) : (s.withBgt x).wch = s.wch := rfl
@[simp] theorem State.withBgt_lgt (x : Bgt) : (s.withBgt x).lgt = s.lgt := rfl
@[simp] theorem State.withBgt_dlr (x : Bgt) : (s.withBgt x).dlr = s.dlr := rfl
@[simp] theorem State.withBgt_pnd (x : Bgt) : (s.withBgt x).pnd = s.pnd := rfl
@[simp] theorem State.withBgt_acp (x : Bgt) : (s.withBgt x).acp = s.acp := rfl
@[simp] theorem State.withBgt_rsc (x : Bgt) : (s.withBgt x).rsc = s.rsc := rfl
@[simp] theorem State.withBgt_pending (x : Bgt) : (s.withBgt x).pending = s.pending := rfl
@[simp] theorem State.withBgt_withBgt (x y : Bgt) : (s.withBgt x).withBgt y = s.withBgt y := rfl
@[simp] theorem State.withBgt_self : s.withBgt s.bgt = s := rfl

@[simp] theorem State.withGrt_now (x : Grt) : (s.withGrt x).now = s.now := rfl
@[simp] theorem State.withGrt_lines (x : Grt) : (s.withGrt x).lines = s.lines := rfl
@[simp] theorem State.withGrt_pmon (x : Grt) : (s.withGrt x).pmon = s.pmon := rfl
@[simp] theorem State.withGrt_prot (x : Grt) : (s.withGrt x).prot = s.prot := rfl
@[simp] theorem State.withGrt_bgt (x : Grt) : (s.withGrt x).bgt = s.bgt := rfl
@[simp] theorem State.withGrt_grt (x : Grt) : (s.withGrt x).grt = x := rfl
@[simp] theorem State.withGrt_drv (x : Grt) : (s.withGrt x).drv = s.drv := rfl
@[simp] theorem State.withGrt_str (x : Grt) : (s.withGrt x).str = s.str := rfl
@[simp] theorem State.withGrt_wch (x : Grt) : (s.withGrt x).wch = s.wch := rfl
@[simp] theorem State.withGrt_lgt (x : Grt) : (s.withGrt x).lgt = s.lgt := rfl
@[simp] theorem State.withGrt_dlr (x : Grt) : (s.withGrt x).dlr = s.dlr := rfl
@[simp] theorem State.withGrt_pnd (x : Grt) : (s.withGrt x).pnd = s.pnd := rfl
@[simp] theorem State.withGrt_acp (x : Grt) : (s.withGrt x).acp = s.acp := rfl
@[simp] theorem State.withGrt_rsc (x : Grt) : (s.withGrt x).rsc = s.rsc := rfl
@[simp] theorem State.withGrt_pending (x : Grt) : (s.withGrt x).pending = s.pending := rfl
@[simp] theorem State.withGrt_withGrt (x y : Grt) : (s.withGrt x).withGrt y = s.withGrt y := rfl
@[simp] theorem State.withGrt_self : s.withGrt s.grt = s := rfl

@[simp] theorem State.withDrv_now (x : Drv) : (s.withDrv x).now = s.now := rfl
@[simp] theorem State.withDrv_lines (x : Drv) : (s.withDrv x).lines = s.lines := rfl
@[simp] theorem State.withDrv_pmon (x : Drv) : (s.withDrv x).pmon = s.pmon := rfl
@[simp] theorem State.withDrv_prot (x : Drv) : (s.withDrv x).prot = s.prot := rfl
@[simp] theorem State.withDrv_bgt (x : Drv) : (s.withDrv x).bgt = s.bgt := rfl
@[simp] theorem State.withDrv_grt (x : Drv) : (s.withDrv x).grt = s.grt := rfl
@[simp] theorem State.withDrv_drv (x : Drv) : (s.withDrv x).drv = x := rfl
@[simp] theorem State.withDrv_str (x : Drv) : (s.withDrv x).str = s.str := rfl
@[simp] theorem State.withDrv_wch (x : Drv) : (s.withDrv x).wch = s.wch := rfl
@[simp] theorem State.withDrv_lgt (x : Drv) : (s.withDrv x).lgt = s.lgt := rfl
@[simp] theorem State.withDrv_dlr (x : Drv) : (s.withDrv x).dlr = s.dlr := rfl
@[simp] theorem State.withDrv_pnd (x : Drv) : (s.withDrv x).pnd = s.pnd := rfl
@[simp] theorem State.withDrv_acp (x : Drv) : (s.withDrv x).acp = s.acp := rfl
@[simp] theorem State.withDrv_rsc (x : Drv) : (s.withDrv x).rsc = s.rsc := rfl
@[simp] theorem State.withDrv_pending (x : Drv) : (s.withDrv x).pending = s.pending := rfl
@[simp] theorem State.withDrv_withDrv (x y : Drv) : (s.withDrv x).withDrv y = s.withDrv y := rfl
@[simp] theorem State.withDrv_self : s.withDrv s.drv = s := rfl

@[simp] theorem State.withStr_now (x : Str) : (s.withStr x).now = s.now := rfl
@[simp] theorem State.withStr_lines (x : Str) : (s.withStr x).lines = s.lines := rfl
@[simp] theorem State.withStr_pmon (x : Str) : (s.withStr x).pmon = s.pmon := rfl
@[simp] theorem State.withStr_prot (x : Str) : (s.withStr x).prot = s.prot := rfl
@[simp] theorem State.withStr_bgt (x : Str) : (s.withStr x).bgt = s.bgt := rfl
@[simp] theorem State.withStr_grt (x : Str) : (s.withStr x).grt = s.grt := rfl
@[simp] theorem State.withStr_drv (x : Str) : (s.withStr x).drv = s.drv := rfl
@[simp] theorem State.withStr_str (x : Str) : (s.withStr x).str = x := rfl
@[simp] theorem State.withStr_wch (x : Str) : (s.withStr x).wch = s.wch := rfl
@[simp] theorem State.withStr_lgt (x : Str) : (s.withStr x).lgt = s.lgt := rfl
@[simp] theorem State.withStr_dlr (x : Str) : (s.withStr x).dlr = s.dlr := rfl
@[simp] theorem State.withStr_pnd (x : Str) : (s.withStr x).pnd = s.pnd := rfl
@[simp] theorem State.withStr_acp (x : Str) : (s.withStr x).acp = s.acp := rfl
@[simp] theorem State.withStr_rsc (x : Str) : (s.withStr x).rsc = s.rsc := rfl
@[simp] theorem State.withStr_pending (x : Str) : (s.withStr x).pending = s.pending := rfl
@[simp] theorem State.withStr_withStr (x y : Str) : (s.withStr x).withStr y = s.withStr y := rfl
@[simp] theorem State.withStr_self : s.withStr s.str = s := rfl

@[simp] theorem State.withWch_now (x : Wch) : (s.withWch x).now = s.now := rfl
@[simp] theorem State.withWch_lines (x : Wch) : (s.withWch x).lines = s.lines := rfl
@[simp] theorem State.withWch_pmon (x : Wch) : (s.withWch x).pmon = s.pmon := rfl
@[simp] theorem State.withWch_prot (x : Wch) : (s.withWch x).prot = s.prot := rfl
@[simp] theorem State.withWch_bgt (x : Wch) : (s.withWch x).bgt = s.bgt := rfl
@[simp] theorem State.withWch_grt (x : Wch) : (s.withWch x).grt = s.grt := rfl
@[simp] theorem State.withWch_drv (x : Wch) : (s.withWch x).drv = s.drv := rfl
@[simp] theorem State.withWch_str (x : Wch) : (s.withWch x).str = s.str := rfl
@[simp] theorem State.withWch_wch (x : Wch) : (s.withWch x).wch = x := rfl
@[simp] theorem State.withWch_lgt (x : Wch) : (s.withWch x).lgt = s.lgt := rfl
@[simp] theorem State.withWch_dlr (x : Wch) : (s.withWch x).dlr = s.dlr := rfl
@[simp] theorem State.withWch_pnd (x : Wch) : (s.withWch x).pnd = s.pnd := rfl
@[simp] theorem State.withWch_acp (x : Wch) : (s.withWch x).acp = s.acp := rfl
@[simp] theorem State.withWch_rsc (x : Wch) : (s.withWch x).rsc = s.rsc := rfl
@[simp] theorem State.withWch_pending (x : Wch) : (s.withWch x).pending = s.pending := rfl
@[simp] theorem State.withWch_withWch (x y : Wch) : (s.withWch x).withWch y = s.withWch y := rfl
@[simp] theorem State.withWch_self : s.withWch s.wch = s := rfl

@[simp] theorem State.withLgt_now (x : Lgt) : (s.withLgt x).now = s.now := rfl
@[simp] theorem State.withLgt_lines (x : Lgt) : (s.withLgt x).lines = s.lines := rfl
@[simp] theorem State.withLgt_pmon (x : Lgt) : (s.withLgt x).pmon = s.pmon := rfl
@[simp] theorem State.withLgt_prot (x : Lgt) : (s.withLgt x).prot = s.prot := rfl
@[simp] theorem State.withLgt_bgt (x : Lgt) : (s.withLgt x).bgt = s.bgt := rfl
@[simp] theorem State.withLgt_grt (x : Lgt) : (s.withLgt x).grt = s.grt := rfl
@[simp] theorem State.withLgt_drv (x : Lgt) : (s.withLgt x).drv = s.drv := rfl
@[simp] theorem State.withLgt_str (x : Lgt) : (s.withLgt x).str = s.str := rfl
@[simp] theorem State.withLgt_wch (x : Lgt) : (s.withLgt x).wch = s.wch := rfl
@[simp] theorem State.withLgt_lgt (x : Lgt) : (s.withLgt x).lgt = x := rfl
@[simp] theorem State.withLgt_dlr (x : Lgt) : (s.withLgt x).dlr = s.dlr := rfl
@[simp] theorem State.withLgt_pnd (x : Lgt) : (s.withLgt x).pnd = s.pnd := rfl
@[simp] theorem State.withLgt_acp (x : Lgt) : (s.withLgt x).acp = s.acp := rfl
@[simp] theorem State.withLgt_rsc (x : Lgt) : (s.withLgt x).rsc = s.rsc := rfl
@[simp] theorem State.withLgt_pending (x : Lgt) : (s.withLgt x).pending = s.pending := rfl
@[simp] theorem State.withLgt_withLgt (x y : Lgt) : (s.withLgt x).withLgt y = s.withLgt y := rfl
@[simp] theorem State.withLgt_self : s.withLgt s.lgt = s := rfl

@[simp] theorem State.withDlr_now (x : Dlr) : (s.withDlr x).now = s.now := rfl
@[simp] theorem State.withDlr_lines (x : Dlr) : (s.withDlr x).lines = s.lines := rfl
@[simp] theorem State.withDlr_pmon (x : Dlr) : (s.withDlr x).pmon = s.pmon := rfl
@[simp] theorem State.withDlr_prot (x : Dlr) : (s.withDlr x).prot = s.prot := rfl
@[simp] theorem State.withDlr_bgt (x : Dlr) : (s.withDlr x).bgt = s.bgt := rfl
@[simp] theorem State.withDlr_grt (x : Dlr) : (s.withDlr x).grt = s.grt := rfl
@[simp] theorem State.withDlr_drv (x : Dlr) : (s.withDlr x).drv = s.drv := rfl
@[simp] theorem State.withDlr_str (x : Dlr) : (s.withDlr x).str = s.str := rfl
@[simp] theorem State.withDlr_wch (x : Dlr) : (s.withDlr x).wch = s.wch := rfl
@[simp] theorem State.withDlr_lgt (x : Dlr) : (s.withDlr x).lgt = s.lgt := rfl
@[simp] theorem State.withDlr_dlr (x : Dlr) : (s.withDlr x).dlr = x := rfl
@[simp] theorem State.withDlr_pnd (x : Dlr) : (s.withDlr x).pnd = s.pnd := rfl
@[simp] theorem State.withDlr_acp (x : Dlr) : (s.withDlr x).acp = s.acp := rfl
@[simp] theorem State.withDlr_rsc (x : Dlr) : (s.withDlr x).rsc = s.rsc := rfl
@[simp] theorem State.withDlr_pending (x : Dlr) : (s.withDlr x).pending = s.pending := rfl
@[simp] theorem State.withDlr_withDlr (x y : Dlr) : (s.withDlr x).withDlr y = s.withDlr y := rfl
@[simp] theorem State.withDlr_self : s.withDlr s.dlr = s := rfl

@[simp] theorem State.withPnd_now (x : Pnd) : (s.withPnd x).now = s.now := rfl
@[simp] theorem State.withPnd_lines (x : Pnd) : (s.withPnd x).lines = s.lines := rfl
@[simp] theorem State.withPnd_pmon (x : Pnd) : (s.withPnd x).pmon = s.pmon := rfl
@[simp] theorem State.withPnd_prot (x : Pnd) : (s.withPnd x).prot = s.prot := rfl
@[simp] theorem State.withPnd_bgt (x : Pnd) : (s.withPnd x).bgt = s.bgt := rfl
@[simp] theorem State.withPnd_grt (x : Pnd) : (s.withPnd x).grt = s.grt := rfl
@[simp] theorem State.withPnd_drv (x : Pnd) : (s.withPnd x).drv = s.drv := rfl
@[simp] theorem State.withPnd_str (x : Pnd) : (s.withPnd x).str = s.str := rfl
@[simp] theorem State.withPnd_wch (x : Pnd) : (s.withPnd x).wch = s.wch := rfl
@[simp] theorem State.withPnd_lgt (x : Pnd) : (s.withPnd x).lgt = s.lgt := rfl
@[simp] theorem State.withPnd_dlr (x : Pnd) : (s.withPnd x).dlr = s.dlr := rfl
@[simp] theorem State.withPnd_pnd (x : Pnd) : (s.withPnd x).pnd = x := rfl
@[simp] theorem State.withPnd_acp (x : Pnd) : (s.withPnd x).acp = s.acp := rfl
@[simp] theorem State.withPnd_rsc (x : Pnd) : (s.withPnd x).rsc = s.rsc := rfl
@[simp] theorem State.withPnd_pending (x : Pnd) : (s.withPnd x).pending = s.pending := rfl
@[simp] theorem State.withPnd_withPnd (x y : Pnd) : (s.withPnd x).withPnd y = s.withPnd y := rfl
@[simp] theorem State.withPnd_self : s.withPnd s.pnd = s := rfl

@[simp] theorem State.withAcp_now (x : Acp) : (s.withAcp x).now = s.now := rfl
@[simp] theorem State.withAcp_lines (x : Acp) : (s.withAcp x).lines = s.lines := rfl
@[simp] theorem State.withAcp_pmon (x : Acp) : (s.withAcp x).pmon = s.pmon := rfl
@[simp] theorem State.withAcp_prot (x : Acp) : (s.withAcp x).prot = s.prot := rfl
@[simp] theorem State.withAcp_bgt (x : Acp) : (s.withAcp x).bgt = s.bgt := rfl
@[simp] theorem State.withAcp_grt (x : Acp) : (s.withAcp x).grt = s.grt := rfl
@[simp] theorem State.withAcp_drv (x : Acp) : (s.withAcp x).drv = s.drv := rfl
@[simp] theorem State.withAcp_str (x : Acp) : (s.withAcp x).str = s.str := rfl
@[simp] theorem State.withAcp_wch (x : Acp) : (s.withAcp x).wch = s.wch := rfl
@[simp] theorem State.withAcp_lgt (x : Acp) : (s.withAcp x).lgt = s.lgt := rfl
@[simp] theorem State.withAcp_dlr (x : Acp) : (s.withAcp x).dlr = s.dlr := rfl
@[simp] theorem State.withAcp_pnd (x : Acp) : (s.withAcp x).pnd = s.pnd := rfl
@[simp] theorem State.withAcp_acp (x : Acp) : (s.withAcp x).acp = x := rfl
@[simp] theorem State.withAcp_rsc (x : Acp) : (s.withAcp x).rsc = s.rsc := rfl
@[simp] theorem State.withAcp_pending (x : Acp) : (s.withAcp x).pending = s.pending := rfl
@[simp] theorem State.withAcp_withAcp (x y : Acp) : (s.withAcp x).withAcp y = s.withAcp y := rfl
@[simp] theorem State.withAcp_self : s.withAcp s.acp = s := rfl

@[simp] theorem State.withRsc_now (x : Rsc) : (s.withRsc x).now = s.now := rfl
@[simp] theorem State.withRsc_lines (x : Rsc) : (s.withRsc x).lines = s.lines := rfl
@[simp] theorem State.withRsc_pmon (x : Rsc) : (s.withRsc x).pmon = s.pmon := rfl
@[simp] theorem State.withRsc_prot (x : Rsc) : (s.withRsc x).prot = s.prot := rfl
@[simp] theorem State.withRsc_bgt (x : Rsc) : (s.withRsc x).bgt = s.bgt := rfl
@[simp] theorem State.withRsc_grt (x : Rsc) : (s.withRsc x).grt = s.grt := rfl
@[simp] theorem State.withRsc_drv (x : Rsc) : (s.withRsc x).drv = s.drv := rfl
@[simp] theorem State.withRsc_str (x : Rsc) : (s.withRsc x).str = s.str := rfl
@[simp] theorem State.withRsc_wch (x : Rsc) : (s.withRsc x).wch = s.wch := rfl
@[simp] theorem State.withRsc_lgt (x : Rsc) : (s.withRsc x).lgt = s.lgt := rfl
@[simp] theorem State.withRsc_dlr (x : Rsc) : (s.withRsc x).dlr = s.dlr := rfl
@[simp] theorem State.withRsc_pnd (x : Rsc) : (s.withRsc x).pnd = s.pnd := rfl
@[simp] theorem State.withRsc_acp (x : Rsc) : (s.withRsc x).acp = s.acp := rfl
@[simp] theorem State.withRsc_rsc (x : Rsc) : (s.withRsc x).rsc = x := rfl
@[simp] theorem State.withRsc_pending (x : Rsc) : (s.withRsc x).pending = s.pending := rfl
@[simp] theorem State.withRsc_withRsc (x y : Rsc) : (s.withRsc x).withRsc y = s.withRsc y := rfl
@[simp] theorem State.withRsc_self : s.withRsc s.rsc = s := rfl

@[simp] theorem State.withPending_now (x : List Instr) : (s.withPending x).now = s.now := rfl
@[simp] theorem State.withPending_lines (x : List Instr) : (s.withPending x).lines = s.lines := rfl
@[simp] theorem State.withPending_pmon (x : List Instr) : (s.withPending x).pmon = s.pmon := rfl
@[simp] theorem State.withPending_prot (x : List Instr) : (s.withPending x).prot = s.prot := rfl
@[simp] theorem State.withPending_bgt (x : List Instr) : (s.withPending x).bgt = s.bgt := rfl
@[simp] theorem State.withPending_grt (x : List Instr) : (s.withPending x).grt = s.grt := rfl
@[simp] theorem State.withPending_drv (x : List Instr) : (s.withPending x).drv = s.drv := rfl
@[simp] theorem State.withPending_str (x : List Instr) : (s.withPending x).str = s.str := rfl
@[simp] theorem State.withPending_wch (x : List Instr) : (s.withPending x).wch = s.wch := rfl
@[simp] theorem State.withPending_lgt (x : List Instr) : (s.withPending x).lgt = s.lgt := rfl
@[simp] theorem State.withPending_dlr (x : List Instr) : (s.withPending x).dlr = s.dlr := rfl
@[simp] theorem State.withPending_pnd (x : List Instr) : (s.withPending x).pnd = s.pnd := rfl
@[simp] theorem State.withPending_acp (x : List Instr) : (s.withPending x).acp = s.acp := rfl
@[simp] theorem State.withPending_rsc (x : List Instr) : (s.withPending x).rsc = s.rsc := rfl
@[simp] theorem State.withPending_pending (x : List Instr) : (s.withPending x).pending = x := rfl
@[simp] theorem State.withPending_withPending (x y : List Instr) : (s.withPending x).withPending y = s.withPending y := rfl
@[simp] theorem State.withPending_self : s.withPending s.pending = s := rfl

end Sys2Proof.Machine
end

