-- ==== Sys2Proof/Laws/Frames.lean ====
section
/-! SUPPORT. Which blocks each shared operation leaves unchanged: one lemma per operation and block, for `simp`. -/

namespace Sys2Proof.Machine

variable (s : State)


/-! ### `State.reach` -/

@[simp] theorem State.reach_lines (t : Nat) : (s.reach t).lines = s.lines := rfl
@[simp] theorem State.reach_pmon (t : Nat) : (s.reach t).pmon = s.pmon := rfl
@[simp] theorem State.reach_prot (t : Nat) : (s.reach t).prot = s.prot := rfl
@[simp] theorem State.reach_bgt (t : Nat) : (s.reach t).bgt = s.bgt := rfl
@[simp] theorem State.reach_grt (t : Nat) : (s.reach t).grt = s.grt := rfl
@[simp] theorem State.reach_drv (t : Nat) : (s.reach t).drv = s.drv := rfl
@[simp] theorem State.reach_str (t : Nat) : (s.reach t).str = s.str := rfl
@[simp] theorem State.reach_wch (t : Nat) : (s.reach t).wch = s.wch := rfl
@[simp] theorem State.reach_lgt (t : Nat) : (s.reach t).lgt = s.lgt := rfl
@[simp] theorem State.reach_dlr (t : Nat) : (s.reach t).dlr = s.dlr := rfl
@[simp] theorem State.reach_pnd (t : Nat) : (s.reach t).pnd = s.pnd := rfl
@[simp] theorem State.reach_acp (t : Nat) : (s.reach t).acp = s.acp := rfl
@[simp] theorem State.reach_rsc (t : Nat) : (s.reach t).rsc = s.rsc := rfl
@[simp] theorem State.reach_pending (t : Nat) : (s.reach t).pending = s.pending := rfl

/-! ### `State.setWinchDuty` -/

@[simp] theorem State.setWinchDuty_now (d : Int) : (s.setWinchDuty d).now = s.now := rfl
@[simp] theorem State.setWinchDuty_lines (d : Int) : (s.setWinchDuty d).lines = s.lines := rfl
@[simp] theorem State.setWinchDuty_pmon (d : Int) : (s.setWinchDuty d).pmon = s.pmon := rfl
@[simp] theorem State.setWinchDuty_prot (d : Int) : (s.setWinchDuty d).prot = s.prot := rfl
@[simp] theorem State.setWinchDuty_bgt (d : Int) : (s.setWinchDuty d).bgt = s.bgt := rfl
@[simp] theorem State.setWinchDuty_grt (d : Int) : (s.setWinchDuty d).grt = s.grt := rfl
@[simp] theorem State.setWinchDuty_str (d : Int) : (s.setWinchDuty d).str = s.str := rfl
@[simp] theorem State.setWinchDuty_lgt (d : Int) : (s.setWinchDuty d).lgt = s.lgt := rfl
@[simp] theorem State.setWinchDuty_dlr (d : Int) : (s.setWinchDuty d).dlr = s.dlr := rfl
@[simp] theorem State.setWinchDuty_pnd (d : Int) : (s.setWinchDuty d).pnd = s.pnd := rfl
@[simp] theorem State.setWinchDuty_acp (d : Int) : (s.setWinchDuty d).acp = s.acp := rfl
@[simp] theorem State.setWinchDuty_rsc (d : Int) : (s.setWinchDuty d).rsc = s.rsc := rfl
@[simp] theorem State.setWinchDuty_pending (d : Int) : (s.setWinchDuty d).pending = s.pending := rfl

/-! ### `State.writeWinchValue` -/

@[simp] theorem State.writeWinchValue_now (v : Int) : (s.writeWinchValue v).now = s.now := rfl
@[simp] theorem State.writeWinchValue_lines (v : Int) : (s.writeWinchValue v).lines = s.lines := rfl
@[simp] theorem State.writeWinchValue_pmon (v : Int) : (s.writeWinchValue v).pmon = s.pmon := rfl
@[simp] theorem State.writeWinchValue_prot (v : Int) : (s.writeWinchValue v).prot = s.prot := rfl
@[simp] theorem State.writeWinchValue_bgt (v : Int) : (s.writeWinchValue v).bgt = s.bgt := rfl
@[simp] theorem State.writeWinchValue_drv (v : Int) : (s.writeWinchValue v).drv = s.drv := rfl
@[simp] theorem State.writeWinchValue_str (v : Int) : (s.writeWinchValue v).str = s.str := rfl
@[simp] theorem State.writeWinchValue_wch (v : Int) : (s.writeWinchValue v).wch = s.wch := rfl
@[simp] theorem State.writeWinchValue_lgt (v : Int) : (s.writeWinchValue v).lgt = s.lgt := rfl
@[simp] theorem State.writeWinchValue_dlr (v : Int) : (s.writeWinchValue v).dlr = s.dlr := rfl
@[simp] theorem State.writeWinchValue_pnd (v : Int) : (s.writeWinchValue v).pnd = s.pnd := rfl
@[simp] theorem State.writeWinchValue_acp (v : Int) : (s.writeWinchValue v).acp = s.acp := rfl
@[simp] theorem State.writeWinchValue_rsc (v : Int) : (s.writeWinchValue v).rsc = s.rsc := rfl
@[simp] theorem State.writeWinchValue_pending (v : Int) : (s.writeWinchValue v).pending = s.pending := rfl

/-! ### `State.writeHeldWinchValue` -/

@[simp] theorem State.writeHeldWinchValue_now (v : Int) : (s.writeHeldWinchValue v).now = s.now := rfl
@[simp] theorem State.writeHeldWinchValue_lines (v : Int) : (s.writeHeldWinchValue v).lines = s.lines := rfl
@[simp] theorem State.writeHeldWinchValue_pmon (v : Int) : (s.writeHeldWinchValue v).pmon = s.pmon := rfl
@[simp] theorem State.writeHeldWinchValue_prot (v : Int) : (s.writeHeldWinchValue v).prot = s.prot := rfl
@[simp] theorem State.writeHeldWinchValue_bgt (v : Int) : (s.writeHeldWinchValue v).bgt = s.bgt := rfl
@[simp] theorem State.writeHeldWinchValue_drv (v : Int) : (s.writeHeldWinchValue v).drv = s.drv := rfl
@[simp] theorem State.writeHeldWinchValue_str (v : Int) : (s.writeHeldWinchValue v).str = s.str := rfl
@[simp] theorem State.writeHeldWinchValue_wch (v : Int) : (s.writeHeldWinchValue v).wch = s.wch := rfl
@[simp] theorem State.writeHeldWinchValue_lgt (v : Int) : (s.writeHeldWinchValue v).lgt = s.lgt := rfl
@[simp] theorem State.writeHeldWinchValue_dlr (v : Int) : (s.writeHeldWinchValue v).dlr = s.dlr := rfl
@[simp] theorem State.writeHeldWinchValue_pnd (v : Int) : (s.writeHeldWinchValue v).pnd = s.pnd := rfl
@[simp] theorem State.writeHeldWinchValue_acp (v : Int) : (s.writeHeldWinchValue v).acp = s.acp := rfl
@[simp] theorem State.writeHeldWinchValue_rsc (v : Int) : (s.writeHeldWinchValue v).rsc = s.rsc := rfl
@[simp] theorem State.writeHeldWinchValue_pending (v : Int) : (s.writeHeldWinchValue v).pending = s.pending := rfl

/-! ### `State.raise` -/

@[simp] theorem State.raise_now (e : FaultEntry) : (s.raise e).now = s.now := rfl
@[simp] theorem State.raise_lines (e : FaultEntry) : (s.raise e).lines = s.lines := rfl
@[simp] theorem State.raise_pmon (e : FaultEntry) : (s.raise e).pmon = s.pmon := rfl
@[simp] theorem State.raise_prot (e : FaultEntry) : (s.raise e).prot = s.prot := rfl
@[simp] theorem State.raise_bgt (e : FaultEntry) : (s.raise e).bgt = s.bgt := rfl
@[simp] theorem State.raise_grt (e : FaultEntry) : (s.raise e).grt = s.grt := rfl
@[simp] theorem State.raise_drv (e : FaultEntry) : (s.raise e).drv = s.drv := rfl
@[simp] theorem State.raise_str (e : FaultEntry) : (s.raise e).str = s.str := rfl
@[simp] theorem State.raise_wch (e : FaultEntry) : (s.raise e).wch = s.wch := rfl
@[simp] theorem State.raise_lgt (e : FaultEntry) : (s.raise e).lgt = s.lgt := rfl
@[simp] theorem State.raise_dlr (e : FaultEntry) : (s.raise e).dlr = s.dlr := rfl
@[simp] theorem State.raise_pnd (e : FaultEntry) : (s.raise e).pnd = s.pnd := rfl
@[simp] theorem State.raise_rsc (e : FaultEntry) : (s.raise e).rsc = s.rsc := rfl
@[simp] theorem State.raise_pending (e : FaultEntry) : (s.raise e).pending = s.pending := rfl

/-! ### `State.raiseResult` -/

@[simp] theorem State.raiseResult_now (r : OrderResult) : (s.raiseResult r).now = s.now := by unfold State.raiseResult; split <;> simp
@[simp] theorem State.raiseResult_lines (r : OrderResult) : (s.raiseResult r).lines = s.lines := by unfold State.raiseResult; split <;> simp
@[simp] theorem State.raiseResult_pmon (r : OrderResult) : (s.raiseResult r).pmon = s.pmon := by unfold State.raiseResult; split <;> simp
@[simp] theorem State.raiseResult_prot (r : OrderResult) : (s.raiseResult r).prot = s.prot := by unfold State.raiseResult; split <;> simp
@[simp] theorem State.raiseResult_bgt (r : OrderResult) : (s.raiseResult r).bgt = s.bgt := by unfold State.raiseResult; split <;> simp
@[simp] theorem State.raiseResult_grt (r : OrderResult) : (s.raiseResult r).grt = s.grt := by unfold State.raiseResult; split <;> simp
@[simp] theorem State.raiseResult_drv (r : OrderResult) : (s.raiseResult r).drv = s.drv := by unfold State.raiseResult; split <;> simp
@[simp] theorem State.raiseResult_str (r : OrderResult) : (s.raiseResult r).str = s.str := by unfold State.raiseResult; split <;> simp
@[simp] theorem State.raiseResult_wch (r : OrderResult) : (s.raiseResult r).wch = s.wch := by unfold State.raiseResult; split <;> simp
@[simp] theorem State.raiseResult_lgt (r : OrderResult) : (s.raiseResult r).lgt = s.lgt := by unfold State.raiseResult; split <;> simp
@[simp] theorem State.raiseResult_dlr (r : OrderResult) : (s.raiseResult r).dlr = s.dlr := by unfold State.raiseResult; split <;> simp
@[simp] theorem State.raiseResult_pnd (r : OrderResult) : (s.raiseResult r).pnd = s.pnd := by unfold State.raiseResult; split <;> simp
@[simp] theorem State.raiseResult_rsc (r : OrderResult) : (s.raiseResult r).rsc = s.rsc := by unfold State.raiseResult; split <;> simp
@[simp] theorem State.raiseResult_pending (r : OrderResult) : (s.raiseResult r).pending = s.pending := by unfold State.raiseResult; split <;> simp

/-! ### `State.endOrder` -/

@[simp] theorem State.endOrder_now (i : Fin 4) (o : Order) (r : OrderResult) : (s.endOrder i o r).now = s.now := by unfold State.endOrder; dsimp only; (repeat' split) <;> simp
@[simp] theorem State.endOrder_lines (i : Fin 4) (o : Order) (r : OrderResult) : (s.endOrder i o r).lines = s.lines := by unfold State.endOrder; dsimp only; (repeat' split) <;> simp
@[simp] theorem State.endOrder_pmon (i : Fin 4) (o : Order) (r : OrderResult) : (s.endOrder i o r).pmon = s.pmon := by unfold State.endOrder; dsimp only; (repeat' split) <;> simp
@[simp] theorem State.endOrder_prot (i : Fin 4) (o : Order) (r : OrderResult) : (s.endOrder i o r).prot = s.prot := by unfold State.endOrder; dsimp only; (repeat' split) <;> simp
@[simp] theorem State.endOrder_bgt (i : Fin 4) (o : Order) (r : OrderResult) : (s.endOrder i o r).bgt = s.bgt := by unfold State.endOrder; dsimp only; (repeat' split) <;> simp
@[simp] theorem State.endOrder_str (i : Fin 4) (o : Order) (r : OrderResult) : (s.endOrder i o r).str = s.str := by unfold State.endOrder; dsimp only; (repeat' split) <;> simp
@[simp] theorem State.endOrder_lgt (i : Fin 4) (o : Order) (r : OrderResult) : (s.endOrder i o r).lgt = s.lgt := by unfold State.endOrder; dsimp only; (repeat' split) <;> simp
@[simp] theorem State.endOrder_dlr (i : Fin 4) (o : Order) (r : OrderResult) : (s.endOrder i o r).dlr = s.dlr := by unfold State.endOrder; dsimp only; (repeat' split) <;> simp
@[simp] theorem State.endOrder_pnd (i : Fin 4) (o : Order) (r : OrderResult) : (s.endOrder i o r).pnd = s.pnd := by unfold State.endOrder; dsimp only; (repeat' split) <;> simp
@[simp] theorem State.endOrder_rsc (i : Fin 4) (o : Order) (r : OrderResult) : (s.endOrder i o r).rsc = s.rsc := by unfold State.endOrder; dsimp only; (repeat' split) <;> simp
@[simp] theorem State.endOrder_pending (i : Fin 4) (o : Order) (r : OrderResult) : (s.endOrder i o r).pending = s.pending := by unfold State.endOrder; dsimp only; (repeat' split) <;> simp

/-! ### `State.endActive` -/

@[simp] theorem State.endActive_now (r : OrderResult) : (s.endActive r).now = s.now := by unfold State.endActive; split <;> simp
@[simp] theorem State.endActive_lines (r : OrderResult) : (s.endActive r).lines = s.lines := by unfold State.endActive; split <;> simp
@[simp] theorem State.endActive_pmon (r : OrderResult) : (s.endActive r).pmon = s.pmon := by unfold State.endActive; split <;> simp
@[simp] theorem State.endActive_prot (r : OrderResult) : (s.endActive r).prot = s.prot := by unfold State.endActive; split <;> simp
@[simp] theorem State.endActive_bgt (r : OrderResult) : (s.endActive r).bgt = s.bgt := by unfold State.endActive; split <;> simp
@[simp] theorem State.endActive_str (r : OrderResult) : (s.endActive r).str = s.str := by unfold State.endActive; split <;> simp
@[simp] theorem State.endActive_lgt (r : OrderResult) : (s.endActive r).lgt = s.lgt := by unfold State.endActive; split <;> simp
@[simp] theorem State.endActive_dlr (r : OrderResult) : (s.endActive r).dlr = s.dlr := by unfold State.endActive; split <;> simp
@[simp] theorem State.endActive_pnd (r : OrderResult) : (s.endActive r).pnd = s.pnd := by unfold State.endActive; split <;> simp
@[simp] theorem State.endActive_rsc (r : OrderResult) : (s.endActive r).rsc = s.rsc := by unfold State.endActive; split <;> simp
@[simp] theorem State.endActive_pending (r : OrderResult) : (s.endActive r).pending = s.pending := by unfold State.endActive; split <;> simp

/-! ### `State.preempt` -/

@[simp] theorem State.preempt_now : s.preempt.now = s.now := by simp [State.preempt]
@[simp] theorem State.preempt_lines : s.preempt.lines = s.lines := by simp [State.preempt]
@[simp] theorem State.preempt_pmon : s.preempt.pmon = s.pmon := by simp [State.preempt]
@[simp] theorem State.preempt_prot : s.preempt.prot = s.prot := by simp [State.preempt]
@[simp] theorem State.preempt_bgt : s.preempt.bgt = s.bgt := by simp [State.preempt]
@[simp] theorem State.preempt_str : s.preempt.str = s.str := by simp [State.preempt]
@[simp] theorem State.preempt_lgt : s.preempt.lgt = s.lgt := by simp [State.preempt]
@[simp] theorem State.preempt_dlr : s.preempt.dlr = s.dlr := by simp [State.preempt]
@[simp] theorem State.preempt_pnd : s.preempt.pnd = s.pnd := by simp [State.preempt]
@[simp] theorem State.preempt_rsc : s.preempt.rsc = s.rsc := by simp [State.preempt]
@[simp] theorem State.preempt_pending : s.preempt.pending = s.pending := by simp [State.preempt]

/-! ### `State.winchHandover` -/

@[simp] theorem State.winchHandover_now (a b : Holder) : (s.winchHandover a b).now = s.now := by unfold State.winchHandover; dsimp only; (repeat' split) <;> simp
@[simp] theorem State.winchHandover_lines (a b : Holder) : (s.winchHandover a b).lines = s.lines := by unfold State.winchHandover; dsimp only; (repeat' split) <;> simp
@[simp] theorem State.winchHandover_pmon (a b : Holder) : (s.winchHandover a b).pmon = s.pmon := by unfold State.winchHandover; dsimp only; (repeat' split) <;> simp
@[simp] theorem State.winchHandover_prot (a b : Holder) : (s.winchHandover a b).prot = s.prot := by unfold State.winchHandover; dsimp only; (repeat' split) <;> simp
@[simp] theorem State.winchHandover_bgt (a b : Holder) : (s.winchHandover a b).bgt = s.bgt := by unfold State.winchHandover; dsimp only; (repeat' split) <;> simp
@[simp] theorem State.winchHandover_str (a b : Holder) : (s.winchHandover a b).str = s.str := by unfold State.winchHandover; dsimp only; (repeat' split) <;> simp
@[simp] theorem State.winchHandover_lgt (a b : Holder) : (s.winchHandover a b).lgt = s.lgt := by unfold State.winchHandover; dsimp only; (repeat' split) <;> simp
@[simp] theorem State.winchHandover_dlr (a b : Holder) : (s.winchHandover a b).dlr = s.dlr := by unfold State.winchHandover; dsimp only; (repeat' split) <;> simp
@[simp] theorem State.winchHandover_pnd (a b : Holder) : (s.winchHandover a b).pnd = s.pnd := by unfold State.winchHandover; dsimp only; (repeat' split) <;> simp
@[simp] theorem State.winchHandover_rsc (a b : Holder) : (s.winchHandover a b).rsc = s.rsc := by unfold State.winchHandover; dsimp only; (repeat' split) <;> simp
@[simp] theorem State.winchHandover_pending (a b : Holder) : (s.winchHandover a b).pending = s.pending := by unfold State.winchHandover; dsimp only; (repeat' split) <;> simp

/-! ### `State.commitGrants` -/

@[simp] theorem State.commitGrants_now (g : Grt) : (s.commitGrants g).now = s.now := by simp [State.commitGrants]
@[simp] theorem State.commitGrants_lines (g : Grt) : (s.commitGrants g).lines = s.lines := by simp [State.commitGrants]
@[simp] theorem State.commitGrants_pmon (g : Grt) : (s.commitGrants g).pmon = s.pmon := by simp [State.commitGrants]
@[simp] theorem State.commitGrants_bgt (g : Grt) : (s.commitGrants g).bgt = s.bgt := by simp [State.commitGrants]
@[simp] theorem State.commitGrants_str (g : Grt) : (s.commitGrants g).str = s.str := by simp [State.commitGrants]
@[simp] theorem State.commitGrants_dlr (g : Grt) : (s.commitGrants g).dlr = s.dlr := by simp [State.commitGrants]
@[simp] theorem State.commitGrants_pnd (g : Grt) : (s.commitGrants g).pnd = s.pnd := by simp [State.commitGrants]
@[simp] theorem State.commitGrants_pending (g : Grt) : (s.commitGrants g).pending = s.pending := by simp [State.commitGrants]

/-! ### `State.leaveClosed` -/

@[simp] theorem State.leaveClosed_now : s.leaveClosed.now = s.now := rfl
@[simp] theorem State.leaveClosed_lines : s.leaveClosed.lines = s.lines := rfl
@[simp] theorem State.leaveClosed_pmon : s.leaveClosed.pmon = s.pmon := rfl
@[simp] theorem State.leaveClosed_grt : s.leaveClosed.grt = s.grt := rfl
@[simp] theorem State.leaveClosed_dlr : s.leaveClosed.dlr = s.dlr := rfl
@[simp] theorem State.leaveClosed_pnd : s.leaveClosed.pnd = s.pnd := rfl
@[simp] theorem State.leaveClosed_acp : s.leaveClosed.acp = s.acp := rfl
@[simp] theorem State.leaveClosed_rsc : s.leaveClosed.rsc = s.rsc := rfl
@[simp] theorem State.leaveClosed_pending : s.leaveClosed.pending = s.pending := rfl

/-! ### `State.openSwitch` -/

@[simp] theorem State.openSwitch_now : s.openSwitch.now = s.now := by unfold State.openSwitch; split <;> simp
@[simp] theorem State.openSwitch_lines : s.openSwitch.lines = s.lines := by unfold State.openSwitch; split <;> simp
@[simp] theorem State.openSwitch_pmon : s.openSwitch.pmon = s.pmon := by unfold State.openSwitch; split <;> simp
@[simp] theorem State.openSwitch_grt : s.openSwitch.grt = s.grt := by unfold State.openSwitch; split <;> simp
@[simp] theorem State.openSwitch_dlr : s.openSwitch.dlr = s.dlr := by unfold State.openSwitch; split <;> simp
@[simp] theorem State.openSwitch_pnd : s.openSwitch.pnd = s.pnd := by unfold State.openSwitch; split <;> simp
@[simp] theorem State.openSwitch_acp : s.openSwitch.acp = s.acp := by unfold State.openSwitch; split <;> simp
@[simp] theorem State.openSwitch_rsc : s.openSwitch.rsc = s.rsc := by unfold State.openSwitch; split <;> simp
@[simp] theorem State.openSwitch_pending : s.openSwitch.pending = s.pending := by unfold State.openSwitch; split <;> simp

/-! ### `State.enterCutoff` -/

@[simp] theorem State.enterCutoff_now (c : CutCause) : (s.enterCutoff c).now = s.now := by simp [State.enterCutoff]
@[simp] theorem State.enterCutoff_lines (c : CutCause) : (s.enterCutoff c).lines = s.lines := by simp [State.enterCutoff]
@[simp] theorem State.enterCutoff_pmon (c : CutCause) : (s.enterCutoff c).pmon = s.pmon := by simp [State.enterCutoff]
@[simp] theorem State.enterCutoff_str (c : CutCause) : (s.enterCutoff c).str = s.str := by simp [State.enterCutoff]
@[simp] theorem State.enterCutoff_lgt (c : CutCause) : (s.enterCutoff c).lgt = s.lgt := by simp [State.enterCutoff]
@[simp] theorem State.enterCutoff_dlr (c : CutCause) : (s.enterCutoff c).dlr = s.dlr := by simp [State.enterCutoff]
@[simp] theorem State.enterCutoff_pnd (c : CutCause) : (s.enterCutoff c).pnd = s.pnd := by simp [State.enterCutoff]
@[simp] theorem State.enterCutoff_rsc (c : CutCause) : (s.enterCutoff c).rsc = s.rsc := by simp [State.enterCutoff]
@[simp] theorem State.enterCutoff_pending (c : CutCause) : (s.enterCutoff c).pending = s.pending := by simp [State.enterCutoff]

/-! ### `State.restoreSave` -/

@[simp] theorem State.restoreSave_now (sv : BenchSave) (b : Bool) : (s.restoreSave sv b).now = s.now := rfl
@[simp] theorem State.restoreSave_lines (sv : BenchSave) (b : Bool) : (s.restoreSave sv b).lines = s.lines := rfl
@[simp] theorem State.restoreSave_bgt (sv : BenchSave) (b : Bool) : (s.restoreSave sv b).bgt = s.bgt := rfl
@[simp] theorem State.restoreSave_grt (sv : BenchSave) (b : Bool) : (s.restoreSave sv b).grt = s.grt := rfl
@[simp] theorem State.restoreSave_drv (sv : BenchSave) (b : Bool) : (s.restoreSave sv b).drv = s.drv := rfl
@[simp] theorem State.restoreSave_str (sv : BenchSave) (b : Bool) : (s.restoreSave sv b).str = s.str := rfl
@[simp] theorem State.restoreSave_lgt (sv : BenchSave) (b : Bool) : (s.restoreSave sv b).lgt = s.lgt := rfl
@[simp] theorem State.restoreSave_dlr (sv : BenchSave) (b : Bool) : (s.restoreSave sv b).dlr = s.dlr := rfl
@[simp] theorem State.restoreSave_pnd (sv : BenchSave) (b : Bool) : (s.restoreSave sv b).pnd = s.pnd := rfl
@[simp] theorem State.restoreSave_acp (sv : BenchSave) (b : Bool) : (s.restoreSave sv b).acp = s.acp := rfl
@[simp] theorem State.restoreSave_pending (sv : BenchSave) (b : Bool) : (s.restoreSave sv b).pending = s.pending := rfl

/-! ### `State.leaveDry` -/

@[simp] theorem State.leaveDry_now (sv : BenchSave) : (s.leaveDry sv).now = s.now := rfl
@[simp] theorem State.leaveDry_lines (sv : BenchSave) : (s.leaveDry sv).lines = s.lines := rfl
@[simp] theorem State.leaveDry_prot (sv : BenchSave) : (s.leaveDry sv).prot = s.prot := rfl
@[simp] theorem State.leaveDry_grt (sv : BenchSave) : (s.leaveDry sv).grt = s.grt := rfl
@[simp] theorem State.leaveDry_dlr (sv : BenchSave) : (s.leaveDry sv).dlr = s.dlr := rfl
@[simp] theorem State.leaveDry_pnd (sv : BenchSave) : (s.leaveDry sv).pnd = s.pnd := rfl
@[simp] theorem State.leaveDry_acp (sv : BenchSave) : (s.leaveDry sv).acp = s.acp := rfl
@[simp] theorem State.leaveDry_rsc (sv : BenchSave) : (s.leaveDry sv).rsc = s.rsc := rfl
@[simp] theorem State.leaveDry_pending (sv : BenchSave) : (s.leaveDry sv).pending = s.pending := rfl

/-! ### `State.leaveBench` -/

@[simp] theorem State.leaveBench_now (b : Bool) : (s.leaveBench b).now = s.now := by unfold State.leaveBench; (repeat' split) <;> simp
@[simp] theorem State.leaveBench_lines (b : Bool) : (s.leaveBench b).lines = s.lines := by unfold State.leaveBench; (repeat' split) <;> simp
@[simp] theorem State.leaveBench_grt (b : Bool) : (s.leaveBench b).grt = s.grt := by unfold State.leaveBench; (repeat' split) <;> simp
@[simp] theorem State.leaveBench_dlr (b : Bool) : (s.leaveBench b).dlr = s.dlr := by unfold State.leaveBench; (repeat' split) <;> simp
@[simp] theorem State.leaveBench_pnd (b : Bool) : (s.leaveBench b).pnd = s.pnd := by unfold State.leaveBench; (repeat' split) <;> simp
@[simp] theorem State.leaveBench_acp (b : Bool) : (s.leaveBench b).acp = s.acp := by unfold State.leaveBench; (repeat' split) <;> simp
@[simp] theorem State.leaveBench_pending (b : Bool) : (s.leaveBench b).pending = s.pending := by unfold State.leaveBench; (repeat' split) <;> simp

/-! ### `State.haltWith` -/

@[simp] theorem State.haltWith_now (b : Bool) : (s.haltWith b).now = s.now := by unfold State.haltWith; dsimp only; simp
@[simp] theorem State.haltWith_lines (b : Bool) : (s.haltWith b).lines = s.lines := by unfold State.haltWith; dsimp only; simp
@[simp] theorem State.haltWith_dlr (b : Bool) : (s.haltWith b).dlr = s.dlr := by unfold State.haltWith; dsimp only; simp
@[simp] theorem State.haltWith_pnd (b : Bool) : (s.haltWith b).pnd = s.pnd := by unfold State.haltWith; dsimp only; simp
@[simp] theorem State.haltWith_pending (b : Bool) : (s.haltWith b).pending = s.pending := by unfold State.haltWith; dsimp only; simp

/-! ### `State.halt` -/

@[simp] theorem State.halt_now : s.halt.now = s.now := by simp [State.halt]
@[simp] theorem State.halt_lines : s.halt.lines = s.lines := by simp [State.halt]
@[simp] theorem State.halt_dlr : s.halt.dlr = s.dlr := by simp [State.halt]
@[simp] theorem State.halt_pnd : s.halt.pnd = s.pnd := by simp [State.halt]
@[simp] theorem State.halt_pending : s.halt.pending = s.pending := by simp [State.halt]

/-! ### `State.enterSleep` -/

@[simp] theorem State.enterSleep_now (o : SleepOrigin) : (s.enterSleep o).now = s.now := by simp [State.enterSleep]
@[simp] theorem State.enterSleep_lines (o : SleepOrigin) : (s.enterSleep o).lines = s.lines := by simp [State.enterSleep]
@[simp] theorem State.enterSleep_pmon (o : SleepOrigin) : (s.enterSleep o).pmon = s.pmon := by simp [State.enterSleep]
@[simp] theorem State.enterSleep_dlr (o : SleepOrigin) : (s.enterSleep o).dlr = s.dlr := by simp [State.enterSleep]
@[simp] theorem State.enterSleep_pnd (o : SleepOrigin) : (s.enterSleep o).pnd = s.pnd := by simp [State.enterSleep]
@[simp] theorem State.enterSleep_pending (o : SleepOrigin) : (s.enterSleep o).pending = s.pending := by simp [State.enterSleep]

/-! ### `State.wakeSource` -/

@[simp] theorem State.wakeSource_now : s.wakeSource.now = s.now := rfl
@[simp] theorem State.wakeSource_lines : s.wakeSource.lines = s.lines := rfl
@[simp] theorem State.wakeSource_pmon : s.wakeSource.pmon = s.pmon := rfl
@[simp] theorem State.wakeSource_prot : s.wakeSource.prot = s.prot := rfl
@[simp] theorem State.wakeSource_bgt : s.wakeSource.bgt = s.bgt := rfl
@[simp] theorem State.wakeSource_grt : s.wakeSource.grt = s.grt := rfl
@[simp] theorem State.wakeSource_drv : s.wakeSource.drv = s.drv := rfl
@[simp] theorem State.wakeSource_str : s.wakeSource.str = s.str := rfl
@[simp] theorem State.wakeSource_wch : s.wakeSource.wch = s.wch := rfl
@[simp] theorem State.wakeSource_lgt : s.wakeSource.lgt = s.lgt := rfl
@[simp] theorem State.wakeSource_dlr : s.wakeSource.dlr = s.dlr := rfl
@[simp] theorem State.wakeSource_pnd : s.wakeSource.pnd = s.pnd := rfl
@[simp] theorem State.wakeSource_acp : s.wakeSource.acp = s.acp := rfl
@[simp] theorem State.wakeSource_pending : s.wakeSource.pending = s.pending := rfl

/-! ### `State.prechargeFailed` -/

@[simp] theorem State.prechargeFailed_now : s.prechargeFailed.now = s.now := by unfold State.prechargeFailed; split <;> simp
@[simp] theorem State.prechargeFailed_lines : s.prechargeFailed.lines = s.lines := by unfold State.prechargeFailed; split <;> simp
@[simp] theorem State.prechargeFailed_dlr : s.prechargeFailed.dlr = s.dlr := by unfold State.prechargeFailed; split <;> simp
@[simp] theorem State.prechargeFailed_pnd : s.prechargeFailed.pnd = s.pnd := by unfold State.prechargeFailed; split <;> simp
@[simp] theorem State.prechargeFailed_pending : s.prechargeFailed.pending = s.pending := by unfold State.prechargeFailed; split <;> simp

/-! ### `State.abortPrecharge` -/

@[simp] theorem State.abortPrecharge_now : s.abortPrecharge.now = s.now := by simp [State.abortPrecharge]
@[simp] theorem State.abortPrecharge_lines : s.abortPrecharge.lines = s.lines := by simp [State.abortPrecharge]
@[simp] theorem State.abortPrecharge_dlr : s.abortPrecharge.dlr = s.dlr := by simp [State.abortPrecharge]
@[simp] theorem State.abortPrecharge_pnd : s.abortPrecharge.pnd = s.pnd := by simp [State.abortPrecharge]
@[simp] theorem State.abortPrecharge_pending : s.abortPrecharge.pending = s.pending := by simp [State.abortPrecharge]

/-! ### `State.requestPrecharge` -/

@[simp] theorem State.requestPrecharge_now : s.requestPrecharge.now = s.now := by unfold State.requestPrecharge; dsimp only; (repeat' split) <;> simp
@[simp] theorem State.requestPrecharge_lines : s.requestPrecharge.lines = s.lines := by unfold State.requestPrecharge; dsimp only; (repeat' split) <;> simp
@[simp] theorem State.requestPrecharge_dlr : s.requestPrecharge.dlr = s.dlr := by unfold State.requestPrecharge; dsimp only; (repeat' split) <;> simp
@[simp] theorem State.requestPrecharge_pnd : s.requestPrecharge.pnd = s.pnd := by unfold State.requestPrecharge; dsimp only; (repeat' split) <;> simp
@[simp] theorem State.requestPrecharge_pending : s.requestPrecharge.pending = s.pending := by unfold State.requestPrecharge; dsimp only; (repeat' split) <;> simp

/-! ### `State.enterLockout` -/

@[simp] theorem State.enterLockout_now : s.enterLockout.now = s.now := by unfold State.enterLockout; dsimp only; (repeat' split) <;> simp
@[simp] theorem State.enterLockout_lines : s.enterLockout.lines = s.lines := by unfold State.enterLockout; dsimp only; (repeat' split) <;> simp
@[simp] theorem State.enterLockout_dlr : s.enterLockout.dlr = s.dlr := by unfold State.enterLockout; dsimp only; (repeat' split) <;> simp
@[simp] theorem State.enterLockout_pnd : s.enterLockout.pnd = s.pnd := by unfold State.enterLockout; dsimp only; (repeat' split) <;> simp
@[simp] theorem State.enterLockout_pending : s.enterLockout.pending = s.pending := by unfold State.enterLockout; dsimp only; (repeat' split) <;> simp

/-! ### `State.hardTrip` -/

@[simp] theorem State.hardTrip_now : s.hardTrip.now = s.now := by unfold State.hardTrip; dsimp only; (repeat' split) <;> simp
@[simp] theorem State.hardTrip_lines : s.hardTrip.lines = s.lines := by unfold State.hardTrip; dsimp only; (repeat' split) <;> simp
@[simp] theorem State.hardTrip_dlr : s.hardTrip.dlr = s.dlr := by unfold State.hardTrip; dsimp only; (repeat' split) <;> simp
@[simp] theorem State.hardTrip_pnd : s.hardTrip.pnd = s.pnd := by unfold State.hardTrip; dsimp only; (repeat' split) <;> simp
@[simp] theorem State.hardTrip_pending : s.hardTrip.pending = s.pending := by unfold State.hardTrip; dsimp only; (repeat' split) <;> simp

/-! ### `State.enterArming` -/

@[simp] theorem State.enterArming_now : s.enterArming.now = s.now := rfl
@[simp] theorem State.enterArming_lines : s.enterArming.lines = s.lines := rfl
@[simp] theorem State.enterArming_pmon : s.enterArming.pmon = s.pmon := rfl
@[simp] theorem State.enterArming_prot : s.enterArming.prot = s.prot := rfl
@[simp] theorem State.enterArming_bgt : s.enterArming.bgt = s.bgt := rfl
@[simp] theorem State.enterArming_grt : s.enterArming.grt = s.grt := rfl
@[simp] theorem State.enterArming_drv : s.enterArming.drv = s.drv := rfl
@[simp] theorem State.enterArming_str : s.enterArming.str = s.str := rfl
@[simp] theorem State.enterArming_wch : s.enterArming.wch = s.wch := rfl
@[simp] theorem State.enterArming_lgt : s.enterArming.lgt = s.lgt := rfl
@[simp] theorem State.enterArming_dlr : s.enterArming.dlr = s.dlr := rfl
@[simp] theorem State.enterArming_pnd : s.enterArming.pnd = s.pnd := rfl
@[simp] theorem State.enterArming_acp : s.enterArming.acp = s.acp := rfl
@[simp] theorem State.enterArming_pending : s.enterArming.pending = s.pending := rfl

/-! ### `State.makeStart` -/

@[simp] theorem State.makeStart_now : s.makeStart.now = s.now := by simp [State.makeStart]
@[simp] theorem State.makeStart_lines : s.makeStart.lines = s.lines := by simp [State.makeStart]
@[simp] theorem State.makeStart_dlr : s.makeStart.dlr = s.dlr := by simp [State.makeStart]
@[simp] theorem State.makeStart_pnd : s.makeStart.pnd = s.pnd := by simp [State.makeStart]
@[simp] theorem State.makeStart_pending : s.makeStart.pending = s.pending := by simp [State.makeStart]

/-! ### `State.applySettings` -/

@[simp] theorem State.applySettings_now (c : Settings) : (s.applySettings c).now = s.now := by unfold State.applySettings; dsimp only; (repeat' split) <;> simp
@[simp] theorem State.applySettings_lines (c : Settings) : (s.applySettings c).lines = s.lines := by unfold State.applySettings; dsimp only; (repeat' split) <;> simp
@[simp] theorem State.applySettings_pmon (c : Settings) : (s.applySettings c).pmon = s.pmon := by unfold State.applySettings; dsimp only; (repeat' split) <;> simp
@[simp] theorem State.applySettings_bgt (c : Settings) : (s.applySettings c).bgt = s.bgt := by unfold State.applySettings; dsimp only; (repeat' split) <;> simp
@[simp] theorem State.applySettings_dlr (c : Settings) : (s.applySettings c).dlr = s.dlr := by unfold State.applySettings; dsimp only; (repeat' split) <;> simp
@[simp] theorem State.applySettings_pnd (c : Settings) : (s.applySettings c).pnd = s.pnd := by unfold State.applySettings; dsimp only; (repeat' split) <;> simp
@[simp] theorem State.applySettings_pending (c : Settings) : (s.applySettings c).pending = s.pending := by unfold State.applySettings; dsimp only; (repeat' split) <;> simp

/-! ### `State.respond` -/

@[simp] theorem State.respond_now (st : Status) (d : List Byte) : (s.respond st d).now = s.now := rfl
@[simp] theorem State.respond_lines (st : Status) (d : List Byte) : (s.respond st d).lines = s.lines := rfl
@[simp] theorem State.respond_pmon (st : Status) (d : List Byte) : (s.respond st d).pmon = s.pmon := rfl
@[simp] theorem State.respond_prot (st : Status) (d : List Byte) : (s.respond st d).prot = s.prot := rfl
@[simp] theorem State.respond_bgt (st : Status) (d : List Byte) : (s.respond st d).bgt = s.bgt := rfl
@[simp] theorem State.respond_drv (st : Status) (d : List Byte) : (s.respond st d).drv = s.drv := rfl
@[simp] theorem State.respond_str (st : Status) (d : List Byte) : (s.respond st d).str = s.str := rfl
@[simp] theorem State.respond_wch (st : Status) (d : List Byte) : (s.respond st d).wch = s.wch := rfl
@[simp] theorem State.respond_lgt (st : Status) (d : List Byte) : (s.respond st d).lgt = s.lgt := rfl
@[simp] theorem State.respond_dlr (st : Status) (d : List Byte) : (s.respond st d).dlr = s.dlr := rfl
@[simp] theorem State.respond_pnd (st : Status) (d : List Byte) : (s.respond st d).pnd = s.pnd := rfl
@[simp] theorem State.respond_rsc (st : Status) (d : List Byte) : (s.respond st d).rsc = s.rsc := rfl
@[simp] theorem State.respond_pending (st : Status) (d : List Byte) : (s.respond st d).pending = s.pending := rfl

/-! ### `State.settle` -/

@[simp] theorem State.settle_now : s.settle.now = s.now := rfl
@[simp] theorem State.settle_lines : s.settle.lines = s.lines := rfl
@[simp] theorem State.settle_pmon : s.settle.pmon = s.pmon := rfl
@[simp] theorem State.settle_prot : s.settle.prot = s.prot := rfl
@[simp] theorem State.settle_bgt : s.settle.bgt = s.bgt := rfl
@[simp] theorem State.settle_grt : s.settle.grt = s.grt := rfl
@[simp] theorem State.settle_drv : s.settle.drv = s.drv := rfl
@[simp] theorem State.settle_str : s.settle.str = s.str := rfl
@[simp] theorem State.settle_wch : s.settle.wch = s.wch := rfl
@[simp] theorem State.settle_lgt : s.settle.lgt = s.lgt := rfl
@[simp] theorem State.settle_dlr : s.settle.dlr = s.dlr := rfl
@[simp] theorem State.settle_pnd : s.settle.pnd = s.pnd := rfl
@[simp] theorem State.settle_pending : s.settle.pending = s.pending := rfl

end Sys2Proof.Machine
end

