-- ==== Sys2Proof/Laws/Records.lean ====
section
/-! SUPPORT. The read-after-write and extensionality laws of the small records. -/

namespace Sys2Proof.Machine

@[simp] theorem PerQuantity.get_set_same {α : Type} (r : PerQuantity α) (i : Quantity) (a : α) : (r.set i a).get i = a := by
  cases i <;> rfl

theorem PerQuantity.get_set_other {α : Type} (r : PerQuantity α) (i j : Quantity) (a : α) (h : j ≠ i) : (r.set i a).get j = r.get j := by
  cases i <;> cases j <;> first | rfl | exact absurd rfl h

@[simp] theorem PerQuantity.get_build {α : Type} (g : Quantity → α) (i : Quantity) : (PerQuantity.build g).get i = g i := by
  cases i <;> rfl

theorem PerQuantity.ext_get {α : Type} (r t : PerQuantity α) (h : ∀ i, r.get i = t.get i) : r = t := by
  cases r; cases t
  have h_tap1 := h .tap1
  have h_tap2 := h .tap2
  have h_tap3 := h .tap3
  have h_tap4 := h .tap4
  have h_packVoltage := h .packVoltage
  have h_packCurrent := h .packCurrent
  have h_servoCurrent := h .servoCurrent
  have h_railVoltage := h .railVoltage
  have h_packTemp := h .packTemp
  have h_motorTemp := h .motorTemp
  simp_all [PerQuantity.get]

@[simp] theorem Quantity.mem_all (i : Quantity) : i ∈ Quantity.all := by cases i <;> decide

@[simp] theorem PerFn.get_set_same {α : Type} (r : PerFn α) (i : Fn) (a : α) : (r.set i a).get i = a := by
  cases i <;> rfl

theorem PerFn.get_set_other {α : Type} (r : PerFn α) (i j : Fn) (a : α) (h : j ≠ i) : (r.set i a).get j = r.get j := by
  cases i <;> cases j <;> first | rfl | exact absurd rfl h

@[simp] theorem PerFn.get_build {α : Type} (g : Fn → α) (i : Fn) : (PerFn.build g).get i = g i := by
  cases i <;> rfl

theorem PerFn.ext_get {α : Type} (r t : PerFn α) (h : ∀ i, r.get i = t.get i) : r = t := by
  cases r; cases t
  have h_throttle := h .throttle
  have h_steer := h .steer
  have h_steerMode := h .steerMode
  have h_gear := h .gear
  have h_diff := h .diff
  have h_winch := h .winch
  have h_scene := h .scene
  simp_all [PerFn.get]

@[simp] theorem Fn.mem_all (i : Fn) : i ∈ Fn.all := by cases i <;> decide

@[simp] theorem PerConsumer.get_set_same {α : Type} (r : PerConsumer α) (i : Consumer) (a : α) : (r.set i a).get i = a := by
  cases i <;> rfl

theorem PerConsumer.get_set_other {α : Type} (r : PerConsumer α) (i j : Consumer) (a : α) (h : j ≠ i) : (r.set i a).get j = r.get j := by
  cases i <;> cases j <;> first | rfl | exact absurd rfl h

@[simp] theorem PerConsumer.get_build {α : Type} (g : Consumer → α) (i : Consumer) : (PerConsumer.build g).get i = g i := by
  cases i <;> rfl

theorem PerConsumer.ext_get {α : Type} (r t : PerConsumer α) (h : ∀ i, r.get i = t.get i) : r = t := by
  cases r; cases t
  have h_servo := h .servo
  have h_drive := h .drive
  have h_winch := h .winch
  have h_lights := h .lights
  simp_all [PerConsumer.get]

@[simp] theorem Consumer.mem_all (i : Consumer) : i ∈ Consumer.all := by cases i <;> decide

@[simp] theorem PerServo.get_set_same {α : Type} (r : PerServo α) (i : Servo) (a : α) : (r.set i a).get i = a := by
  cases i <;> rfl

theorem PerServo.get_set_other {α : Type} (r : PerServo α) (i j : Servo) (a : α) (h : j ≠ i) : (r.set i a).get j = r.get j := by
  cases i <;> cases j <;> first | rfl | exact absurd rfl h

@[simp] theorem PerServo.get_build {α : Type} (g : Servo → α) (i : Servo) : (PerServo.build g).get i = g i := by
  cases i <;> rfl

theorem PerServo.ext_get {α : Type} (r t : PerServo α) (h : ∀ i, r.get i = t.get i) : r = t := by
  cases r; cases t
  have h_frontSteer := h .frontSteer
  have h_rearSteer := h .rearSteer
  have h_gear := h .gear
  have h_frontDiff := h .frontDiff
  have h_rearDiff := h .rearDiff
  simp_all [PerServo.get]

@[simp] theorem Servo.mem_all (i : Servo) : i ∈ Servo.all := by cases i <;> decide

@[simp] theorem PerLamp.get_set_same {α : Type} (r : PerLamp α) (i : Lamp) (a : α) : (r.set i a).get i = a := by
  cases i <;> rfl

theorem PerLamp.get_set_other {α : Type} (r : PerLamp α) (i j : Lamp) (a : α) (h : j ≠ i) : (r.set i a).get j = r.get j := by
  cases i <;> cases j <;> first | rfl | exact absurd rfl h

@[simp] theorem PerLamp.get_build {α : Type} (g : Lamp → α) (i : Lamp) : (PerLamp.build g).get i = g i := by
  cases i <;> rfl

theorem PerLamp.ext_get {α : Type} (r t : PerLamp α) (h : ∀ i, r.get i = t.get i) : r = t := by
  cases r; cases t
  have h_l0 := h .l0
  have h_l1 := h .l1
  have h_l2 := h .l2
  have h_l3 := h .l3
  have h_l4 := h .l4
  have h_l5 := h .l5
  have h_l6 := h .l6
  have h_l7 := h .l7
  simp_all [PerLamp.get]

@[simp] theorem Lamp.mem_all (i : Lamp) : i ∈ Lamp.all := by cases i <;> decide

@[simp] theorem PerSlot.get_set_same {α : Type} (r : PerSlot α) (i : Fin 4) (a : α) : (r.set i a).get i = a := by
  fin_cases i <;> rfl

theorem PerSlot.get_set_other {α : Type} (r : PerSlot α) (i j : Fin 4) (a : α) (h : j ≠ i) : (r.set i a).get j = r.get j := by
  fin_cases i <;> fin_cases j <;> first | rfl | exact absurd rfl h

@[simp] theorem PerSlot.get_build {α : Type} (g : Fin 4 → α) (i : Fin 4) : (PerSlot.build g).get i = g i := by
  fin_cases i <;> rfl

theorem PerSlot.ext_get {α : Type} (r t : PerSlot α) (h : ∀ i, r.get i = t.get i) : r = t := by
  cases r; cases t
  have h0 := h 0; have h1 := h 1; have h2 := h 2; have h3 := h 3
  simp_all [PerSlot.get]

@[simp] theorem PerDwell.get_set_same {α : Type} (r : PerDwell α) (i : Dwell) (a : α) : (r.set i a).get i = a := by
  cases i <;> rfl

theorem PerDwell.get_set_other {α : Type} (r : PerDwell α) (i j : Dwell) (a : α) (h : j ≠ i) : (r.set i a).get j = r.get j := by
  cases i <;> cases j <;> first | rfl | exact absurd rfl h

@[simp] theorem PerDwell.get_build {α : Type} (g : Dwell → α) (i : Dwell) : (PerDwell.build g).get i = g i := by
  cases i <;> rfl

theorem PerDwell.ext_get {α : Type} (r t : PerDwell α) (h : ∀ i, r.get i = t.get i) : r = t := by
  cases r; cases t
  have h_warnEntry := h .warnEntry
  have h_warnExit := h .warnExit
  have h_cut := h .cut
  have h_crit := h .crit
  have h_rearm := h .rearm
  simp_all [PerDwell.get]

@[simp] theorem Dwell.mem_all (i : Dwell) : i ∈ Dwell.all := by cases i <;> decide

@[simp] theorem FaultEntry.mem_all (e : FaultEntry) : e ∈ FaultEntry.all := by cases e <;> decide

theorem FaultEntry.code_lt (e : FaultEntry) : e.code < 16 := by cases e <;> decide

end Sys2Proof.Machine
end

