-- ==== Sys2Proof/Laws/Effects.lean ====
section
/-! SUPPORT. What each shared operation does, said once: the lemmas later proofs cite instead of unfolding it. -/

namespace Sys2Proof.Machine

variable (s : State)

/-! ### Time and the end of a command -/

@[simp] theorem State.reach_now (t : Nat) : (s.reach t).now = max s.now t := rfl

/-- Outside its latched flags, `settle` leaves the accessory port. -/
theorem State.settle_acp :
    s.settle.acp = { s.acp with latched := s.acp.latched ||| faultWord s.faultActive } := rfl

/-- Outside the idle timer, `settle` leaves the run-state controller. -/
theorem State.settle_rsc : s.settle.rsc = { s.rsc with idleEnd := s.idleAfter } := rfl

@[simp] theorem State.settle_faultActive (e : FaultEntry) : s.settle.faultActive e = s.faultActive e := by
  cases e <;> rfl

theorem completed_eq : completed s = .next s.settle := rfl

/-! ### The winch motor -/

@[simp] theorem State.setWinchDuty_duty (d : Int) : (s.setWinchDuty d).wch.duty = d := rfl
@[simp] theorem State.setWinchDuty_moving (d : Int) : (s.setWinchDuty d).wch.moving = (d != 0) := rfl
@[simp] theorem State.setWinchDuty_slots (d : Int) : (s.setWinchDuty d).wch.slots = s.wch.slots := rfl
@[simp] theorem State.setWinchDuty_postList (d : Int) : (s.setWinchDuty d).wch.postList = s.wch.postList := rfl
@[simp] theorem State.setWinchDuty_runFlag (d : Int) : (s.setWinchDuty d).wch.runFlag = s.wch.runFlag := rfl
@[simp] theorem State.setWinchDuty_linePos (d : Int) : (s.setWinchDuty d).wch.linePos = s.wch.linePos := rfl
@[simp] theorem State.setWinchDuty_referenced (d : Int) : (s.setWinchDuty d).wch.referenced = s.wch.referenced := rfl
@[simp] theorem State.setWinchDuty_speedCap (d : Int) : (s.setWinchDuty d).wch.speedCap = s.wch.speedCap := rfl
@[simp] theorem State.setWinchDuty_stallHold (d : Int) : (s.setWinchDuty d).wch.stallHold = s.wch.stallHold := rfl
@[simp] theorem State.setWinchDuty_stallArm (d : Int) : (s.setWinchDuty d).wch.stallArm = s.wch.stallArm := rfl
@[simp] theorem State.setWinchDuty_lastPosted (d : Int) : (s.setWinchDuty d).wch.lastPosted = s.wch.lastPosted := rfl

/-- WCH_PWM after a duty is set (R98). -/
theorem State.setWinchDuty_pwm (d : Int) : (s.setWinchDuty d).wch.pwm = if s.winchReleased then d.natAbs else 0 := rfl

/-- WCH_PWM is 0 after a duty of 0. -/
@[simp] theorem State.setWinchDuty_zero_pwm : (s.setWinchDuty 0).wch.pwm = 0 := by
  simp [State.setWinchDuty_pwm]

/-- A magnitude limited to a cap is within the cap and within what it was. -/
theorem limitMagnitude_le (cap : Nat) (x : Int) :
    (limitMagnitude cap x).natAbs ≤ cap ∧ (limitMagnitude cap x).natAbs ≤ x.natAbs := by
  unfold limitMagnitude signInt
  split
  · split
    · simp; omega
    · split <;> (simp; try omega)
  · omega

/-- The interlock leaves the caps of the drive alone and never raises the applied duty (R71). -/
theorem Drv.onMoving_spec (cap : Nat) (released was is : Bool) (d : Drv) :
    (d.onMoving cap released was is).applied.natAbs ≤ d.applied.natAbs ∧
    (d.onMoving cap released was is).cap = d.cap ∧
    (d.onMoving cap released was is).budgetCap = d.budgetCap ∧
    (d.onMoving cap released was is).thermalCap = d.thermalCap ∧
    (d.onMoving cap released was is).interlockCap = d.interlockCap ∧
    (d.onMoving cap released was is).gear = d.gear ∧
    (d.onMoving cap released was is).demand = d.demand ∧
    (d.onMoving cap released was is).brk = d.brk ∧
    ((d.onMoving cap released was is).pwm ≠ 0 → d.pwm ≠ 0 ∨ released = true) := by
  unfold Drv.onMoving Drv.winchStarts
  split
  · exact ⟨le_rfl, rfl, rfl, rfl, rfl, rfl, rfl, rfl, Or.inl⟩
  · split
    · split
      · refine ⟨(limitMagnitude_le cap d.applied).2, rfl, rfl, rfl, rfl, rfl, rfl, rfl, ?_⟩
        cases released <;> simp
      · exact ⟨le_rfl, rfl, rfl, rfl, rfl, rfl, rfl, rfl, Or.inl⟩
    · exact ⟨le_rfl, rfl, rfl, rfl, rfl, rfl, rfl, rfl, Or.inl⟩

@[simp] theorem State.setWinchDuty_drv (d : Int) :
    (s.setWinchDuty d).drv =
      s.drv.onMoving s.cfg.winchDriveCap s.drivePwmReleased s.wch.moving (d != 0) := rfl

/-! ### The WINCH value -/

/-- The winch controller's writes touch the value of WINCH alone (R105). -/
theorem State.writeHeldWinchValue_get (v : Int) (f : Fn) :
    (s.writeHeldWinchValue v).grt.fns.get f =
      if f = .winch ∧ s.holderOf .winch = .ap then { s.grt.fns.get f with value := v } else s.grt.fns.get f := by
  cases f <;>
    simp [State.writeHeldWinchValue, State.writeWinchValue, PerFn.get, PerFn.set, State.valueOf, State.holderOf,
      State.withGrt]
  split <;> simp_all

/-- Away from AP the winch controller writes nothing (R105). -/
theorem State.writeHeldWinchValue_other (v : Int) (h : s.holderOf .winch ≠ .ap) : s.writeHeldWinchValue v = s := by
  have : (s.holderOf .winch == Holder.ap) = false := by simp [h]
  cases s
  simp_all [State.writeHeldWinchValue, State.writeWinchValue, State.valueOf, State.withGrt, PerFn.set, PerFn.get]

@[simp] theorem State.writeHeldWinchValue_holder (v : Int) (f : Fn) :
    (s.writeHeldWinchValue v).holderOf f = s.holderOf f := by
  unfold State.holderOf; rw [State.writeHeldWinchValue_get]; split <;> rfl

@[simp] theorem State.writeHeldWinchValue_link (v : Int) : (s.writeHeldWinchValue v).grt.link = s.grt.link := rfl
@[simp] theorem State.writeHeldWinchValue_lastDecoded (v : Int) :
    (s.writeHeldWinchValue v).grt.lastDecoded = s.grt.lastDecoded := rfl
@[simp] theorem State.writeHeldWinchValue_lost (v : Int) : (s.writeHeldWinchValue v).grt.lost = s.grt.lost := rfl

/-! ### Faults -/

/-- Raising a fault sets its latched flag and nothing else (R151). -/
theorem State.raise_acp (e : FaultEntry) :
    (s.raise e).acp = { s.acp with latched := s.acp.latched ||| faultBit e } := rfl

/-! ### The end of an order -/

/-- The record an end leaves (R106). -/
def Order.ended (o : Order) (result : OrderResult) : Order :=
  { o with phase := if result == .ok then .done else .failed, result := some result }

@[simp] theorem Order.ended_finished (o : Order) (r : OrderResult) : (o.ended r).finished = true := by
  cases r <;> rfl

@[simp] theorem Order.ended_isActive (o : Order) (r : OrderResult) : (o.ended r).isActive = false := by
  cases r <;> rfl

/-- What an end does to the queue (R106): its own slot, the run flag, and nothing else of it. -/
theorem State.endOrder_queue (i : Fin 4) (o : Order) (r : OrderResult) :
    (s.endOrder i o r).wch.slots = s.wch.slots.set i (some (o.ended r)) ∧
    (s.endOrder i o r).wch.postList = s.wch.postList ∧
    (s.endOrder i o r).wch.runFlag = (s.wch.runFlag && r == .ok) := by
  unfold State.endOrder
  cases h : o.isActive <;> simp [Wch.putOrder, Order.ended]

/-- An end touches the grant table in the WINCH value alone, and there only while AP holds WINCH (R105, R106). -/
theorem State.endOrder_grt (i : Fin 4) (o : Order) (r : OrderResult) :
    (s.endOrder i o r).grt = (s.writeHeldWinchValue 0).grt := by
  unfold State.endOrder
  cases h : o.isActive <;>
    simp [State.writeHeldWinchValue, State.writeWinchValue, State.holderOf, State.valueOf]

/-- An end posts ORDER_DONE and leaves the response, the mask and the causes (R106). -/
theorem State.endOrder_acp (i : Fin 4) (o : Order) (r : OrderResult) :
    (s.endOrder i o r).acp.orderDone = true ∧ (s.endOrder i o r).acp.status = s.acp.status ∧
    (s.endOrder i o r).acp.data = s.acp.data ∧ (s.endOrder i o r).acp.mask = s.acp.mask ∧
    (s.endOrder i o r).acp.causes = s.acp.causes ∧ (s.endOrder i o r).acp.addrHigh = s.acp.addrHigh := by
  unfold State.endOrder
  cases h : o.isActive <;> cases r <;> simp [State.raiseResult, State.raise]

/-- After the end of an order that was ACTIVE the motor is stopped (R106). -/
theorem State.endOrder_stops (i : Fin 4) (o : Order) (r : OrderResult) (h : o.isActive = true) :
    (s.endOrder i o r).wch.duty = 0 ∧ (s.endOrder i o r).wch.moving = false ∧ (s.endOrder i o r).wch.pwm = 0 := by
  unfold State.endOrder
  simp [h]

/-- The ACTIVE order is ACTIVE in its slot, with the run it reports. -/
theorem Wch.active_spec (w : Wch) (i : Fin 4) (o : Order) (r : OrderRun) (h : w.active = some (i, o, r)) :
    w.slots.get i = some o ∧ o.phase = .active r ∧ w.activeSlot = some i := by
  unfold Wch.active at h
  cases hs : w.activeSlot with
  | none => simp [hs] at h
  | some j =>
    simp only [hs, Option.bind_some] at h
    cases hg : w.slots.get j with
    | none => simp [hg] at h
    | some p =>
      simp only [hg, Option.bind_some] at h
      cases hr : p.run? with
      | none => simp [hr] at h
      | some q =>
        simp only [hr, Option.map_some, Option.some.injEq, Prod.mk.injEq] at h
        obtain ⟨rfl, rfl, rfl⟩ := h
        refine ⟨hg, ?_, rfl⟩
        unfold Order.run? at hr
        split at hr <;> simp_all

/-- Nothing is preempted where no order is ACTIVE (R113). -/
theorem State.preempt_none (h : s.wch.active = none) : s.preempt = s := by
  unfold State.preempt State.endActive
  rw [h]

/-- What a preemption does to the winch and to the accessory port (R113, R106). -/
theorem State.preempt_some (i : Fin 4) (o : Order) (r : OrderRun) (h : s.wch.active = some (i, o, r)) :
    s.preempt.wch =
      { s.wch with
        slots := s.wch.slots.set i (some (o.ended .preempted)), runFlag := false, duty := 0, moving := false, pwm := 0 } ∧
    s.preempt.acp = { s.acp with orderDone := true } := by
  have ha : o.isActive = true := by
    obtain ⟨-, hp, -⟩ := Wch.active_spec s.wch i o r h
    simp [Order.isActive, Order.run?, hp]
  unfold State.preempt State.endActive
  rw [h]
  simp [State.endOrder, ha, Wch.putOrder, Order.ended, State.setWinchDuty, State.raiseResult]

/-- What a change of WINCH's holder does to the winch (R100, R113): the direct stall hold and timers go; leaving AP is a
preemption, and a passage to AP stops the motor. -/
theorem State.winchHandover_wch (old new : Holder) (h : old ≠ new) :
    (old = .ap → (s.winchHandover old new).wch = (s.withWch s.wch.clearDirect).preempt.wch) ∧
    (old ≠ .ap → new ≠ .ap → (s.winchHandover old new).wch = s.wch.clearDirect) ∧
    (old ≠ .ap → new = .ap →
      (s.winchHandover old new).wch = { s.wch.clearDirect with duty := 0, moving := false, pwm := 0 }) := by
  unfold State.winchHandover
  refine ⟨?_, ?_, ?_⟩
  · rintro rfl
    have h' : new ≠ .ap := fun e => h e.symm
    simp [h, h']
  · intro h1 h2
    simp [h, h1, h2]
  · rintro h1 rfl
    simp [h1, State.setWinchDuty]

/-! ### The grant table -/

/-- A new grant table replaces the old one, whatever it sets off (R45). -/
@[simp] theorem State.commitGrants_grt (g : Grt) : (s.commitGrants g).grt = g := by
  unfold State.commitGrants State.winchHandover
  dsimp only
  split
  · simp
  · rename_i hne
    have hne' : s.holderOf .winch ≠ (g.fns.get .winch).holder := by simpa using hne
    have key : ∀ u : State, u.grt = g → (g.fns.get .winch).holder ≠ .ap → u.preempt.grt = g := by
      intro u hu hap
      unfold State.preempt State.endActive
      split
      · rw [State.endOrder_grt, State.writeHeldWinchValue_other, hu]
        simpa [State.holderOf, hu] using hap
      · exact hu
    by_cases h1 : s.holderOf .winch = .ap
    · have h2 : (g.fns.get .winch).holder ≠ .ap := fun h => hne' (h1.trans h.symm)
      have e1 : (s.holderOf Fn.winch == Holder.ap) = true := by simp [h1]
      have e2 : ((g.fns.get Fn.winch).holder == Holder.ap) = false := by simp [h2]
      rw [e1, e2]
      exact key _ (by simp) h2
    · have e1 : (s.holderOf Fn.winch == Holder.ap) = false := by simp [h1]
      rw [e1]
      simp only [Bool.false_eq_true, if_false]
      split <;> simp

/-- A new grant table reaches PROT through the THROTTLE value alone (R11). -/
@[simp] theorem State.commitGrants_prot (g : Grt) :
    (s.commitGrants g).prot =
      { s.prot with
        throttleRested := s.prot.throttleRested && (g.fns.get .throttle).value == 0 } := by
  unfold State.commitGrants; simp

/-- A new grant table reaches RSC through the arming timer alone (R160). -/
@[simp] theorem State.commitGrants_rsc (g : Grt) :
    (s.commitGrants g).rsc =
      { s.rsc with armingEnd := s.armingAfter (s.valueOf .throttle) (g.fns.get .throttle).value } := by
  unfold State.commitGrants; simp

/-- A new grant table reaches LGT through the pending scene alone (R123). -/
@[simp] theorem State.commitGrants_lgt (g : Grt) :
    (s.commitGrants g).lgt =
      { s.lgt with
        pendingScene :=
          if (g.fns.get .scene).value == s.valueOf .scene then s.lgt.pendingScene
          else (g.fns.get .scene).value.toNat } := by
  unfold State.commitGrants; simp

/-! ### Stop events -/

/-- After a switch opening the switch is OPEN, whatever it was (R19, R20). -/
@[simp] theorem State.openSwitch_sw : s.openSwitch.prot.sw = .opened := by
  unfold State.openSwitch State.leaveClosed
  split
  · simp
  · simp
  · assumption

/-- A switch opening leaves the protection state, its cause, timers, Q and LIMIT. -/
theorem State.openSwitch_prot :
    s.openSwitch.prot.st = s.prot.st ∧ s.openSwitch.prot.cause = s.prot.cause ∧
    s.openSwitch.prot.tripTime = s.prot.tripTime ∧ s.openSwitch.prot.dwell = s.prot.dwell ∧
    s.openSwitch.prot.q = s.prot.q ∧ s.openSwitch.prot.limit = s.prot.limit := by
  unfold State.openSwitch State.leaveClosed
  split <;> simp

/-- What the other blocks hold after the switch leaves CLOSED (R38, R78, R89, R99, R133). -/
theorem State.leaveClosed_spec :
    s.leaveClosed.bgt = s.bgt.cleared ∧ s.leaveClosed.str = s.str.released ∧ s.leaveClosed.lgt = s.lgt.dark ∧
    s.leaveClosed.wch.duty = 0 ∧ s.leaveClosed.wch.moving = false ∧ s.leaveClosed.wch.pwm = 0 ∧
    s.leaveClosed.wch.stallHold = false ∧ s.leaveClosed.wch.slots = s.wch.slots ∧ s.leaveClosed.drv.pwm = 0 ∧
    s.leaveClosed.drv.applied = 0 ∧ s.leaveClosed.drv.brk = none := by
  unfold State.leaveClosed
  simp [Wch.clearDirect, Drv.stopped, Drv.onMoving]
  cases s.wch.moving <;> simp

/-- PROT after entry to CUTOFF (R9, R10). -/
@[simp] theorem State.enterCutoff_prot (c : CutCause) :
    (s.enterCutoff c).prot =
      { s.prot with
        st := .cutoff
        cause := some c
        tripTime := if c == .hardTrip then some s.now else none
        dwell := { noDwell with crit := s.prot.dwell.crit } } := by
  simp [State.enterCutoff]

/-- BGT after entry to CUTOFF (R38). -/
@[simp] theorem State.enterCutoff_bgt (c : CutCause) : (s.enterCutoff c).bgt = s.bgt.motorsCut := by
  simp [State.enterCutoff]

/-! ### HALT -/

/-- After a HALT, and after leaving the bench by it, the part is HALTED with the switch OPEN (R157). -/
theorem State.haltWith_spec (b : Bool) :
    (s.haltWith b).rsc.run = .halted ∧ (s.haltWith b).prot.sw = .opened ∧
    (s.haltWith b).rsc.startInFlight = false ∧ (s.haltWith b).rsc.pendingStart = false ∧
    (s.haltWith b).rsc.armingEnd = none ∧ (s.haltWith b).rsc.wakeEnd = none ∧ (s.haltWith b).rsc.load = none ∧
    (s.haltWith b).rsc.sleepOrigin = none ∧ (s.haltWith b).grt = s.grt.allToFs ((s.leaveBench b).openSwitch).cfg := by
  simp [State.haltWith]

/-- Outside the bench a HALT leaves PROT but for the switch and the rest of THROTTLE (R157). -/
theorem State.halt_prot (h : s.rsc.save = none) :
    s.halt.prot.st = s.prot.st ∧ s.halt.prot.cause = s.prot.cause ∧ s.halt.prot.q = s.prot.q ∧
    s.halt.prot.limit = s.prot.limit := by
  have hb : s.leaveBench false = s := by simp [State.leaveBench, h]
  obtain ⟨h1, h2, h3, h4, h5, h6⟩ := s.openSwitch_prot
  simp [State.halt, State.haltWith, hb, h1, h2, h5, h6]

/-! ### Accessory commands -/

@[simp] theorem State.respond_status (st : Status) (d : List Byte) : (s.respond st d).acp.status = st := rfl
@[simp] theorem State.respond_data (st : Status) (d : List Byte) : (s.respond st d).acp.data = d := rfl

/-- An answer replaces the response buffer and nothing else of the port (R148). -/
theorem State.respond_acp (st : Status) (d : List Byte) :
    (s.respond st d).acp = { s.acp with status := st, data := d } := rfl

/-- An answer touches the grant table in AP_LOST alone (R54). -/
theorem State.respond_grt (st : Status) (d : List Byte) :
    (s.respond st d).grt = { s.grt with apLost := s.grt.apLost && !st.completes } := rfl

/-- Out of SLEEP a command is no wake source (R162). -/
theorem State.wakeSource_awake (h : s.rsc.run ≠ .sleep) : s.wakeSource = s := by
  have : (s.rsc.run == RunState.sleep) = false := by simp [h]
  cases s; simp_all [State.wakeSource, State.withRsc]

/-- A command reaches its rule: its length matches, and no store is in flight or the command is exempt (R147). -/
theorem State.takeCommand_taken (exempt : Bool) (always : State → List Byte) (owner : State → State)
    (hs : s.rsc.storeEnd = none ∨ exempt = true) :
    s.takeCommand true exempt always owner = owner s.wakeSource := by
  unfold State.takeCommand
  rcases hs with h | h <;> simp [State.wakeSource, h]

/-- A command of the wrong length is refused with BAD_LENGTH (R147). -/
theorem State.takeCommand_length (exempt : Bool) (always : State → List Byte) (owner : State → State) :
    s.takeCommand false exempt always owner = s.wakeSource.respond .badLength (always s.wakeSource) := by
  simp [State.takeCommand]

/-- A command during a store is refused with BUSY (R147). -/
theorem State.takeCommand_busy (always : State → List Byte) (owner : State → State) (hs : s.rsc.storeEnd ≠ none) :
    s.takeCommand true false always owner = s.wakeSource.respond .busy (always s.wakeSource) := by
  have : s.rsc.storeEnd.isSome = true := by cases h : s.rsc.storeEnd <;> simp_all
  simp [State.takeCommand, State.wakeSource, this]

end Sys2Proof.Machine
end

