-- ==== Sys2Proof/Laws/Answers.lean ====
section
/-! SUPPORT. How a command's end and an accessory answer meet the frames of Safety.lean: the lemmas a proof about one
command cites after it has found the state before `settle` or before `respond`. -/

namespace Sys2Proof.Machine

variable {blocks : List Block} {s u : State} {status : Status} {data : List Byte}

@[simp] theorem State.settle_idleAfter (s : State) : s.settle.idleAfter = s.idleAfter := by
  have h : s.settle.idleHolds = s.idleHolds := rfl
  have hn : s.settle.now = s.now := rfl
  have hc : s.settle.cfg = s.cfg := rfl
  unfold State.idleAfter
  rw [h, hn, hc]
  by_cases hi : s.idleHolds = true <;> simp [hi, State.settle_rsc, State.idleAfter]

@[simp] theorem State.settle_active (s : State) : s.settle.faultActive = s.faultActive := by funext e; simp

/-- `settle` latches what is active (R151). -/
theorem State.settle_latches (s : State) :
    s.settle.acp = { s.acp with latched := s.acp.latched ||| faultWord s.settle.faultActive } := by
  simp [State.settle_acp]

/-- `settle` judges the idle timer (R161). -/
theorem State.settle_judges (s : State) : s.settle.rsc = { s.rsc with idleEnd := s.settle.idleAfter } := by
  simp [State.settle_rsc]

/-- The conditions of the idle timer, read off the state (R161). -/
theorem State.idleHolds_iff : u.idleHolds = true ↔
    u.rsc.run = .running ∧ u.cfg.idleSleep ≠ 0 ∧ (∀ f ∈ Fn.all, u.valueOf f = 0) ∧ u.wch.moving = false := by
  simp [State.idleHolds, Fn.all, PerFn.toList, State.valueOf, PerFn.get, and_assoc]

/-- The idle timer that `settle` judges is the one computed from the state before the command, whose deadline the effect
has kept (R161). -/
theorem State.idleAfter_eq_idleUntil (h : u.rsc.idleEnd = s.rsc.idleEnd) : u.idleAfter = s.idleUntil u.settle := by
  have hu : s.idleUntil u.settle = s.idleUntil u := rfl
  rw [hu, State.idleAfter, State.idleUntil, h]
  exact if_congr State.idleHolds_iff rfl rfl

/-- A block that `settle` does not touch agrees after it where it agreed before. -/
theorem agree_settle {b : Block} (ha : b ≠ .acp) (hr : b ≠ .rsc) : s.agree u.settle b ↔ s.agree u b := by
  cases b <;> simp_all [State.agree]

/-- A frame through `settle`, which touches the accessory port and the run-state controller alone. -/
theorem unchangedBut_settle (h : ∀ b, b ∉ blocks → b ≠ .acp → b ≠ .rsc → s.agree u b) (hacp : .acp ∈ blocks)
    (hrsc : .rsc ∈ blocks) : unchangedBut blocks s u.settle := by
  intro b hb
  have ha : b ≠ .acp := fun e => hb (e ▸ hacp)
  have hr : b ≠ .rsc := fun e => hb (e ▸ hrsc)
  exact (agree_settle ha hr).2 (h b hb ha hr)

/-- A command whose effect before `settle` leaves the port and the run-state controller. -/
theorem changesOnly_settle (h : ∀ b, b ∉ blocks → b ≠ .acp → b ≠ .rsc → s.agree u b) (ha : u.acp = s.acp)
    (hr : u.rsc = s.rsc) : changesOnly blocks s u.settle := by
  refine ⟨unchangedBut_settle ?_ (by simp) (by simp), ?_, ?_⟩
  · intro b hb h1 h2
    exact h b (fun hm => hb (by simp [hm])) h1 h2
  · simp [acpSettled, State.settle_acp, ha]
  · rw [rscIdle, State.settle_rsc, hr, State.idleAfter_eq_idleUntil (s := s) (by rw [hr])]

/-- An answer given from a state that has changed, beside the wake, only the blocks named. -/
theorem answersWith_respond (h : ∀ b, b ∉ blocks → b ≠ .acp → b ≠ .grt → b ≠ .rsc → s.agree u b) (ha : u.acp = s.acp)
    (hg : u.grt = s.grt) (hr : u.rsc = s.wakeSource.rsc) :
    answersWith blocks s (u.respond status data).settle status data := by
  refine ⟨unchangedBut_settle ?_ (by simp) (by simp), ?_, ?_, ?_⟩
  · intro b hb h1 h2
    have h3 : b ≠ .grt := fun e => hb (by simp [e])
    have h4 := h b (fun hm => hb (by simp [hm])) h1 h3 h2
    cases b <;> simp_all [State.agree]
  · simp [answers, State.settle_acp, State.respond_acp, ha]
  · simp [apHeard, State.respond_grt, hg]
  · rw [rscTaken, State.settle_rsc, State.respond_rsc, hr,
      State.idleAfter_eq_idleUntil (s := s) (by rw [State.respond_rsc, hr]; rfl)]

/-- An answer that changes nothing else. -/
theorem answersWith_wake : answersWith [] s (s.wakeSource.respond status data).settle status data :=
  answersWith_respond (by intro b; cases b <;> simp [State.agree]) (by simp) (by simp) rfl

end Sys2Proof.Machine
end

