-- ==== Sys2Proof/Laws/Dwells.lean ====
section
/-! SUPPORT. The completion of a dwell timer as an event of its own (R7, log 3): what a proof about one of the five rows
cites instead of unfolding it. -/

namespace Sys2Proof.Machine

variable (s : State)

/-- Of what the condition of a timer reads, the clock alone moves. -/
@[simp] theorem State.reach_cfg (t : Nat) : (s.reach t).cfg = s.cfg := rfl
@[simp] theorem State.reach_valueOf (t : Nat) (f : Fn) : (s.reach t).valueOf f = s.valueOf f := rfl

/-- A condition that holds goes on holding as the clock is set on: time enters R11 alone, and there as a least wait. -/
theorem State.dwellHolds_reach (t : Nat) (k : Dwell) (h : s.dwellHolds k = true) : (s.reach t).dwellHolds k = true := by
  unfold State.dwellHolds at h ⊢
  simp only [State.reach_pmon, State.reach_cfg, State.reach_prot, State.reach_valueOf, State.reach_now]
  split at h
  · exact absurd h (by simp)
  · cases k <;> first | exact h | skip
    simp only [Bool.and_eq_true, Bool.or_eq_true, Option.all_eq_true] at h ⊢
    exact ⟨h.1, h.2.imp id fun hold a ha =>
      decide_eq_true (le_trans (of_decide_eq_true (hold a ha)) (le_max_left _ _))⟩

/-- The timer named has completed at the moment its row reaches (R7), so a transition is taken there. -/
theorem State.dwellDone_of_start (k : Dwell) (start : Nat) (h : s.dwellStart k = some start) :
    (s.reach (start + k.length s.cfg * msec)).dwellDone k = true := by
  unfold State.dwellStart at h
  split at h
  · rename_i hc
    rw [Bool.and_eq_true] at hc
    unfold State.dwellDone State.dwellStart
    rw [State.reach_prot, s.dwellHolds_reach _ k hc.2, hc.1, h]
    simp
  · exact nomatch h

/-- What a completion does: the clock at the end of the dwell, and the most severe transition due there (R7). -/
theorem State.completeDwell_some (k : Dwell) (start : Nat) (h : s.dwellStart k = some start) :
    s.completeDwell k =
      let s1 := s.reach (start + k.length s.cfg * msec)
      s1.protTransition s1.dwellDone false := by
  unfold State.completeDwell
  rw [h]

/-- A timer that does not run, or whose condition does not hold, completes with no effect. -/
theorem State.completeDwell_none (k : Dwell) (h : s.dwellStart k = none) : s.completeDwell k = s := by
  unfold State.completeDwell
  rw [h]

end Sys2Proof.Machine
end

