-- ==== Sys2Proof/Laws/PerInstr.lean ====
section
/-! SUPPORT. The law stated of every command: the bytes of the accessory write that carries a well-formed command spell
that command (R147, Table 11-4). -/

namespace Sys2Proof.Laws.Encoded

open Sys2Proof.Machine

/-- The write that carries a well-formed command is read back as that command, a RESET under the level of ADDR it
samples and any other command under either. -/
def Statement (i : Instr) : Prop :=
  i.wellFormed = true → ∀ bytes, i.writeBytes = some bytes →
    ∀ strap, (∀ params, i = .reset params → params.strap = strap) → ofWrite strap bytes = i

theorem powerOnReset (strap : Bool) : Statement (.powerOnReset strap) := by
  intro _ _ hb
  cases hb

theorem brownOutReset (strap : Bool) : Statement (.brownOutReset strap) := by
  intro _ _ hb
  cases hb

theorem pinReset (strap : Bool) : Statement (.pinReset strap) := by
  intro _ _ hb
  cases hb

theorem sampleSet (raw : PerQuantity Int) : Statement (.sampleSet raw) := by
  intro _ _ hb
  cases hb

theorem warnEntryComplete : Statement (.warnEntryComplete) := by
  intro _ _ hb
  cases hb

theorem warnExitComplete : Statement (.warnExitComplete) := by
  intro _ _ hb
  cases hb

theorem cutTimerComplete : Statement (.cutTimerComplete) := by
  intro _ _ hb
  cases hb

theorem critTimerComplete : Statement (.critTimerComplete) := by
  intro _ _ hb
  cases hb

theorem rearmTimerComplete : Statement (.rearmTimerComplete) := by
  intro _ _ hb
  cases hb

theorem ocTripAssert : Statement (.ocTripAssert) := by
  intro _ _ hb
  cases hb

theorem ocTripRelease : Statement (.ocTripRelease) := by
  intro _ _ hb
  cases hb

theorem prechargeExpiry : Statement (.prechargeExpiry) := by
  intro _ _ hb
  cases hb

theorem budgetPeriod : Statement (.budgetPeriod) := by
  intro _ _ hb
  cases hb

theorem servoShort : Statement (.servoShort) := by
  intro _ _ hb
  cases hb

theorem driveStep : Statement (.driveStep) := by
  intro _ _ hb
  cases hb

theorem servoFrame : Statement (.servoFrame) := by
  intro _ _ hb
  cases hb

theorem winchStep : Statement (.winchStep) := by
  intro _ _ hb
  cases hb

theorem orderTimeout : Statement (.orderTimeout) := by
  intro _ _ hb
  cases hb

theorem orderStarved : Statement (.orderStarved) := by
  intro _ _ hb
  cases hb

theorem retryPauseEnd : Statement (.retryPauseEnd) := by
  intro _ _ hb
  cases hb

theorem currentCheckStall : Statement (.currentCheckStall) := by
  intro _ _ hb
  cases hb

theorem drumCheckStall : Statement (.drumCheckStall) := by
  intro _ _ hb
  cases hb

theorem drumPulse : Statement (.drumPulse) := by
  intro _ _ hb
  cases hb

theorem benchDrumPulse : Statement (.benchDrumPulse) := by
  intro _ _ hb
  cases hb

theorem lightFrameBoundary : Statement (.lightFrameBoundary) := by
  intro _ _ hb
  cases hb

theorem radioFrame (bytes : List Byte) : Statement (.radioFrame bytes) := by
  intro _ _ hb
  cases hb

theorem framingError : Statement (.framingError) := by
  intro _ _ hb
  cases hb

theorem linkGapTimeout : Statement (.linkGapTimeout) := by
  intro _ _ hb
  cases hb

theorem replyTimerExpiry : Statement (.replyTimerExpiry) := by
  intro _ _ hb
  cases hb

theorem replySent : Statement (.replySent) := by
  intro _ _ hb
  cases hb

theorem dlFreshnessExpiry : Statement (.dlFreshnessExpiry) := by
  intro _ _ hb
  cases hb

theorem apLeaseExpiry (f : Fn) : Statement (.apLeaseExpiry f) := by
  intro _ _ hb
  cases hb

theorem pendantEdge (line : PendantLine) (low : Bool) : Statement (.pendantEdge line low) := by
  intro _ _ hb
  cases hb

theorem pendantSettleExpiry (line : PendantLine) : Statement (.pendantSettleExpiry line) := by
  intro _ _ hb
  cases hb

theorem wakeTimerExpiry : Statement (.wakeTimerExpiry) := by
  intro _ _ hb
  cases hb

theorem armingTimerExpiry : Statement (.armingTimerExpiry) := by
  intro _ _ hb
  cases hb

theorem idleSleepExpiry : Statement (.idleSleepExpiry) := by
  intro _ _ hb
  cases hb

theorem loadEnd : Statement (.loadEnd) := by
  intro _ _ hb
  cases hb

theorem storeEnd (readBack : List Byte) : Statement (.storeEnd readBack) := by
  intro _ _ hb
  cases hb

theorem acpUnknownWrite (bytes : List Byte) : Statement (.acpUnknownWrite bytes) := by
  intro h bs hb
  cases hb
  intro _ _
  cases bytes with
  | nil => rfl
  | cons b params =>
    have hn : commandBytes.contains b.toNat = false := by simpa [Instr.wellFormed, unknownWriteOk] using h
    simp [commandBytes] at hn
    unfold ofWrite
    split <;> simp_all

theorem status (params : List Byte) : Statement (.status params) := by
  intro _ bytes hb
  cases hb
  exact fun _ _ => rfl

theorem read (params : List Byte) : Statement (.read params) := by
  intro _ bytes hb
  cases hb
  exact fun _ _ => rfl

theorem readCause (params : List Byte) : Statement (.readCause params) := by
  intro _ bytes hb
  cases hb
  exact fun _ _ => rfl

theorem faultNext (params : List Byte) : Statement (.faultNext params) := by
  intro _ bytes hb
  cases hb
  exact fun _ _ => rfl

theorem faultAck (params : List Byte) : Statement (.faultAck params) := by
  intro _ bytes hb
  cases hb
  exact fun _ _ => rfl

theorem attnMask (params : List Byte) : Statement (.attnMask params) := by
  intro _ bytes hb
  cases hb
  exact fun _ _ => rfl

theorem lockoutClear (params : List Byte) : Statement (.lockoutClear params) := by
  intro _ bytes hb
  cases hb
  exact fun _ _ => rfl

theorem halt (params : List Byte) : Statement (.halt params) := by
  intro h bytes hb
  have hr := eq_of_beq h
  cases hb
  intro _ _
  simp [ofWrite, ofRunctl, hr]

theorem sleep (params : List Byte) : Statement (.sleep params) := by
  intro h bytes hb
  have hr := eq_of_beq h
  cases hb
  intro _ _
  simp [ofWrite, ofRunctl, hr]

theorem benchDry (params : List Byte) : Statement (.benchDry params) := by
  intro h bytes hb
  have hr := eq_of_beq h
  cases hb
  intro _ _
  simp [ofWrite, ofRunctl, hr]

theorem benchWet (params : List Byte) : Statement (.benchWet params) := by
  intro h bytes hb
  have hr := eq_of_beq h
  cases hb
  intro _ _
  simp [ofWrite, ofRunctl, hr]

theorem load (params : List Byte) : Statement (.load params) := by
  intro h bytes hb
  have hr := eq_of_beq h
  cases hb
  intro _ _
  simp [ofWrite, ofRunctl, hr]

theorem start (params : List Byte) : Statement (.start params) := by
  intro h bytes hb
  have hr := eq_of_beq h
  cases hb
  intro _ _
  simp [ofWrite, ofRunctl, hr]

theorem reset (params : ResetParams) : Statement (.reset params) := by
  intro bytes _ hb strap h
  obtain rfl := Option.some.inj hb
  obtain rfl := h params rfl
  rfl

theorem cfgRead (params : List Byte) : Statement (.cfgRead params) := by
  intro _ bytes hb
  cases hb
  exact fun _ _ => rfl

theorem cfgWrite (params : List Byte) : Statement (.cfgWrite params) := by
  intro _ bytes hb
  cases hb
  exact fun _ _ => rfl

theorem cfgCheck (params : List Byte) : Statement (.cfgCheck params) := by
  intro _ bytes hb
  cases hb
  exact fun _ _ => rfl

theorem cfgStore (params : List Byte) : Statement (.cfgStore params) := by
  intro _ bytes hb
  cases hb
  exact fun _ _ => rfl

theorem claim (params : List Byte) : Statement (.claim params) := by
  intro _ bytes hb
  cases hb
  exact fun _ _ => rfl

theorem set (params : List Byte) : Statement (.set params) := by
  intro _ bytes hb
  cases hb
  exact fun _ _ => rfl

theorem claimSet (params : List Byte) : Statement (.claimSet params) := by
  intro _ bytes hb
  cases hb
  exact fun _ _ => rfl

theorem release (params : List Byte) : Statement (.release params) := by
  intro _ bytes hb
  cases hb
  exact fun _ _ => rfl

theorem refresh (params : List Byte) : Statement (.refresh params) := by
  intro _ bytes hb
  cases hb
  exact fun _ _ => rfl

theorem winchPost (params : List Byte) : Statement (.winchPost params) := by
  intro _ bytes hb
  cases hb
  exact fun _ _ => rfl

theorem winchCancel (params : List Byte) : Statement (.winchCancel params) := by
  intro _ bytes hb
  cases hb
  exact fun _ _ => rfl

theorem winchReap (params : List Byte) : Statement (.winchReap params) := by
  intro _ bytes hb
  cases hb
  exact fun _ _ => rfl

theorem winchResume (params : List Byte) : Statement (.winchResume params) := by
  intro _ bytes hb
  cases hb
  exact fun _ _ => rfl

theorem winchZero (params : List Byte) : Statement (.winchZero params) := by
  intro _ bytes hb
  cases hb
  exact fun _ _ => rfl

theorem sceneWrite (params : List Byte) : Statement (.sceneWrite params) := by
  intro _ bytes hb
  cases hb
  exact fun _ _ => rfl

theorem benchInject (params : List Byte) : Statement (.benchInject params) := by
  intro _ bytes hb
  cases hb
  exact fun _ _ => rfl

theorem benchStall (params : List Byte) : Statement (.benchStall params) := by
  intro _ bytes hb
  cases hb
  exact fun _ _ => rfl

theorem linkByteReceived (b : Byte) : Statement (.linkByteReceived b) := by
  intro _ _ hb
  cases hb

theorem runctlNoFlag (params : List Byte) : Statement (.runctlNoFlag params) := by
  intro h bytes hb
  have hr := eq_of_beq h
  cases hb
  intro _ _
  simp [ofWrite, ofRunctl, hr]

end Sys2Proof.Laws.Encoded
end

