-- ==== Sys2Proof/Laws/WinchStep.lean ====
section
/-! SUPPORT. What the parts of a winch step leave alone, and what its whole work leaves the drive state at (R96, R97). -/

namespace Sys2Proof.Machine

variable (s : State)

/-! ### `State.formSpeedCap` -/

@[simp] theorem State.formSpeedCap_now : s.formSpeedCap.now = s.now := by
  unfold State.formSpeedCap; simp
@[simp] theorem State.formSpeedCap_lines : s.formSpeedCap.lines = s.lines := by
  unfold State.formSpeedCap; simp
@[simp] theorem State.formSpeedCap_pmon : s.formSpeedCap.pmon = s.pmon := by
  unfold State.formSpeedCap; simp
@[simp] theorem State.formSpeedCap_prot : s.formSpeedCap.prot = s.prot := by
  unfold State.formSpeedCap; simp
@[simp] theorem State.formSpeedCap_bgt : s.formSpeedCap.bgt = s.bgt := by
  unfold State.formSpeedCap; simp
@[simp] theorem State.formSpeedCap_str : s.formSpeedCap.str = s.str := by
  unfold State.formSpeedCap; simp
@[simp] theorem State.formSpeedCap_lgt : s.formSpeedCap.lgt = s.lgt := by
  unfold State.formSpeedCap; simp
@[simp] theorem State.formSpeedCap_dlr : s.formSpeedCap.dlr = s.dlr := by
  unfold State.formSpeedCap; simp
@[simp] theorem State.formSpeedCap_pnd : s.formSpeedCap.pnd = s.pnd := by
  unfold State.formSpeedCap; simp
@[simp] theorem State.formSpeedCap_rsc : s.formSpeedCap.rsc = s.rsc := by
  unfold State.formSpeedCap; simp
@[simp] theorem State.formSpeedCap_pending : s.formSpeedCap.pending = s.pending := by
  unfold State.formSpeedCap; simp

/-! ### `State.releaseHold` -/

@[simp] theorem State.releaseHold_now : s.releaseHold.now = s.now := by
  unfold State.releaseHold; (repeat' split) <;> simp
@[simp] theorem State.releaseHold_lines : s.releaseHold.lines = s.lines := by
  unfold State.releaseHold; (repeat' split) <;> simp
@[simp] theorem State.releaseHold_pmon : s.releaseHold.pmon = s.pmon := by
  unfold State.releaseHold; (repeat' split) <;> simp
@[simp] theorem State.releaseHold_prot : s.releaseHold.prot = s.prot := by
  unfold State.releaseHold; (repeat' split) <;> simp
@[simp] theorem State.releaseHold_bgt : s.releaseHold.bgt = s.bgt := by
  unfold State.releaseHold; (repeat' split) <;> simp
@[simp] theorem State.releaseHold_str : s.releaseHold.str = s.str := by
  unfold State.releaseHold; (repeat' split) <;> simp
@[simp] theorem State.releaseHold_lgt : s.releaseHold.lgt = s.lgt := by
  unfold State.releaseHold; (repeat' split) <;> simp
@[simp] theorem State.releaseHold_dlr : s.releaseHold.dlr = s.dlr := by
  unfold State.releaseHold; (repeat' split) <;> simp
@[simp] theorem State.releaseHold_pnd : s.releaseHold.pnd = s.pnd := by
  unfold State.releaseHold; (repeat' split) <;> simp
@[simp] theorem State.releaseHold_rsc : s.releaseHold.rsc = s.rsc := by
  unfold State.releaseHold; (repeat' split) <;> simp
@[simp] theorem State.releaseHold_pending : s.releaseHold.pending = s.pending := by
  unfold State.releaseHold; (repeat' split) <;> simp

/-! ### `State.activate` -/

@[simp] theorem State.activate_now (i : Fin 4) (o : Order) : (s.activate i o).now = s.now := by
  unfold State.activate; (repeat' split) <;> simp
@[simp] theorem State.activate_lines (i : Fin 4) (o : Order) : (s.activate i o).lines = s.lines := by
  unfold State.activate; (repeat' split) <;> simp
@[simp] theorem State.activate_pmon (i : Fin 4) (o : Order) : (s.activate i o).pmon = s.pmon := by
  unfold State.activate; (repeat' split) <;> simp
@[simp] theorem State.activate_prot (i : Fin 4) (o : Order) : (s.activate i o).prot = s.prot := by
  unfold State.activate; (repeat' split) <;> simp
@[simp] theorem State.activate_bgt (i : Fin 4) (o : Order) : (s.activate i o).bgt = s.bgt := by
  unfold State.activate; (repeat' split) <;> simp
@[simp] theorem State.activate_str (i : Fin 4) (o : Order) : (s.activate i o).str = s.str := by
  unfold State.activate; (repeat' split) <;> simp
@[simp] theorem State.activate_lgt (i : Fin 4) (o : Order) : (s.activate i o).lgt = s.lgt := by
  unfold State.activate; (repeat' split) <;> simp
@[simp] theorem State.activate_dlr (i : Fin 4) (o : Order) : (s.activate i o).dlr = s.dlr := by
  unfold State.activate; (repeat' split) <;> simp
@[simp] theorem State.activate_pnd (i : Fin 4) (o : Order) : (s.activate i o).pnd = s.pnd := by
  unfold State.activate; (repeat' split) <;> simp
@[simp] theorem State.activate_rsc (i : Fin 4) (o : Order) : (s.activate i o).rsc = s.rsc := by
  unfold State.activate; (repeat' split) <;> simp
@[simp] theorem State.activate_pending (i : Fin 4) (o : Order) : (s.activate i o).pending = s.pending := by
  unfold State.activate; (repeat' split) <;> simp

/-! ### `State.startOrder` -/

@[simp] theorem State.startOrder_now : s.startOrder.now = s.now := by
  unfold State.startOrder; (repeat' split) <;> simp
@[simp] theorem State.startOrder_lines : s.startOrder.lines = s.lines := by
  unfold State.startOrder; (repeat' split) <;> simp
@[simp] theorem State.startOrder_pmon : s.startOrder.pmon = s.pmon := by
  unfold State.startOrder; (repeat' split) <;> simp
@[simp] theorem State.startOrder_prot : s.startOrder.prot = s.prot := by
  unfold State.startOrder; (repeat' split) <;> simp
@[simp] theorem State.startOrder_bgt : s.startOrder.bgt = s.bgt := by
  unfold State.startOrder; (repeat' split) <;> simp
@[simp] theorem State.startOrder_str : s.startOrder.str = s.str := by
  unfold State.startOrder; (repeat' split) <;> simp
@[simp] theorem State.startOrder_lgt : s.startOrder.lgt = s.lgt := by
  unfold State.startOrder; (repeat' split) <;> simp
@[simp] theorem State.startOrder_dlr : s.startOrder.dlr = s.dlr := by
  unfold State.startOrder; (repeat' split) <;> simp
@[simp] theorem State.startOrder_pnd : s.startOrder.pnd = s.pnd := by
  unfold State.startOrder; (repeat' split) <;> simp
@[simp] theorem State.startOrder_rsc : s.startOrder.rsc = s.rsc := by
  unfold State.startOrder; (repeat' split) <;> simp
@[simp] theorem State.startOrder_pending : s.startOrder.pending = s.pending := by
  unfold State.startOrder; (repeat' split) <;> simp

/-! ### `State.orderChecks` -/

@[simp] theorem State.orderChecks_now : s.orderChecks.now = s.now := by
  unfold State.orderChecks; (repeat' split) <;> simp
@[simp] theorem State.orderChecks_lines : s.orderChecks.lines = s.lines := by
  unfold State.orderChecks; (repeat' split) <;> simp
@[simp] theorem State.orderChecks_pmon : s.orderChecks.pmon = s.pmon := by
  unfold State.orderChecks; (repeat' split) <;> simp
@[simp] theorem State.orderChecks_prot : s.orderChecks.prot = s.prot := by
  unfold State.orderChecks; (repeat' split) <;> simp
@[simp] theorem State.orderChecks_bgt : s.orderChecks.bgt = s.bgt := by
  unfold State.orderChecks; (repeat' split) <;> simp
@[simp] theorem State.orderChecks_str : s.orderChecks.str = s.str := by
  unfold State.orderChecks; (repeat' split) <;> simp
@[simp] theorem State.orderChecks_lgt : s.orderChecks.lgt = s.lgt := by
  unfold State.orderChecks; (repeat' split) <;> simp
@[simp] theorem State.orderChecks_dlr : s.orderChecks.dlr = s.dlr := by
  unfold State.orderChecks; (repeat' split) <;> simp
@[simp] theorem State.orderChecks_pnd : s.orderChecks.pnd = s.pnd := by
  unfold State.orderChecks; (repeat' split) <;> simp
@[simp] theorem State.orderChecks_rsc : s.orderChecks.rsc = s.rsc := by
  unfold State.orderChecks; (repeat' split) <;> simp
@[simp] theorem State.orderChecks_pending : s.orderChecks.pending = s.pending := by
  unfold State.orderChecks; (repeat' split) <;> simp

/-! ### `State.orderStalls` -/

@[simp] theorem State.orderStalls_now (i : Fin 4) (o : Order) (r : OrderRun) : (s.orderStalls i o r).now = s.now := by
  unfold State.orderStalls; (repeat' split) <;> simp
@[simp] theorem State.orderStalls_lines (i : Fin 4) (o : Order) (r : OrderRun) : (s.orderStalls i o r).lines = s.lines := by
  unfold State.orderStalls; (repeat' split) <;> simp
@[simp] theorem State.orderStalls_pmon (i : Fin 4) (o : Order) (r : OrderRun) : (s.orderStalls i o r).pmon = s.pmon := by
  unfold State.orderStalls; (repeat' split) <;> simp
@[simp] theorem State.orderStalls_prot (i : Fin 4) (o : Order) (r : OrderRun) : (s.orderStalls i o r).prot = s.prot := by
  unfold State.orderStalls; (repeat' split) <;> simp
@[simp] theorem State.orderStalls_bgt (i : Fin 4) (o : Order) (r : OrderRun) : (s.orderStalls i o r).bgt = s.bgt := by
  unfold State.orderStalls; (repeat' split) <;> simp
@[simp] theorem State.orderStalls_str (i : Fin 4) (o : Order) (r : OrderRun) : (s.orderStalls i o r).str = s.str := by
  unfold State.orderStalls; (repeat' split) <;> simp
@[simp] theorem State.orderStalls_lgt (i : Fin 4) (o : Order) (r : OrderRun) : (s.orderStalls i o r).lgt = s.lgt := by
  unfold State.orderStalls; (repeat' split) <;> simp
@[simp] theorem State.orderStalls_dlr (i : Fin 4) (o : Order) (r : OrderRun) : (s.orderStalls i o r).dlr = s.dlr := by
  unfold State.orderStalls; (repeat' split) <;> simp
@[simp] theorem State.orderStalls_pnd (i : Fin 4) (o : Order) (r : OrderRun) : (s.orderStalls i o r).pnd = s.pnd := by
  unfold State.orderStalls; (repeat' split) <;> simp
@[simp] theorem State.orderStalls_rsc (i : Fin 4) (o : Order) (r : OrderRun) : (s.orderStalls i o r).rsc = s.rsc := by
  unfold State.orderStalls; (repeat' split) <;> simp
@[simp] theorem State.orderStalls_pending (i : Fin 4) (o : Order) (r : OrderRun) : (s.orderStalls i o r).pending = s.pending := by
  unfold State.orderStalls; (repeat' split) <;> simp

/-! ### `State.directStalls` -/

@[simp] theorem State.directStalls_now : s.directStalls.now = s.now := by
  unfold State.directStalls; simp
@[simp] theorem State.directStalls_lines : s.directStalls.lines = s.lines := by
  unfold State.directStalls; simp
@[simp] theorem State.directStalls_pmon : s.directStalls.pmon = s.pmon := by
  unfold State.directStalls; simp
@[simp] theorem State.directStalls_prot : s.directStalls.prot = s.prot := by
  unfold State.directStalls; simp
@[simp] theorem State.directStalls_bgt : s.directStalls.bgt = s.bgt := by
  unfold State.directStalls; simp
@[simp] theorem State.directStalls_str : s.directStalls.str = s.str := by
  unfold State.directStalls; simp
@[simp] theorem State.directStalls_lgt : s.directStalls.lgt = s.lgt := by
  unfold State.directStalls; simp
@[simp] theorem State.directStalls_dlr : s.directStalls.dlr = s.dlr := by
  unfold State.directStalls; simp
@[simp] theorem State.directStalls_pnd : s.directStalls.pnd = s.pnd := by
  unfold State.directStalls; simp
@[simp] theorem State.directStalls_rsc : s.directStalls.rsc = s.rsc := by
  unfold State.directStalls; simp
@[simp] theorem State.directStalls_pending : s.directStalls.pending = s.pending := by
  unfold State.directStalls; simp

/-! ### `State.finishWinchStep` -/

@[simp] theorem State.finishWinchStep_now (d : Int) : (s.finishWinchStep d).now = s.now := by
  unfold State.finishWinchStep; simp
@[simp] theorem State.finishWinchStep_lines (d : Int) : (s.finishWinchStep d).lines = s.lines := by
  unfold State.finishWinchStep; simp
@[simp] theorem State.finishWinchStep_pmon (d : Int) : (s.finishWinchStep d).pmon = s.pmon := by
  unfold State.finishWinchStep; simp
@[simp] theorem State.finishWinchStep_prot (d : Int) : (s.finishWinchStep d).prot = s.prot := by
  unfold State.finishWinchStep; simp
@[simp] theorem State.finishWinchStep_bgt (d : Int) : (s.finishWinchStep d).bgt = s.bgt := by
  unfold State.finishWinchStep; simp
@[simp] theorem State.finishWinchStep_str (d : Int) : (s.finishWinchStep d).str = s.str := by
  unfold State.finishWinchStep; simp
@[simp] theorem State.finishWinchStep_lgt (d : Int) : (s.finishWinchStep d).lgt = s.lgt := by
  unfold State.finishWinchStep; simp
@[simp] theorem State.finishWinchStep_dlr (d : Int) : (s.finishWinchStep d).dlr = s.dlr := by
  unfold State.finishWinchStep; simp
@[simp] theorem State.finishWinchStep_pnd (d : Int) : (s.finishWinchStep d).pnd = s.pnd := by
  unfold State.finishWinchStep; simp
@[simp] theorem State.finishWinchStep_rsc (d : Int) : (s.finishWinchStep d).rsc = s.rsc := by
  unfold State.finishWinchStep; simp
@[simp] theorem State.finishWinchStep_pending (d : Int) : (s.finishWinchStep d).pending = s.pending := by
  unfold State.finishWinchStep; simp

/-! ### `State.orderStallChecks` -/

@[simp] theorem State.orderStallChecks_now (i : Fin 4) (o : Order) (r : OrderRun) (d : Int) : (s.orderStallChecks i o r d).1.now = s.now := by
  unfold State.orderStallChecks; (repeat' split) <;> simp
@[simp] theorem State.orderStallChecks_lines (i : Fin 4) (o : Order) (r : OrderRun) (d : Int) : (s.orderStallChecks i o r d).1.lines = s.lines := by
  unfold State.orderStallChecks; (repeat' split) <;> simp
@[simp] theorem State.orderStallChecks_pmon (i : Fin 4) (o : Order) (r : OrderRun) (d : Int) : (s.orderStallChecks i o r d).1.pmon = s.pmon := by
  unfold State.orderStallChecks; (repeat' split) <;> simp
@[simp] theorem State.orderStallChecks_prot (i : Fin 4) (o : Order) (r : OrderRun) (d : Int) : (s.orderStallChecks i o r d).1.prot = s.prot := by
  unfold State.orderStallChecks; (repeat' split) <;> simp
@[simp] theorem State.orderStallChecks_bgt (i : Fin 4) (o : Order) (r : OrderRun) (d : Int) : (s.orderStallChecks i o r d).1.bgt = s.bgt := by
  unfold State.orderStallChecks; (repeat' split) <;> simp
@[simp] theorem State.orderStallChecks_str (i : Fin 4) (o : Order) (r : OrderRun) (d : Int) : (s.orderStallChecks i o r d).1.str = s.str := by
  unfold State.orderStallChecks; (repeat' split) <;> simp
@[simp] theorem State.orderStallChecks_lgt (i : Fin 4) (o : Order) (r : OrderRun) (d : Int) : (s.orderStallChecks i o r d).1.lgt = s.lgt := by
  unfold State.orderStallChecks; (repeat' split) <;> simp
@[simp] theorem State.orderStallChecks_dlr (i : Fin 4) (o : Order) (r : OrderRun) (d : Int) : (s.orderStallChecks i o r d).1.dlr = s.dlr := by
  unfold State.orderStallChecks; (repeat' split) <;> simp
@[simp] theorem State.orderStallChecks_pnd (i : Fin 4) (o : Order) (r : OrderRun) (d : Int) : (s.orderStallChecks i o r d).1.pnd = s.pnd := by
  unfold State.orderStallChecks; (repeat' split) <;> simp
@[simp] theorem State.orderStallChecks_rsc (i : Fin 4) (o : Order) (r : OrderRun) (d : Int) : (s.orderStallChecks i o r d).1.rsc = s.rsc := by
  unfold State.orderStallChecks; (repeat' split) <;> simp
@[simp] theorem State.orderStallChecks_pending (i : Fin 4) (o : Order) (r : OrderRun) (d : Int) : (s.orderStallChecks i o r d).1.pending = s.pending := by
  unfold State.orderStallChecks; (repeat' split) <;> simp

/-! ### `State.directStallChecks` -/

@[simp] theorem State.directStallChecks_now (d : Int) : (s.directStallChecks d).1.now = s.now := by
  unfold State.directStallChecks; (repeat' split) <;> simp
@[simp] theorem State.directStallChecks_lines (d : Int) : (s.directStallChecks d).1.lines = s.lines := by
  unfold State.directStallChecks; (repeat' split) <;> simp
@[simp] theorem State.directStallChecks_pmon (d : Int) : (s.directStallChecks d).1.pmon = s.pmon := by
  unfold State.directStallChecks; (repeat' split) <;> simp
@[simp] theorem State.directStallChecks_prot (d : Int) : (s.directStallChecks d).1.prot = s.prot := by
  unfold State.directStallChecks; (repeat' split) <;> simp
@[simp] theorem State.directStallChecks_bgt (d : Int) : (s.directStallChecks d).1.bgt = s.bgt := by
  unfold State.directStallChecks; (repeat' split) <;> simp
@[simp] theorem State.directStallChecks_str (d : Int) : (s.directStallChecks d).1.str = s.str := by
  unfold State.directStallChecks; (repeat' split) <;> simp
@[simp] theorem State.directStallChecks_lgt (d : Int) : (s.directStallChecks d).1.lgt = s.lgt := by
  unfold State.directStallChecks; (repeat' split) <;> simp
@[simp] theorem State.directStallChecks_dlr (d : Int) : (s.directStallChecks d).1.dlr = s.dlr := by
  unfold State.directStallChecks; (repeat' split) <;> simp
@[simp] theorem State.directStallChecks_pnd (d : Int) : (s.directStallChecks d).1.pnd = s.pnd := by
  unfold State.directStallChecks; (repeat' split) <;> simp
@[simp] theorem State.directStallChecks_rsc (d : Int) : (s.directStallChecks d).1.rsc = s.rsc := by
  unfold State.directStallChecks; (repeat' split) <;> simp
@[simp] theorem State.directStallChecks_pending (d : Int) : (s.directStallChecks d).1.pending = s.pending := by
  unfold State.directStallChecks; (repeat' split) <;> simp

/-! ### `State.stallChecks` -/

@[simp] theorem State.stallChecks_now (d : Int) : (s.stallChecks d).1.now = s.now := by
  unfold State.stallChecks; (repeat' split) <;> simp
@[simp] theorem State.stallChecks_lines (d : Int) : (s.stallChecks d).1.lines = s.lines := by
  unfold State.stallChecks; (repeat' split) <;> simp
@[simp] theorem State.stallChecks_pmon (d : Int) : (s.stallChecks d).1.pmon = s.pmon := by
  unfold State.stallChecks; (repeat' split) <;> simp
@[simp] theorem State.stallChecks_prot (d : Int) : (s.stallChecks d).1.prot = s.prot := by
  unfold State.stallChecks; (repeat' split) <;> simp
@[simp] theorem State.stallChecks_bgt (d : Int) : (s.stallChecks d).1.bgt = s.bgt := by
  unfold State.stallChecks; (repeat' split) <;> simp
@[simp] theorem State.stallChecks_str (d : Int) : (s.stallChecks d).1.str = s.str := by
  unfold State.stallChecks; (repeat' split) <;> simp
@[simp] theorem State.stallChecks_lgt (d : Int) : (s.stallChecks d).1.lgt = s.lgt := by
  unfold State.stallChecks; (repeat' split) <;> simp
@[simp] theorem State.stallChecks_dlr (d : Int) : (s.stallChecks d).1.dlr = s.dlr := by
  unfold State.stallChecks; (repeat' split) <;> simp
@[simp] theorem State.stallChecks_pnd (d : Int) : (s.stallChecks d).1.pnd = s.pnd := by
  unfold State.stallChecks; (repeat' split) <;> simp
@[simp] theorem State.stallChecks_rsc (d : Int) : (s.stallChecks d).1.rsc = s.rsc := by
  unfold State.stallChecks; (repeat' split) <;> simp
@[simp] theorem State.stallChecks_pending (d : Int) : (s.stallChecks d).1.pending = s.pending := by
  unfold State.stallChecks; (repeat' split) <;> simp

/-! ### `State.driveWinch` -/

@[simp] theorem State.driveWinch_now : s.driveWinch.now = s.now := by simp [State.driveWinch]
@[simp] theorem State.driveWinch_lines : s.driveWinch.lines = s.lines := by simp [State.driveWinch]
@[simp] theorem State.driveWinch_pmon : s.driveWinch.pmon = s.pmon := by simp [State.driveWinch]
@[simp] theorem State.driveWinch_prot : s.driveWinch.prot = s.prot := by simp [State.driveWinch]
@[simp] theorem State.driveWinch_bgt : s.driveWinch.bgt = s.bgt := by simp [State.driveWinch]
@[simp] theorem State.driveWinch_str : s.driveWinch.str = s.str := by simp [State.driveWinch]
@[simp] theorem State.driveWinch_lgt : s.driveWinch.lgt = s.lgt := by simp [State.driveWinch]
@[simp] theorem State.driveWinch_dlr : s.driveWinch.dlr = s.dlr := by simp [State.driveWinch]
@[simp] theorem State.driveWinch_pnd : s.driveWinch.pnd = s.pnd := by simp [State.driveWinch]
@[simp] theorem State.driveWinch_rsc : s.driveWinch.rsc = s.rsc := by simp [State.driveWinch]
@[simp] theorem State.driveWinch_pending : s.driveWinch.pending = s.pending := by simp [State.driveWinch]

/-! ### `State.winchWork` -/

@[simp] theorem State.winchWork_now : s.winchWork.now = s.now := by simp [State.winchWork]
@[simp] theorem State.winchWork_lines : s.winchWork.lines = s.lines := by simp [State.winchWork]
@[simp] theorem State.winchWork_pmon : s.winchWork.pmon = s.pmon := by simp [State.winchWork]
@[simp] theorem State.winchWork_prot : s.winchWork.prot = s.prot := by simp [State.winchWork]
@[simp] theorem State.winchWork_bgt : s.winchWork.bgt = s.bgt := by simp [State.winchWork]
@[simp] theorem State.winchWork_str : s.winchWork.str = s.str := by simp [State.winchWork]
@[simp] theorem State.winchWork_lgt : s.winchWork.lgt = s.lgt := by simp [State.winchWork]
@[simp] theorem State.winchWork_dlr : s.winchWork.dlr = s.dlr := by simp [State.winchWork]
@[simp] theorem State.winchWork_pnd : s.winchWork.pnd = s.pnd := by simp [State.winchWork]
@[simp] theorem State.winchWork_rsc : s.winchWork.rsc = s.rsc := by simp [State.winchWork]
@[simp] theorem State.winchWork_pending : s.winchWork.pending = s.pending := by simp [State.winchWork]

/-! ### The drive state after the work of a step -/

/-- Steps 6 to 8 leave the duty of the step, the moving flag that goes with it, and the demand and speed cap formed. -/
theorem State.finishWinchStep_spec (d : Int) :
    (s.finishWinchStep d).wch.duty = d ∧ (s.finishWinchStep d).wch.moving = (d != 0) ∧
    (s.finishWinchStep d).wch.speedCap = s.wch.speedCap ∧ (s.finishWinchStep d).wch.nextStep = s.wch.nextStep :=
  ⟨rfl, rfl, rfl, rfl⟩

/-- A duty formed under a cap lies within it (R97). -/
theorem State.winchDuty_le (cap : Nat) : (s.winchDuty cap).natAbs ≤ cap := by
  unfold State.winchDuty
  split
  · simp
  · split
    · simp
    · exact (limitMagnitude_le cap s.winchCommand).1

/-- The stall checks keep the duty formed or set it to 0 (R96). -/
theorem State.stallChecks_duty (d : Int) : (s.stallChecks d).2 = d ∨ (s.stallChecks d).2 = 0 := by
  unfold State.stallChecks State.orderStallChecks State.directStallChecks
  (repeat' split) <;> simp

end Sys2Proof.Machine
end

