-- ==== Sys2Proof/Tests/Slice0.lean ====
section
/-! SUPPORT. Tests: the checks of WellFormed with an ill-formed term each, worked examples of the manual, and for each
statement with hypotheses a state and operands that meet them. Expected results come from the manual's own examples and
tables, or from hand calculation by its rules. -/

set_option Elab.async false

namespace Sys2Proof.Tests

open Sys2Proof.Machine

/-! ### Small states -/

/-- HALTED with a valid working copy, the factory defaults. -/
def halted : State := State.reset.withRsc { State.reset.rsc with run := .halted, load := none, valid := true }

def inRun (r : RunState) (s : State) : State := s.withRsc { s.rsc with run := r }

def inProt (p : ProtState) (s : State) : State := s.withProt { s.prot with st := p }

def switched (w : SwitchState) (s : State) : State := s.withProt { s.prot with sw := w }

def heldBy (f : Fn) (h : Holder) (v : Int) (s : State) : State :=
  s.withGrt { s.grt with fns := s.grt.fns.set f { s.grt.fns.get f with holder := h, value := v } }

def leased (f : Fn) (t : Nat) (s : State) : State :=
  s.withGrt { s.grt with fns := s.grt.fns.set f { s.grt.fns.get f with lease := some t } }

def decoded (f : Fn) (v : Int) (s : State) : State :=
  s.withGrt { s.grt with link := .fresh, lastDecoded := s.grt.lastDecoded.set f (some v) }

def vminIs (v : Int) (s : State) : State := s.withPmon { s.pmon with vmin := some v }

def measured (q : Quantity) (v : Int) (s : State) : State :=
  s.withPmon
    { s.pmon with
      chan := s.pmon.chan.set q
        { window := List.replicate q.depth v, published := some v, substituted := true, refill := false } }

def timing (k : Dwell) (start : Nat) (s : State) : State :=
  s.withProt { s.prot with dwell := s.prot.dwell.set k (some start) }

/-- An order that drives at full speed for ten seconds, with no turns to count. -/
def order (kind : OrderKind) (phase : OrderPhase) : Order :=
  { kind := kind, speed := 1000, turns := none, timeout := 100, noRetry := false, phase := phase, result := none,
    turnsDone := 0, retriesUsed := 0 }

/-- What an order carries at its start. -/
def run0 : OrderRun :=
  { startTime := 0, pulseCount := 0, pauseStart := none, currentTimer := none, drumTimer := none, armed := false }

/-- The queue with one order in slot 1. -/
def queued (o : Order) (s : State) : State :=
  s.withWch { s.wch with slots := s.wch.slots.set 1 (some o), postList := [1], lastPosted := 1 }

/-- RUNNING with the switch CLOSED, the winch held by AP. -/
def driving : State := heldBy .winch .ap 0 (switched .closed (inRun .running halted))

/-- The same with a winch step waiting. -/
def steering : State := driving.withPending [.winchStep]

/-- A queue with one order ACTIVE. -/
def hauling : State := queued (order .haul (.active run0)) steering

/-- BENCH-DRY, entered from `halted`. -/
def dry : State := halted.withRsc { halted.rsc with run := .benchDry, save := some halted.benchSave }

/-- A store in flight. -/
def storing : State := halted.withRsc { halted.rsc with storeEnd := some 40000 }

/-- A frame with counter 5, channel 2 (THROTTLE) at full and every other channel at its center. -/
def frame : List Byte :=
  [0xC5, 0x00, 0x05, 0x80, 0x0F, 0xFF, 0x80, 0x08, 0x00, 0x80, 0x08, 0x00, 0x80, 0x08, 0x00, 0x80, 0x08, 0x00, 0x38]

/-- All channels at center, counter 5, REPLY_REQ set. -/
def frameAsking : List Byte :=
  [0xC5, 0x00, 0x25, 0x80, 0x08, 0x00, 0x80, 0x08, 0x00, 0x80, 0x08, 0x00, 0x80, 0x08, 0x00, 0x80, 0x08, 0x00, 0xD5]

/-- All channels at center, counter 6, FAILSAFE set. -/
def frameLost : List Byte :=
  [0xC5, 0x00, 0x16, 0x80, 0x08, 0x00, 0x80, 0x08, 0x00, 0x80, 0x08, 0x00, 0x80, 0x08, 0x00, 0x80, 0x08, 0x00, 0xB3]

/-- The state after a command, for reading a result. -/
def after (c : Instr) (s : State) : State :=
  match exec c s with
  | .next t => t
  | _ => s

/-! ### Well-formed commands: each check refuses an ill-formed term -/

theorem test_short_frame_ill_formed : (Instr.radioFrame (frame.drop 1)).wellFormed = false := by decide +kernel

theorem test_frame_without_start_byte_ill_formed :
    (Instr.radioFrame (0xC4 :: frame.drop 1)).wellFormed = false ∧ (Instr.radioFrame frame).wellFormed = true := by
  decide +kernel

theorem test_short_image_ill_formed :
    (Instr.storeEnd factorySettings.bytes).wellFormed = false ∧
      (Instr.storeEnd factorySettings.withCrc).wellFormed = true := by decide +kernel

theorem test_known_command_is_no_unknown_write :
    (Instr.acpUnknownWrite [0x10, 0]).wellFormed = false ∧ (Instr.acpUnknownWrite [0x42]).wellFormed = true := by
  decide +kernel

/-- R157: the highest flag decides, so each RUNCTL row refuses a byte that belongs to another. -/
theorem test_runctl_rows_ill_formed :
    (Instr.halt [0x02]).wellFormed = false ∧ (Instr.sleep [0x03]).wellFormed = false ∧
      (Instr.benchDry [0x06]).wellFormed = false ∧ (Instr.benchWet [0x0C]).wellFormed = false ∧
      (Instr.load [0x18]).wellFormed = false ∧ (Instr.start [0x30]).wellFormed = false ∧
      (Instr.runctlNoFlag [0x20]).wellFormed = false ∧ (Instr.load [0x30]).wellFormed = true ∧
      (Instr.runctlNoFlag [0xC0]).wellFormed = true := by decide +kernel

/-! ### Worked examples of the manual -/

/-- R137: one bit shifted out of an empty register leaves the polynomial. -/
theorem test_crc8_polynomial : crc8 [0x01] = 0x2F := by decide +kernel

/-- R174: the CRC-16 of the ASCII digits 1 to 9 with polynomial 0x1021 and initial value 0xFFFF. -/
theorem test_crc16_digits : crc16 [0x31, 0x32, 0x33, 0x34, 0x35, 0x36, 0x37, 0x38, 0x39] = 0x29B1 := by decide +kernel

/-- Section 9.5: the factory configuration passes its own check. -/
theorem test_factory_settings_pass : firstBad factorySettings = none ∧ factorySettings.bytes.length = 350 := by
  decide +kernel

/-- Table 2-3. -/
theorem test_voltage_factor_table :
    ([3600, 3500, 3499, 3420, 3301, 3300, 3100].map fun v => stageKv factorySettings (some v)) =
      [1000, 1000, 996, 700, 253, 250, 250] := by decide +kernel

/-- Chapter 1, pack band transitions. -/
theorem test_pack_band_transitions :
    ([(0, 66), (0, 80), (1, 45), (1, 64), (2, 79), (2, 59), (3, 62), (3, 40)].map fun p : Nat × Int =>
      bandAfter factorySettings.ptThreshold factorySettings.ptHys p.1 p.2) = [2, 3, 1, 1, 2, 1, 2, 0] := by
  decide +kernel

/-- Chapter 1, a broken balance lead. -/
theorem test_broken_balance_lead :
    (cellsFrom 0 [3720, 0, 11150, 0]).take 3 = [3720, -3720, 11150] ∧
      vminOf [3720, -3720, 11150] true (some 11160) 3 = some 3720 := by decide +kernel

/-- Chapter 1, a long stall: the 34th period sets LIMIT, the decay by a quarter truncates. -/
theorem test_over_current_accumulator :
    qAfter factorySettings 198000 31000 = 204000 ∧ limitAfter factorySettings 204000 false = true ∧
      qAfter factorySettings 204000 21000 = 203000 ∧ limitAfter factorySettings 100000 true = false ∧
      qAfter factorySettings 385000 60000 = 400000 ∧ qAfter factorySettings 10 24997 = 10 := by decide +kernel

/-- Chapter 2, the worked case. Bytes 0 and 1 set PACK_LIMIT 20,000 with CELLS 3. -/
theorem test_budget_worked_case :
    (computeBudget (factorySettings.write 0 [0x30, 0xC8])
      { vmin := some 3420, packBand := 1, limit := false, prot := .warn, closed := true
        demand := { servo := 1200, drive := 6000, winch := 6000, lights := 1800 } }).grant =
      { servo := 1200, drive := 3550, winch := 6000, lights := 300 } := by decide +kernel

/-- Chapter 4, a change of direction: the slew applies across zero, and a cap clamps at once. -/
theorem test_duty_slew :
    slewDuty 400 50 (-200) 20 = -30 ∧ slewDuty 300 50 400 400 = 300 ∧ slewDuty 0 50 0 250 = 0 := by decide +kernel

/-- Chapter 4, counter-steer with fade: the products truncate toward zero. Bytes 131 and 132 set the two shares. -/
theorem test_counter_steer :
    let c := factorySettings.write 131 [80, 50]
    fadedShare c 400 = 60 ∧ axlesOf c .counter 600 60 = (600, -360) ∧ axlesOf c .crab 80 80 = (80, 64) ∧
      slewPulse 100 1670 (some 1820) = 1720 ∧ slewPulse 100 1388 (some 1305) = 1388 := by decide +kernel

/-- Chapter 6, a trim: eight outputs of 100 mA at 993, a grant of 791. Bytes 144 to 152 set the ratings and clear the
essential flags. -/
theorem test_trim :
    trimDuties (factorySettings.write 144 [10, 10, 10, 10, 10, 10, 10, 10, 0]) 791 (PerLamp.build fun _ => 993) =
      { PerLamp.build (fun _ => 993) with l7 := 980 } := by decide +kernel

/-- Chapter 6, the blink table. -/
theorem test_blink_table :
    ([0, 14, 15, 24, 25, 29, 30, 44, 45, 49, 50].map fun n => (blinkOn n 5 0, blinkOn n 3 1)) =
      [(true, false), (true, false), (true, true), (true, true), (false, true), (false, true), (false, false),
        (false, false), (false, true), (false, true), (true, true)] := by decide +kernel

/-- Chapter 5, the ring: the search for an EMPTY slot starts after the newest post and goes round. -/
theorem test_ring_search :
    (after (.winchPost [0, 3, 0xE8, 0, 10, 0]) driving).acp.data = [0] ∧
      (after (.winchPost [0, 3, 0xE8, 0, 10, 0]) (queued (order .haul .posted) driving)).acp.data = [2] ∧
      (driving.withWch { driving.wch with postList := [1, 3], slots := driving.wch.slots.set 1 (some (order .haul .posted)) }
        ).wch.freeSlot = some 0 := by decide +kernel

/-- R172, R141: channel 2 at 4,095 is full throttle, and drives out of FS. -/
theorem test_frame_takes_throttle :
    frameAccepted factorySettings frame = true ∧ (after (.radioFrame frame) driving).valueOf .throttle = 1000 ∧
      (after (.radioFrame frame) driving).holderOf .throttle = .dl := by decide +kernel

/-- R60, Table 11-4: REFRESH lists WINCH, id 5. -/
theorem test_refresh_lists : (after (.refresh []) driving).acp.data = [5, 0xFF, 0xFF, 0xFF, 0xFF, 0xFF, 0xFF] := by
  decide +kernel

/-- Chapter 9: a power-up with a store never written ends in HALTED, not valid, CONFIG_BAD latched (index 13). -/
theorem test_power_up_without_image :
    (after .loadEnd State.reset).rsc.run = .halted ∧ (after .loadEnd State.reset).rsc.valid = false ∧
      (after .loadEnd State.reset).acp.latched = 0x2000 := by decide +kernel

/-- Chapter 4, the worked sequence at 0 ms: no grant yet, the demand 6,000 published. -/
theorem test_first_drive_step :
    (after .driveStep (heldBy .throttle .dl 400 driving)).drv.demand = 6000 ∧
      (after .driveStep (heldBy .throttle .dl 400 driving)).drv.applied = 0 := by decide +kernel

/-- R70, R79: the interlock cap, 0 after reset, is formed at a drive step with the interlock flag clear too: 300 by default. -/
theorem test_interlock_cap_formed : State.reset.drv.interlockCap = 0 ∧ (after .driveStep driving).drv.interlockCap = 300 ∧
    (after .driveStep driving).drv.interlock = false := by decide +kernel

/-- R10: the second hard trip locks out, and the vehicle halts. -/
theorem test_second_trip_locks_out :
    (after .ocTripAssert (after .ocTripRelease (after .ocTripAssert driving))).prot.st = .lockout ∧
      (after .ocTripAssert (after .ocTripRelease (after .ocTripAssert driving))).rsc.run = .halted := by decide +kernel

/-- R148: a read transaction sends the status byte, the data, then zeros, however often it is read. REFRESH's seven
data bytes as above. -/
theorem test_read_transaction :
    (after (.refresh []) driving).readTransaction 10 = [0, 5, 0xFF, 0xFF, 0xFF, 0xFF, 0xFF, 0xFF, 0, 0] ∧
      (after (.refresh []) driving).readTransaction 2 = [0, 5] ∧
      (after (.claim [7]) driving).readTransaction 4 = [0x15, 0xFF, 0xFF, 0] := by decide +kernel

/-- R55, Table 11-4: holder and seq go with every status, a wrong length too (0x17); WINCH is held by AP (1). -/
theorem test_bad_length_reports_the_holder :
    (after (.claim [5, 0]) driving).readTransaction 4 = [0x17, 1, 0, 0] ∧
      (after (.faultAck [15, 0]) (inProt .warn halted)).acp.data = [1, 0] := by decide +kernel

/-- R146: a soft reset samples ADDR anew. -/
theorem test_soft_reset_samples_addr :
    (after (.reset ⟨true, []⟩) halted).portAddress = 0x5D ∧ (after (.reset ⟨false, []⟩) halted).portAddress = 0x5C := by
  decide +kernel

/-- R109: with a duty of 0, as with no grant, a timer that has run finds no stall. -/
theorem test_no_stall_without_duty :
    (after .drumCheckStall (queued (order .haul (.active { run0 with drumTimer := some 0 })) driving)).wch.active =
      some (1, order .haul (.active run0), run0) := by decide +kernel

/-- R170, chapter 10: LOCKOUT entered in BENCH-DRY leaves the trial A 0 at once. -/
theorem test_bench_lockout_clears_trial :
    (after .critTimerComplete (vminIs 2900 (timing .crit 0 (inProt .cutoff (dry.withBgt
      { dry.bgt with trial := some { BudgetResult.zero with a := 9 } }))))).bgt.trial.map BudgetResult.a = some 0 := by
  decide +kernel

/-- R7: with the cut and the crit timer both run out LOCKOUT is taken, whichever is named; with the cut timer run out beside
the warn-entry timer, CUTOFF, whose fault has index 2. -/
theorem test_most_severe_target :
    (after .cutTimerComplete (vminIs 2900 (timing .cut 0 (timing .crit 0 driving)))).prot.st = .lockout ∧
      (after .warnEntryComplete (vminIs 3300 (timing .cut 0 (timing .warnEntry 0 driving)))).prot.st = .cutoff ∧
      (after .warnEntryComplete (vminIs 3300 (timing .cut 0 (timing .warnEntry 0 driving)))).acp.latched = 4 := by
  decide +kernel

/-- R113: a RELEASE, a lease that expires, a pendant button and a HALT each end the ACTIVE order FAILED/PREEMPTED with
ORDER_DONE posted, and keep its slot in the post list. -/
theorem test_preempted :
    ([(.release [5], hauling), (.apLeaseExpiry .winch, leased .winch 9 hauling),
        (.pendantSettleExpiry .pendIn, (hauling.withLines { hauling.lines with pendIn := true }).withPnd
          { hauling.pnd with inSettle := some 9 }), (.halt [1], hauling)] : List (Instr × State)).all
      (fun p => decide ((after p.1 p.2).wch.slots.get 1 =
          some { order .haul .failed with result := some .preempted }) &&
        decide ((after p.1 p.2).wch.postList = [1]) && (after p.1 p.2).acp.orderDone) = true := by decide +kernel

/-- No word spells a command: the table gives no row any bits. -/
theorem test_no_word_decodes : decodeTableWord 8 0x10 = none := by decide +kernel

/-! ### Witnesses: for each statement with hypotheses, states and operands that meet them

`portOpen` is the absence of a store in flight, `storeEnd = none`. A statement with several clauses has its witness at a
boundary of each. -/

theorem steering_steps : ∃ t, step steering = .next t := ⟨_, rfl⟩

theorem witness_SwitchFollowsRunState :
    steering.switchOk ∧ steering.windowsOk ∧ steering.causeOk ∧ ∃ t, step steering = .next t :=
  ⟨by unfold State.switchOk; decide +kernel, fun q => by cases q <;> decide +kernel,
    ⟨by unfold causeFits; decide +kernel, fun _ h => nomatch h⟩, steering_steps⟩

/-- The drag brake on, and on its line. -/
def braking : State := steering.withDrv { steering.drv with dragBrake := true, brk := some 500 }

theorem witness_OutputsOnlyWhileAllowed : braking.outputsOk ∧ braking.drv.brk ≠ none ∧ ∃ t, step braking = .next t :=
  ⟨⟨fun h => absurd (by decide +kernel) h, fun h => absurd (by decide +kernel) h,
    fun _ => ⟨by unfold State.mayBrake; decide +kernel, by decide +kernel, by decide +kernel⟩,
    fun v => by cases v <;> decide +kernel, fun l => by cases l <;> decide +kernel⟩, by decide +kernel, ⟨_, rfl⟩⟩

/-- The winch moving and the drive at WINCH_DRIVE_CAP, 300 by default. -/
def interlocked : State :=
  (steering.withWch { steering.wch with duty := -100, moving := true, speedCap := 100 }).withDrv
    { steering.drv with interlock := true, applied := 300, cap := 300, budgetCap := 1000, thermalCap := 1000, interlockCap := 300 }

theorem witness_DutiesWithinCaps : interlocked.dutiesOk ∧ interlocked.interlockOk ∧ interlocked.wch.moving = true ∧
    ∃ t, step interlocked = .next t ∧ t.cfg.winchDriveCap = interlocked.cfg.winchDriveCap :=
  ⟨by unfold State.dutiesOk; decide +kernel, by unfold State.interlockOk; decide +kernel, by decide +kernel,
    ⟨_, rfl, by decide +kernel⟩⟩

theorem witness_GrantsWithinAvailable : steering.budgetOk ∧ ∃ t, step steering = .next t :=
  ⟨⟨by decide +kernel, fun _ h => (nomatch h), by decide +kernel⟩, steering_steps⟩

theorem witness_LightDrawsWithinGrant : steering.lightsOk ∧ ∃ t, step steering = .next t :=
  ⟨by unfold State.lightsOk; decide +kernel, steering_steps⟩

/-- The radio steers THROTTLE out of its band, DL holding it. -/
def radioed : State := decoded .throttle 300 (heldBy .throttle .dl 300 steering)

theorem witness_RadioKeepsTheWheel : radioed.configOk ∧ radioed.radioOk ∧ ∃ t, step radioed = .next t :=
  ⟨by unfold State.configOk; decide +kernel,
    ⟨fun f _ hf _ _ _ => by cases f <;> first | exact absurd hf (by decide) | decide +kernel,
      fun f => by cases f <;> decide +kernel⟩, ⟨_, rfl⟩⟩

theorem witness_HoldersStayAllowed : steering.configOk ∧ steering.holdersOk ∧ ∃ t, step steering = .next t :=
  ⟨by unfold State.configOk; decide +kernel, fun f => by cases f <;> decide +kernel, steering_steps⟩

/-- Only slot 1 of a queue with one order can be ACTIVE. -/
theorem one_active (o : Order) (j : Fin 4) (h : (queued o steering).wch.activeAt j) : j = 1 := by
  obtain ⟨o', ho, hr⟩ := h
  revert ho hr
  match j with
  | 0 => exact fun h => nomatch h
  | 1 => exact fun _ _ => rfl
  | 2 => exact fun h => nomatch h
  | 3 => exact fun h => nomatch h

theorem hauling_queueOk : hauling.queueOk := by
  refine ⟨by decide +kernel, by decide +kernel, ?_, fun i j hi hj => (one_active _ i hi).trans (one_active _ j hj).symm,
    fun _ _ => by decide +kernel⟩
  intro before i after h _ j hj
  match before, h with
  | [], _ => exact nomatch hj
  | a :: rest, h => exact absurd (congrArg List.length h) (by simp [hauling, queued, State.withWch])

/-- The queue of `hauling` with AP holding WINCH is a queue in order, whatever the rest of the state. -/
theorem queueOk_of_hauling (s : State) (hw : s.wch = hauling.wch) (hh : s.holderOf .winch = .ap) : s.queueOk := by
  have h := hauling_queueOk
  unfold State.queueOk at h ⊢
  rw [hw]
  exact ⟨h.1, h.2.1, h.2.2.1, h.2.2.2.1, fun _ _ => hh⟩

/-- The states in which the events of R113 find an order ACTIVE: a lease of WINCH, a pendant button settled, a last decoded
WINCH value that the frame's differs from, WINCH_EN written 0, a LOAD in flight, entry to SLEEP, and the dwell timers. -/
theorem witness_preempted :
    let active := fun s : State => s.queueOk ∧ s.wch.active = some (1, order .haul (.active run0), run0)
    active hauling ∧ hauling.rsc.storeEnd = none ∧ hauling.rsc.run ≠ .sleep ∧ hauling.holderOf .winch = .ap ∧
      active (leased .winch 9 hauling) ∧ active (decoded .winch 700 hauling) ∧
      hauling.cfg.dlChannel .winch ≠ 0 ∧ hauling.cfg.allows .winch .dl = true ∧
      (after (.radioFrame frame) (decoded .winch 700 hauling)).holderOf .winch = .dl ∧
      active (inRun .benchDry hauling) ∧ (inRun .benchDry hauling).cfg.winchEn = true ∧
      (after (.cfgWrite [0, 42, 1, 0]) (inRun .benchDry hauling)).cfg.winchEn = false ∧
      active (inRun .loading (switched .opened hauling)) ∧ active (inRun .halted hauling) ∧
      active (vminIs 2900 (timing .crit 0 hauling)) := by
  refine ⟨⟨hauling_queueOk, by decide +kernel⟩, by decide +kernel, by decide +kernel, by decide +kernel,
    ⟨queueOk_of_hauling _ rfl (by decide +kernel), by decide +kernel⟩,
    ⟨queueOk_of_hauling _ rfl (by decide +kernel), rfl⟩, ?_⟩
  refine ⟨by decide +kernel, by decide +kernel, by decide +kernel, ⟨queueOk_of_hauling _ rfl rfl, rfl⟩,
    by decide +kernel, by decide +kernel, ⟨queueOk_of_hauling _ rfl rfl, rfl⟩, ⟨queueOk_of_hauling _ rfl rfl, rfl⟩,
    ⟨queueOk_of_hauling _ rfl rfl, rfl⟩⟩

theorem witness_WinchQueueStaysOrdered : hauling.queueOk ∧ ∃ t, step hauling = .next t := ⟨hauling_queueOk, ⟨_, rfl⟩⟩

theorem witness_ActiveFaultsAreLatched : ∃ t, exec .ocTripAssert driving = .next t := ⟨_, rfl⟩

theorem witness_SeqCountsHolderChanges : ∃ t, exec (.claim [0]) driving = .next t ∧ t.holderOf .throttle = .ap :=
  ⟨_, rfl, by decide +kernel⟩

/-- LOCKOUT with a pack just good enough to be cleared. -/
def lockedGood : State := vminIs 3450 (inProt .lockout halted)

theorem witness_LockoutLeftOnlyByClear : lockedGood.rsc.save = none ∧ lockedGood.prot.st = .lockout ∧
    ∃ t, exec (.lockoutClear []) lockedGood = .next t ∧ t.prot.st ≠ .lockout :=
  ⟨rfl, rfl, _, rfl, by decide +kernel⟩

theorem witness_WritesSpellTheirCommand :
    (Instr.start [0x20]).wellFormed = true ∧ (Instr.start [0x20]).writeBytes = some [0x10, 0x20] ∧
      (Instr.reset ⟨true, []⟩).wellFormed = true ∧ (Instr.reset ⟨true, []⟩).writeBytes = some [0x11] := by decide +kernel

theorem witness_PortRefusesInOrder :
    (0x42 : Byte).toNat ∉ commandBytes ∧ (0x02 : Byte).toNat ∈ commandBytes ∧ tableLength 0x02 ≠ some ([] : List Byte).length ∧
      tableLength 0x02 = some ([6] : List Byte).length ∧ (0x02 : Byte) ≠ 0x01 ∧ storing.rsc.storeEnd ≠ none := by
  decide +kernel

theorem witness_WriteWakesSleep : (inRun .sleep halted).rsc.run = .sleep ∧ ¬((0x01 : Byte) = 0x10) ∧ ¬((0x01 : Byte) = 0x11) := by
  decide +kernel

theorem witness_ReadReturnsBlocks : halted.rsc.storeEnd = none ∧
    ([.pack, .budget, .grants, .drive, .steer, .winch, .lights] : List ReadBlock)[(0 : Byte).toNat]? = some .pack ∧
      ([.pack, .budget, .grants, .drive, .steer, .winch, .lights] : List ReadBlock)[(6 : Byte).toNat]? = some .lights ∧
      6 < (7 : Byte).toNat := by decide +kernel

theorem witness_StatusCausesAndAttention : halted.rsc.storeEnd = none := by decide +kernel

theorem witness_FaultWalk : halted.rsc.storeEnd = none ∧ (inProt .warn halted).faultActive .lowWarn = true ∧
    halted.faultActive .lowWarn = false ∧ (halted.raise .storeFail).faultLatched .storeFail = true ∧
      15 < (16 : Byte).toNat := by decide +kernel

theorem witness_LockoutClearJudged : lockedGood.rsc.storeEnd = none ∧ lockedGood.rsc.run = .halted ∧
    lockedGood.prot.st = .lockout ∧ lockedGood.pmon.vmin = some 3450 ∧
      ((lockedGood.cfg.vCut + lockedGood.cfg.vRearm : Nat) : Int) ≤ 3450 ∧
      ¬((lockedGood.cfg.vCut + lockedGood.cfg.vRearm : Nat) : Int) ≤ 3449 := by decide +kernel

theorem witness_HaltStopsTheVehicle : driving.rsc.storeEnd = none ∧ runctlRow [0x01] = .halt ∧
    runctlRow [0xFF] = .halt ∧ dry.rsc.storeEnd = none ∧ dry.rsc.save = some halted.benchSave := by
  decide +kernel

theorem witness_SleepEntered : runctlRow [0x02] = .sleep ∧ halted.rsc.run = .halted ∧
    (driving.withRsc { driving.rsc with idleEnd := some 7 }).rsc.idleEnd = some 7 ∧ driving.rsc.run = .running ∧
      halted.rsc.storeEnd = none := by decide +kernel

theorem witness_BenchEntered : runctlRow [0x04] = .benchDry ∧ runctlRow [0x08] = .benchWet ∧
    halted.rsc.run = .halted ∧ halted.rsc.startInFlight = false ∧ halted.lines.ocTrip = false ∧
      halted.prot.st = .normal ∧ halted.rsc.valid = true ∧ halted.prot.sw = .opened ∧
      (halted.withLines { halted.lines with ocTrip := true }).lines.ocTrip = true ∧ lockedGood.prot.st = .lockout ∧
      (halted.withRsc { halted.rsc with valid := false }).rsc.valid = false ∧ driving.rsc.run ≠ .halted ∧
      (halted.withProt { halted.prot with st := .cutoff, cause := some .hardTrip, tripTime := some 0 }).prot.cause =
        some .hardTrip ∧ (inProt .cutoff halted).prot.cause ≠ some .hardTrip := by decide +kernel

/-- The power-up load of a part with a good image, and with none. -/
def loading : State := State.reset.withRsc { State.reset.rsc with store := .written factorySettings.withCrc }

/-- The stored form of a 350-byte configuration is its bytes and their CRC. -/
theorem withCrc_parts (c : Settings) (h : c.bytes.length = 350) :
    c.withCrc.take 350 = c.bytes ∧ c.withCrc.drop 350 = word16 (crc16 c.bytes).toNat :=
  ⟨by (rw [Settings.withCrc, ← h, List.take_left']; rfl), by (rw [Settings.withCrc, ← h, List.drop_left']; rfl)⟩

theorem witness_LoadBeginsAndJudges : runctlRow [0x30] = .load ∧ halted.rsc.storeEnd = none ∧
    loading.rsc.load = some ⟨5000, true⟩ ∧ loading.rsc.run = .loading ∧ loading.prot.sw = .opened ∧
      loading.lines.ocTrip = false ∧ (after .ocTripAssert loading).lines.ocTrip = true ∧
      loading.prot.st ≠ .lockout ∧ factorySettings.autoStart = true ∧
      State.reset.rsc.store = .neverWritten := by decide +kernel

theorem witness_LoadBeginsAndJudges_image : loading.rsc.store = .written factorySettings.withCrc ∧
    factorySettings.withCrc.length = 352 ∧
      factorySettings.withCrc.drop 350 = word16 (crc16 (factorySettings.withCrc.take 350)).toNat ∧
      firstBad ⟨factorySettings.withCrc.take 350⟩ = none := by
  have parts := withCrc_parts factorySettings test_factory_settings_pass.2
  refine ⟨rfl, ?_, by rw [parts.1, parts.2], by rw [parts.1]; exact test_factory_settings_pass.1⟩
  rw [Settings.withCrc, List.length_append, test_factory_settings_pass.2]
  rfl

theorem witness_StartJudgedInOrder : runctlRow [0x20] = .start ∧ runctlRow [0x00] = .noFlag ∧
    halted.rsc.run = .halted ∧ halted.rsc.startInFlight = false ∧ halted.prot.st ≠ .lockout ∧ halted.rsc.valid = true ∧
      halted.prot.sw = .opened ∧ halted.lines.ocTrip = false ∧
      (halted.withRsc { halted.rsc with startInFlight := true }).rsc.startInFlight = true ∧
      lockedGood.prot.st = .lockout ∧ firstBad (halted.cfg.write 2 [51]) = some (2, .range) ∧
      firstBad halted.cfg = none := by decide +kernel

theorem witness_ArmingAndWakeEnd :
    (inRun .arming (halted.withRsc { halted.rsc with armingEnd := some 9 })).rsc.armingEnd = some 9 ∧
      (inRun .sleep (halted.withRsc { halted.rsc with wakeEnd := some 9, sleepOrigin := some .fromRunning })).rsc.wakeEnd =
        some 9 ∧ State.reset.prot.sw = .opened ∧ (after .ocTripAssert halted).lines.ocTrip = true ∧
      (after .ocTripAssert halted).prot.sw = .opened := by decide +kernel

theorem witness_ConfigurationCommands : halted.cfg.bytes.length = 350 ∧ 0x01 * 256 + 0x50 + 16 ≤ 352 ∧
    ¬0x01 * 256 + 0x51 + 16 ≤ 352 ∧ firstBadTouched (halted.cfg.write 2 [15]) 2 1 = none ∧
      firstBadTouched (halted.cfg.write 2 [51]) 2 1 = some 2 ∧ halted.rsc.run = .halted ∧
      halted.rsc.startInFlight = false ∧ dry.rsc.run = .benchDry ∧ driving.rsc.run = .running ∧
      0x01 * 256 + 0x4E + 16 = 350 ∧ 350 < 0x01 * 256 + 0x4F + 16 := by decide +kernel

theorem witness_StoreRunsAndEnds : storing.rsc.storeEnd = some 40000 ∧ halted.rsc.valid = true ∧
    halted.rsc.startInFlight = false ∧ driving.rsc.run ≠ .halted := by decide +kernel

theorem witness_ResetValues : halted.rsc.storeEnd = none ∧ halted.rsc.save = none ∧ dry.rsc.storeEnd = none ∧
    dry.rsc.save = some halted.benchSave := by decide +kernel

/-- The refusals of the grant and winch commands: SLEEP, and a function id just above 6. -/
theorem witness_refused_in_sleep : (inRun .sleep driving).rsc.run = .sleep ∧ (inRun .sleep driving).rsc.storeEnd = none ∧
    6 < (7 : Byte).toNat ∧ ¬6 < (6 : Byte).toNat := by decide +kernel

/-- Claims: THROTTLE free of the radio, at the edge of its band, and beyond it. -/
theorem witness_ClaimTakesTheHolder : driving.rsc.storeEnd = none ∧ driving.rsc.run ≠ .sleep ∧
    driving.cfg.allows .throttle .ap = true ∧ driving.holderOf .throttle ≠ .pd ∧
      ¬driving.cfg.neutralBand .throttle < (100 : Int).natAbs ∧ driving.cfg.neutralBand .throttle < (101 : Int).natAbs ∧
      (decoded .throttle 101 driving).grt.link = .fresh ∧
      (decoded .throttle 101 driving).grt.lastDecoded.get .throttle = some 101 ∧
      (heldBy .winch .pd 0 driving).holderOf .winch = .pd := by decide +kernel

theorem witness_SetWritesTheValue : (heldBy .throttle .ap 5 driving).holderOf .throttle = .ap ∧
    ((heldBy .throttle .ap 5 driving).grt.fns.get .throttle).seq = (0 : Byte).toNat ∧ beInt [0x03, 0xE8] = 1000 ∧
      (Fn.gear.topCode : Int) = 1 ∧ (Fn.gear.topCode : Int) < beInt [0, 2] ∧ beInt [0xFF, 0xFF] < 0 ∧
      driving.holderOf .winch = .ap ∧ driving.holderOf .steer ≠ .ap := by decide +kernel

theorem witness_ClaimSetDoesBoth : driving.cfg.allows .gear .ap = true ∧ driving.holderOf .gear ≠ .pd ∧
    Fn.gear.proportional = false ∧ 0 ≤ beInt [0, 1] ∧ beInt [0, 1] ≤ Fn.gear.topCode ∧
      (Fn.gear.topCode : Int) < beInt [0, 2] := by decide +kernel

theorem witness_ReleaseGivesUp : driving.holderOf .winch = .ap ∧ driving.holderOf .steer ≠ .ap ∧
    driving.cfg.defaultHolder .winch = some .dl ∧ (decoded .winch 700 driving).grt.link = .fresh ∧
      (decoded .winch 700 driving).grt.lastDecoded.get .winch = some 700 := by decide +kernel

theorem witness_RefreshRestartsLeases : driving.rsc.storeEnd = none ∧ driving.rsc.run ≠ .sleep ∧
    driving.holderOf .winch = .ap := by decide +kernel

theorem witness_FreshFrameActsOnEachRecord : driving.rsc.run ≠ .sleep ∧ frameAccepted driving.cfg frame = true ∧
    driving.dlr.lastCounter ≠ some (frameCounter frame) ∧ frameFailsafe frame = false ∧
      driving.cfg.dlChannel .throttle ≠ 0 ∧ driving.holderOf .throttle = .fs ∧
      driving.cfg.allows .throttle .dl = true := by decide +kernel

/-- R53: a stick at rest, THROTTLE held by FS and waiting for no reacquire. -/
theorem witness_FreshFrameActsOnEachRecord_stays :
    let s := heldBy .throttle .fs 0 (driving.withGrt
      { driving.grt with fns := driving.grt.fns.set .throttle { driving.grt.fns.get .throttle with reacquire := false } })
    s.holderOf .throttle = .fs ∧ (s.grt.fns.get .throttle).reacquire = false ∧ Fn.throttle.proportional = true ∧
      ¬s.cfg.neutralBand .throttle < (0 : Int).natAbs ∧ frameAccepted s.cfg frameAsking = true ∧
      s.dlr.lastCounter ≠ some (frameCounter frameAsking) ∧ frameFailsafe frameAsking = false := by decide +kernel

theorem witness_ChannelsDecode : driving.cfg.dlChannel .throttle ≠ 0 ∧
    driving.cfg.calDeadband (driving.cfg.dlChannel .throttle) < driving.cfg.calHalfSpan (driving.cfg.dlChannel .throttle) ∧
      frameAccepted driving.cfg frame = true := by decide +kernel

theorem witness_FrameAcceptance : driving.dlr.asm = .hunting ∧ driving.dlr.gapEnd = none ∧
    frameAccepted driving.cfg (frame.drop 1) = false ∧ frameAccepted driving.cfg frameAsking = true ∧
      frameReplyReq frameAsking = true ∧ driving.dlr.reply = .idle ∧ frameAccepted driving.cfg frameLost = true ∧
      frameFailsafe frameLost = true := by decide +kernel

theorem witness_AssemblerCollects : (frame.take 17).length + 1 < 19 ∧ (frame.take 18).length + 1 = 19 ∧
    halted.dlr.asm = .hunting ∧
      (halted.withDlr { halted.dlr with asm := .collecting (frame.take 18), gapEnd := some 500 }).dlr.gapEnd = some 500 := by
  decide +kernel

theorem witness_FreshnessAndLeaseExpire :
    (driving.withGrt { driving.grt with freshEnd := some 9 }).grt.freshEnd = some 9 ∧
      ((leased .winch 9 driving).grt.fns.get .winch).lease = some 9 ∧ (leased .winch 9 driving).holderOf .winch = .ap := by
  decide +kernel

theorem witness_ReplySent : (driving.withDlr { driving.dlr with reply := .waiting 15 200 }).dlr.reply = .waiting 15 200 ∧
    (driving.withDlr { driving.dlr with reply := .sending [0xC6] 700 }).dlr.reply = .sending [0xC6] 700 := by
  decide +kernel

theorem witness_PendantTakesTheWinch : driving.pnd.settleEnd .pendIn = some 20000 ∧
    driving.pnd.pressed .pendIn = driving.lines.low .pendIn ∧
      driving.pnd.pressed .pendIn ≠ (driving.withLines { driving.lines with pendIn := true }).lines.low .pendIn ∧
      driving.cfg.allows .winch .pd = true ∧ (heldBy .winch .pd 300 driving).holderOf .winch = .pd ∧
      (driving.cfg.write Fn.winch.recordAt [0x40]).allows .winch .pd = false ∧ driving.holderOf .winch ≠ .pd := by
  decide +kernel

theorem witness_OrderPosted : OrderKind.haul.code = (0 : Byte).toNat ∧
    driving.wch.slots.get (driving.wch.postList.getLast?.getD driving.wch.lastPosted + 1 + 0) = none ∧
      (driving.withWch { driving.wch with slots := PerSlot.build fun _ => some (order .haul .done) }).wch.freeSlot = none := by
  decide +kernel

theorem witness_OrderCancelledAndReaped : (order .haul .posted).finished = false ∧ (order .haul .done).finished = true ∧
    (queued (order .haul .done) driving).wch.slots.get 1 = some (order .haul .done) ∧
      (queued (order .haul .done) driving).wch.postList = [] ++ 1 :: [] ∧
      (queued (order .haul .done) driving).wch.postList.Nodup := by decide +kernel

theorem witness_QueueResumed : driving.rsc.storeEnd = none ∧ driving.rsc.run ≠ .sleep := by decide +kernel

/-- Direct drive with the hold present, its stalled sign that of the value; AP's hold with nothing posted; and one order
ACTIVE, with its time left, at its pause's last step and at the first one past it, and under the stall arm. -/
theorem witness_WinchStepFormsTheDuty :
    let held := (heldBy .winch .dl 500 driving).withWch { driving.wch with stallHold := true, stalledSign := some 1 }
    let r : OrderRun := { run0 with pauseStart := some 0, armed := true }
    (∀ j, hauling.wch.activeAt j → j = 1) ∧ held.holderOf .winch ≠ .ap ∧ held.wch.active = none ∧ held.wch.stallHold = true ∧ held.valueOf .winch ≠ 0 ∧
      held.wch.stalledSign ≠ some (-(held.valueOf .winch).sign) ∧ driving.wch.active = none ∧
      driving.holderOf .winch = .ap ∧ driving.wch.slots = PerSlot.build (fun _ => none) ∧
      hauling.holderOf .winch = .ap ∧ hauling.wch.active = some (1, order .haul (.active run0), run0) ∧
      hauling.bgt.starved.get .winch < hauling.cfg.starveT ∧
      max hauling.now hauling.wch.nextStep < 0 + 100 * 100 * msec ∧
      (queued (order .haul (.active r)) steering).wch.active = some (1, order .haul (.active r), r) ∧
      0 + driving.cfg.retryPause * msec ≤ 300000 ∧ 299999 < 0 + driving.cfg.retryPause * msec :=
  ⟨one_active _, by decide +kernel⟩

/-- R109: a current timer that has run its 200 ms with the estimate at STALL_I, and a drum timer one microsecond short of
its 500 ms. -/
theorem witness_stallDue :
    ((measured .servoCurrent 0 (measured .packCurrent 8150 driving)).stallDue 200000 (some 0) none) ∧
      ¬driving.stallDue 499999 none (some 0) ∧ driving.cfg.stallT = 200 ∧ driving.cfg.noPulseT = 500 :=
  ⟨.inl ⟨by decide +kernel, 0, rfl, by decide +kernel⟩, fun h => by
    rcases h with ⟨_, a, ha, _⟩ | ⟨a, ha, hle⟩
    · exact nomatch ha
    · obtain rfl := Option.some.inj ha
      exact absurd hle (by decide +kernel), by decide +kernel, by decide +kernel⟩

/-- A posted order on `driving`, whose other hypotheses of the start hold, with the stall arm clear and set, and a starved
time below STARVE_T and at it; and one paying out at the line limit. -/
theorem witness_OrderStarts :
    let s := queued (order .payout .posted) driving
    s.wch.postList = [] ++ 1 :: [] ∧ s.wch.slots.get 1 = some (order .payout .posted) ∧ s.wch.active = none ∧
      s.wch.runFlag = true ∧ s.holderOf .winch = .ap ∧ s.countedRunning = true ∧ s.prot.st = .normal ∧
      s.countedClosed = true ∧ s.cfg.winchEn = true ∧ s.bgt.starved.get .winch < s.cfg.starveT ∧
      s.cfg.starveT ≤ 1000 ∧ s.wch.stallArm = false ∧ (s.withWch { s.wch with stallArm := true }).wch.runFlag = true ∧
      s.wch.referenced = false ∧ ((s.cfg.lineMax * s.cfg.pulsesPerTurn : Nat) : Int) ≤ 120 := by decide +kernel

theorem witness_OrderTimesOutOrStarves : hauling.wch.active = some (1, order .haul (.active run0), run0) ∧
    hauling.holderOf .winch = .ap ∧
      hauling.cfg.starveT ≤
        (hauling.withBgt { hauling.bgt with starved := PerConsumer.build fun _ => 1000 }).bgt.starved.get .winch := by
  decide +kernel

/-- Both stall checks of an order with time left, one that drives and one stopped by WINCH_EN, and the end of a pause. -/
theorem witness_StallsHandled :
    let stalling := queued (order .haul (.active { run0 with drumTimer := some 0, currentTimer := some 0 })) driving
    let pausing := queued (order .haul (.active { run0 with pauseStart := some 0 })) driving
    stalling.wch.active.map (·.2.2.drumTimer) = some (some 0) ∧
      stalling.wch.active.map (·.2.2.currentTimer) = some (some 0) ∧
      stalling.bgt.starved.get .winch < stalling.cfg.starveT ∧
      max stalling.now (max 0 (stalling.wch.lastPulse.getD 0) + stalling.cfg.noPulseT * msec) < 0 + 100 * 100 * msec ∧
      max stalling.now (0 + stalling.cfg.stallT * msec) < 0 + 100 * 100 * msec ∧
      pausing.wch.active.map (·.2.2.pauseStart) = some (some 0) ∧
      (8000 : Int) ≤ 8150 - 0 - driving.cfg.baseLoad - driving.grantFor .drive - driving.grantFor .lights ∧
      (driving.cfg.stallI : Int) = 8000 ∧ (measured .packCurrent 8150 driving).published .packCurrent = some 8150 ∧
      driving.wch.active = none ∧ (heldBy .winch .dl 500 driving).holderOf .winch ≠ .ap ∧
      driving.wch.stallHold = false := by
  decide +kernel

/-- An order that pays out, three of its pulses counted, at two pulses a turn. -/
def payingOut (turns : Nat) : Order :=
  { order .payoutTurns (.active { run0 with pulseCount := 3 }) with turns := some turns }

/-- Pulses: not counted, counted for no order, bringing an order to its two turns, and one short of three turns, each at
the line limit and one pulse before it. -/
theorem witness_DrumPulsesCount :
    let limit : Int := (driving.cfg.lineMax * driving.cfg.pulsesPerTurn : Nat)
    let s := (queued (payingOut 2) steering).withWch
      { (queued (payingOut 2) steering).wch with dir := .payout, referenced := true, linePos := limit - 1 }
    (∀ j, (queued (payingOut 2) steering).wch.activeAt j → j = 1) ∧ s.rsc.run ≠ .benchDry ∧ s.wch.dir ≠ .none ∧ driving.wch.dir = .none ∧
      s.wch.active = some (1, payingOut 2, { run0 with pulseCount := 3 }) ∧
      min 255 ((3 + 1) / s.cfg.pulsesPerTurn) = 2 ∧ limit ≤ min 32767 (s.wch.linePos + 1) ∧
      ¬limit ≤ min 32767 (s.wch.linePos - 1 + 1) ∧ hauling.wch.active = some (1, order .haul (.active run0), run0) ∧
      (dry.withWch { dry.wch with drumRate := 500, nextBenchPulse := some 2000, dir := .haul }).wch.nextBenchPulse =
        some 2000 ∧ driving.wch.duty = 0 :=
  ⟨one_active _, by decide +kernel⟩

/-- Four cells' taps published, at the edge of the TAP fault, and a pack at each edge of a band. -/
theorem witness_MonitorPublishes : (measured .tap1 4600 driving).published .tap1 = some 4600 ∧
    driving.published .tap1 = none ∧ 0 < driving.cfg.cells ∧ driving.rsc.save = none ∧
      driving.cfg.ptThreshold 1 + driving.cfg.ptHys = 50 := by decide +kernel

/-- R7: a dwell run to its last microsecond, and one short of it. -/
theorem witness_ProtectionFollowsVmin :
    (vminIs 3499 (timing .warnEntry 0 halted)).dwellTrue 3499 false 2000000 .warnEntry ∧
      (timing .warnEntry 0 halted).dwellRun 2000000 .warnEntry ∧ ¬(timing .warnEntry 0 halted).dwellRun 1999999 .warnEntry :=
  ⟨by unfold State.dwellTrue; decide +kernel, ⟨0, by decide +kernel⟩, by
    rintro ⟨a, h, hle⟩
    have h0 : (timing .warnEntry 0 halted).prot.dwell.get .warnEntry = some 0 := by decide +kernel
    obtain rfl : (0 : Nat) = a := Option.some.inj (h0.symm.trans h)
    exact absurd hle (by decide +kernel)⟩

theorem witness_DwellTimersComplete :
    halted.dwellTrue 3499 false 0 .warnEntry ∧ (inProt .warn halted).dwellTrue 3550 false 0 .warnExit ∧
      halted.dwellTrue 3300 false 0 .cut ∧ (inProt .cutoff halted).dwellTrue 3000 false 0 .crit ∧
      (timing .crit 0 halted).prot.dwell.crit = some 0 := by
  unfold State.dwellTrue; decide +kernel

/-- R7: the warn-entry timer runs out beside the cut timer, and beside both the cut and the crit timer. -/
theorem witness_dwellCompleted :
    let s := timing .warnEntry 0 (timing .cut 0 (timing .crit 0 halted))
    s.dwellTrue 3300 false 2000000 .cut ∧ ¬s.dwellTrue 3300 false 2000000 .crit ∧ s.dwellTrue 2900 false 2000000 .crit ∧
      s.dwellRun 2000000 .cut ∧ s.dwellRun 2000000 .crit ∧ 0 + Dwell.length s.cfg .warnEntry * msec = 2000000 :=
  ⟨by unfold State.dwellTrue; decide +kernel, by unfold State.dwellTrue; decide +kernel,
    by unfold State.dwellTrue; decide +kernel, ⟨0, by decide +kernel⟩, ⟨0, by decide +kernel⟩, by decide +kernel⟩

theorem witness_rearm : (inProt .cutoff halted).dwellTrue 3450 false 0 .rearm :=
  ⟨by decide +kernel, by decide +kernel, by decide +kernel, by decide +kernel, fun h => absurd h (by decide +kernel)⟩

theorem witness_OverCurrentTrips : driving.lines.ocTrip = false ∧ driving.countedClosed = true ∧
    driving.prot.st = .normal ∧ (inProt .cutoff driving).prot.st = .cutoff ∧
      (inProt .cutoff driving).prot.cause ≠ some .hardTrip ∧ (switched .precharging halted).countedClosed = false ∧
      halted.countedClosed = false ∧ (after .ocTripAssert driving).lines.ocTrip = true := by decide +kernel

/-- R18: the rail at nine tenths exactly, and one millivolt below. -/
theorem witness_PrechargeExpires :
    let s := switched .precharging (halted.withProt { halted.prot with prechargeEnd := some 100 })
    s.prot.sw = .precharging ∧ s.prot.prechargeEnd = some 100 ∧
      (measured .railVoltage 9000 (measured .packVoltage 10000 s)).published .railVoltage = some 9000 ∧
      (10000 : Int) * 9 ≤ 9000 * 10 ∧ (8999 : Int) * 10 < 10000 * 9 ∧ s.published .railVoltage = none ∧
      s.rsc.run = .halted ∧ s.rsc.save = none ∧ (s.withLines { s.lines with ocTrip := true }).lines.ocTrip = true ∧
      (s.withProt { s.prot with st := .cutoff, cause := some .hardTrip, tripTime := some 0 }).prot.sw = .precharging ∧
      (s.withRsc { s.rsc with startInFlight := true }).prot.prechargeEnd = some 100 := by decide +kernel

/-- Chapter 2, the worked case: DRIVE above its floor of 1,000, LIGHTS short and at the floor of 300 it asks for. -/
theorem witness_budgetShared :
    let c := factorySettings.write 0 [0x30, 0xC8]
    let r := computeBudget c
      { vmin := some 3420, packBand := 1, limit := false, prot := .warn, closed := true
        demand := { servo := 1200, drive := 6000, winch := 6000, lights := 1800 } }
    c.floorOf .drive < r.grant.get .drive ∧ min (c.floorOf .lights) (min 1800 (c.ceilOf .lights)) = 300 ∧
      r.grant.get .lights = 300 ∧ r.leftover = 0 := by decide +kernel

theorem witness_BudgetPeriodShares : driving.rsc.run ≠ .benchDry ∧
    dry.rsc.run = .benchDry ∧
    (measured .packCurrent 25001 driving).published .packCurrent = some 25001 ∧
      (driving.cfg.ocCont : Int) < 25001 ∧ ¬(driving.cfg.ocCont : Int) < 25000 ∧
      (vminIs 3301 driving).pmon.vmin = some 3301 := by decide +kernel

/-- An applied duty above the cap of 0 that no grant gives, and one at it. -/
theorem witness_DriveStepDrives :
    (min 1000 (1000 * driving.grantFor .drive / driving.cfg.driveRated)) = 0 ∧ driving.drv.applied.natAbs = 0 ∧
      0 < (driving.withDrv { driving.drv with applied := -1 }).drv.applied.natAbs ∧ driving.wch.moving = false ∧
      Gear.ofValue 1 ≠ driving.drv.gear ∧ Gear.ofValue 0 = driving.drv.gear := by decide +kernel

/-- Chapter 6, the worked trim by the statement's own figures: an excess of 1, taken from L7. -/
theorem witness_trim :
    let c := factorySettings.write 144 [10, 10, 10, 10, 10, 10, 10, 10, 0]
    drawnBy c (PerLamp.build fun _ => 993) - 791 = 1 ∧
      cutToGrant c 791 (PerLamp.build fun _ => 993) = { PerLamp.build (fun _ => 993) with l7 := 980 } ∧
      cutToGrant (c.write 152 [0x80]) 791 (PerLamp.build fun _ => 993) =
        { PerLamp.build (fun _ => 993) with l6 := 980 } := by decide +kernel

theorem witness_LightFrameDrives : driving.cfg.lightsEn = true ∧ driving.rsc.run ≠ .halted ∧ driving.rsc.run ≠ .loading ∧
    driving.rsc.run ≠ .sleep ∧ halted.rsc.run = .halted ∧ 2 ≤ (sceneEntryOf 0x02 0 2).period := by decide +kernel

theorem witness_ServoFrameSteers : driving.countedClosed = true ∧ halted.countedClosed = false ∧ dry.countedClosed = true ∧
    Servo.all.all (fun v => decide (driving.cfg.servoMin v ≤ driving.cfg.servoMax v)) = true := by decide +kernel

theorem witness_SceneWrittenAndBenchDriven : (sceneEntryOf 0xC1 0xE8 5).level = 1000 ∧ (sceneEntryOf 0xC1 0xE8 5).mode = 1 ∧
    (sceneEntryOf 0xC1 0xE9 5).level = 1001 ∧ halted.cfg.bytes.length = 350 ∧ dry.rsc.run = .benchDry ∧
      Quantity.packTemp.code = (8 : Byte).toNat ∧ beInt [0xFF, 0xFF, 0xFF, 0xC9] = -55 ∧
      Quantity.packTemp.range.1 = -55 ∧ beInt [0, 0, 1, 0xF4] = 500 ∧ 10 < (11 : Byte).toNat := by decide +kernel

end Sys2Proof.Tests
end

section
/-! PROOFS. What the invariants of chapter 1 read of a state, its standing, and what each operation and each command
makes of it. -/

namespace Sys2Proof.Machine

/-- What the invariants of chapter 1 read of a state: the protection state with its cause and trip time (section 1.3), the
pack switch (R20), the run state and a start in flight (R156), the bench save (R166), the windows (R1). -/
structure Standing where
  st : ProtState
  cause : Option CutCause
  tripTime : Option Nat
  sw : SwitchState
  run : RunState
  inFlight : Bool
  save : Option BenchSave
  window : Quantity → List Int

/-- The standing of a state. -/
def State.standing (s : State) : Standing :=
  { st := s.prot.st, cause := s.prot.cause, tripTime := s.prot.tripTime, sw := s.prot.sw, run := s.rsc.run,
    inFlight := s.rsc.startInFlight, save := s.rsc.save, window := fun q => (s.pmon.chan.get q).window }

variable {s t u : State}

/-! ### Operations that leave the standing -/

theorem State.standing_eq (hp : t.prot = s.prot) (hr : t.rsc = s.rsc) (hm : t.pmon = s.pmon) :
    t.standing = s.standing := by
  simp [State.standing, hp, hr, hm]

section
variable (s)

@[simp] theorem State.withNow_standing (x : Nat) : (s.withNow x).standing = s.standing := rfl
@[simp] theorem State.withLines_standing (x : Lines) : (s.withLines x).standing = s.standing := rfl
@[simp] theorem State.withBgt_standing (x : Bgt) : (s.withBgt x).standing = s.standing := rfl
@[simp] theorem State.withGrt_standing (x : Grt) : (s.withGrt x).standing = s.standing := rfl
@[simp] theorem State.withDrv_standing (x : Drv) : (s.withDrv x).standing = s.standing := rfl
@[simp] theorem State.withStr_standing (x : Str) : (s.withStr x).standing = s.standing := rfl
@[simp] theorem State.withWch_standing (x : Wch) : (s.withWch x).standing = s.standing := rfl
@[simp] theorem State.withLgt_standing (x : Lgt) : (s.withLgt x).standing = s.standing := rfl
@[simp] theorem State.withDlr_standing (x : Dlr) : (s.withDlr x).standing = s.standing := rfl
@[simp] theorem State.withPnd_standing (x : Pnd) : (s.withPnd x).standing = s.standing := rfl
@[simp] theorem State.withAcp_standing (x : Acp) : (s.withAcp x).standing = s.standing := rfl
@[simp] theorem State.withPending_standing (x : List Instr) : (s.withPending x).standing = s.standing := rfl
@[simp] theorem State.reach_standing (x : Nat) : (s.reach x).standing = s.standing := rfl
@[simp] theorem State.settle_standing : s.settle.standing = s.standing := rfl
@[simp] theorem State.wakeSource_standing : s.wakeSource.standing = s.standing := rfl
@[simp] theorem State.raise_standing (e : FaultEntry) : (s.raise e).standing = s.standing := rfl
@[simp] theorem State.respond_standing (st : Status) (d : List Byte) : (s.respond st d).standing = s.standing := rfl
@[simp] theorem State.setWinchDuty_standing (d : Int) : (s.setWinchDuty d).standing = s.standing := rfl

@[simp] theorem State.endOrder_standing (i : Fin 4) (o : Order) (r : OrderResult) :
    (s.endOrder i o r).standing = s.standing := State.standing_eq (by simp) (by simp) (by simp)

@[simp] theorem State.endActive_standing (r : OrderResult) : (s.endActive r).standing = s.standing :=
  State.standing_eq (by simp) (by simp) (by simp)

@[simp] theorem State.preempt_standing : s.preempt.standing = s.standing := State.endActive_standing s _

@[simp] theorem State.commitGrants_standing (g : Grt) : (s.commitGrants g).standing = s.standing := by
  simp [State.standing]

@[simp] theorem State.winchWork_standing : s.winchWork.standing = s.standing :=
  State.standing_eq (by simp) (by simp) (by simp)

@[simp] theorem State.applySettings_standing (c : Settings) : (s.applySettings c).standing = s.standing := by
  unfold State.applySettings
  dsimp only
  split <;> simp [State.standing]

/-! ### The rules of the quiet commands -/

@[simp] theorem State.receiveFrame_standing (bytes : List Byte) : (s.receiveFrame bytes).standing = s.standing := by
  unfold State.receiveFrame State.handOn
  (repeat' split) <;> simp

@[simp] theorem State.linkByte_standing (b : Byte) : (s.linkByte b).standing = s.standing := by
  unfold State.linkByte
  (repeat' split) <;> simp

@[simp] theorem State.presentPendant_standing (p : Bool) : (s.presentPendant p).standing = s.standing := by
  unfold State.presentPendant
  (repeat' split) <;> simp

@[simp] theorem State.countForOrder_standing (d : WinchDir) : (s.countForOrder d).standing = s.standing := by
  unfold State.countForOrder
  dsimp only
  (repeat' split) <;> simp

@[simp] theorem State.limitAtPulse_standing (d : WinchDir) : (s.limitAtPulse d).standing = s.standing := by
  unfold State.limitAtPulse
  dsimp only
  (repeat' split) <;> simp

@[simp] theorem State.drumPulse_standing : s.drumPulse.standing = s.standing := by
  unfold State.drumPulse
  split <;> simp

@[simp] theorem State.endStore_standing (bytes : List Byte) : (s.endStore bytes).standing = s.standing := by
  unfold State.endStore
  dsimp only
  split <;> rfl

@[simp] theorem State.budgetCompute_standing : s.budgetCompute.standing = s.standing := rfl

theorem State.updateQ_standing (c : Settings) (i : Option Int) :
    (s.withProt (s.prot.updateQ c i)).standing = s.standing := by
  cases i <;> rfl

@[simp] theorem State.grantTo_standing (f : Fn) (r : FnRecord) (st : Status) :
    (s.grantTo f r st).standing = s.standing := by
  simp [State.grantTo]

@[simp] theorem State.refuseGrant_standing (f : Fn) (st : Status) : (s.refuseGrant f st).standing = s.standing := rfl

theorem State.grantRule_standing (ps : List Byte) (rule : Fn → State → State)
    (h : ∀ f (w : State), (rule f w).standing = w.standing) : (s.grantRule ps rule).standing = s.standing := by
  unfold State.grantRule
  (repeat' split) <;> simp [h]

theorem State.claim_standing (f : Fn) : (s.claim f).standing = s.standing := by
  unfold State.claim
  split <;> simp

theorem State.setValue_standing (f : Fn) (v : Int) (q : Nat) : (s.setValue f v q).standing = s.standing := by
  unfold State.setValue
  dsimp only
  (repeat' split) <;> simp

theorem State.claimSet_standing (f : Fn) (v : Int) : (s.claimSet f v).standing = s.standing := by
  unfold State.claimSet
  (repeat' split) <;> simp

theorem State.releaseFn_standing (f : Fn) : (s.releaseFn f).standing = s.standing := by
  unfold State.releaseFn
  split <;> simp

theorem State.refresh_standing : s.refresh.standing = s.standing := by
  unfold State.refresh
  split <;> simp

theorem State.winchCommandRule_standing (d : List Byte) (rule : State → State)
    (h : ∀ w : State, (rule w).standing = w.standing) : (s.winchCommandRule d rule).standing = s.standing := by
  unfold State.winchCommandRule
  split <;> simp [h]

theorem State.winchPost_standing (ps : List Byte) : (s.winchPost ps).standing = s.standing := by
  unfold State.winchPost
  dsimp only
  (repeat' split) <;> simp

theorem State.winchCancel_standing (ps : List Byte) : (s.winchCancel ps).standing = s.standing := by
  unfold State.winchCancel
  split <;> simp

theorem State.winchReap_standing : s.winchReap.standing = s.standing := by
  unfold State.winchReap
  split <;> simp

theorem State.winchResume_standing : s.winchResume.standing = s.standing := rfl

theorem State.winchZero_standing : s.winchZero.standing = s.standing := by
  unfold State.winchZero
  split <;> simp

theorem State.cfgRead_standing (ps : List Byte) : (s.cfgRead ps).standing = s.standing := by
  unfold State.cfgRead
  dsimp only
  split <;> simp

theorem State.editConfig_standing (c : Settings) : (s.editConfig c).standing = s.standing :=
  s.applySettings_standing c

theorem State.cfgWrite_standing (ps : List Byte) : (s.cfgWrite ps).standing = s.standing := by
  unfold State.cfgWrite
  dsimp only
  (repeat' split) <;> simp [State.editConfig_standing]

theorem State.cfgCheck_standing : s.cfgCheck.standing = s.standing := by
  unfold State.cfgCheck
  split <;> rfl

theorem State.cfgStore_standing : s.cfgStore.standing = s.standing := by
  unfold State.cfgStore
  (repeat' split) <;> rfl

theorem State.sceneWrite_standing (ps : List Byte) : (s.sceneWrite ps).standing = s.standing := by
  unfold State.sceneWrite
  split <;> rfl

theorem State.benchStall_standing : s.benchStall.standing = s.standing := by
  unfold State.benchStall
  split <;> simp

theorem State.readRule_standing (ps : List Byte) : (s.readRule ps).standing = s.standing := by
  unfold State.readRule
  split <;> simp

theorem State.faultAck_standing (ps : List Byte) : (s.faultAck ps).standing = s.standing := by
  unfold State.faultAck
  (repeat' split) <;> rfl

end

/-! ### The quiet commands -/

/-- The commands that leave the standing: all but the resets, the sample set, the injection of a measurement, the
completions and expiries of the protection and run-state timers, and the commands that change the run state or clear
LOCKOUT. -/
def quiet : Instr → Bool
  | .powerOnReset _ | .brownOutReset _ | .pinReset _ | .reset _ | .sampleSet _ | .benchInject _
  | .warnEntryComplete | .warnExitComplete | .cutTimerComplete | .critTimerComplete | .rearmTimerComplete
  | .ocTripAssert | .prechargeExpiry | .wakeTimerExpiry | .armingTimerExpiry | .idleSleepExpiry | .loadEnd
  | .lockoutClear _ | .halt _ | .sleep _ | .benchDry _ | .benchWet _ | .load _ | .start _ => false
  | _ => true

/-- An outcome leaves the standing of `s`. -/
def leavesStanding (s : State) (o : Host.Outcome State Fault Refusal) : Prop :=
  ∀ t, o = .next t → t.standing = s.standing

theorem leavesStanding_completed (h : u.standing = s.standing) : leavesStanding s (completed u) := by
  rintro _ ⟨⟩
  simpa using h

theorem leavesStanding_taken {ok ex : Bool} {al : State → List Byte} {owner : State → State}
    (h : ∀ w : State, (owner w).standing = w.standing) :
    leavesStanding s (completed (s.takeCommand ok ex al owner)) := by
  apply leavesStanding_completed
  unfold State.takeCommand
  dsimp only
  (repeat' split) <;> simp [h]

theorem quiet_leavesStanding (c : Instr) (hc : quiet c = true) (s : State) : leavesStanding s (exec c s) := by
  cases c
  all_goals try exact Bool.noConfusion hc
  case ocTripRelease | servoShort | driveStep | servoFrame | lightFrameBoundary | radioFrame | framingError | pendantEdge
      | linkByteReceived => exact leavesStanding_completed (by simp)
  case winchStep => exact leavesStanding_completed (by simp [State.restartWinchTimer])
  case budgetPeriod =>
    exact leavesStanding_completed ((State.updateQ_standing (s.reach s.bgt.nextPeriod) s.cfg _).trans (by simp))
  case orderTimeout | orderStarved | retryPauseEnd | currentCheckStall | drumCheckStall =>
    simp only [exec, execOrderTimeout, execOrderStarved, execRetryPauseEnd, execCurrentCheckStall, execDrumCheckStall]
    (repeat' split) <;> exact leavesStanding_completed (by simp)
  case drumPulse | benchDrumPulse =>
    simp only [exec, execDrumPulse, execBenchDrumPulse]
    split <;> exact leavesStanding_completed (by simp)
  case linkGapTimeout | replyTimerExpiry | replySent =>
    simp only [exec, execLinkGapTimeout, execReplyTimerExpiry, execReplySent]
    split <;> exact leavesStanding_completed (by simp)
  case dlFreshnessExpiry | apLeaseExpiry | pendantSettleExpiry =>
    simp only [exec, execDlFreshnessExpiry, execApLeaseExpiry, execPendantSettleExpiry]
    (repeat' split) <;> exact leavesStanding_completed (by simp)
  case storeEnd | acpUnknownWrite =>
    simp only [exec, execStoreEnd, execAcpUnknownWrite]
    split <;> exact leavesStanding_completed (by simp)
  case status | readCause | faultNext | attnMask | runctlNoFlag => exact leavesStanding_taken fun _ => rfl
  case read => exact leavesStanding_taken fun w => w.readRule_standing _
  case faultAck => exact leavesStanding_taken fun w => w.faultAck_standing _
  case cfgRead => exact leavesStanding_taken fun w => w.cfgRead_standing _
  case cfgWrite => exact leavesStanding_taken fun w => w.cfgWrite_standing _
  case cfgCheck => exact leavesStanding_taken State.cfgCheck_standing
  case cfgStore => exact leavesStanding_taken State.cfgStore_standing
  case claim => exact leavesStanding_taken fun w => w.grantRule_standing _ _ fun f v => v.claim_standing f
  case set => exact leavesStanding_taken fun w => w.grantRule_standing _ _ fun f v => v.setValue_standing f _ _
  case claimSet => exact leavesStanding_taken fun w => w.grantRule_standing _ _ fun f v => v.claimSet_standing f _
  case release => exact leavesStanding_taken fun w => w.grantRule_standing _ _ fun f v => v.releaseFn_standing f
  case refresh => exact leavesStanding_taken State.refresh_standing
  case winchPost => exact leavesStanding_taken fun w => w.winchCommandRule_standing _ _ fun v => v.winchPost_standing _
  case winchCancel => exact leavesStanding_taken fun w => w.winchCommandRule_standing _ _ fun v => v.winchCancel_standing _
  case winchReap => exact leavesStanding_taken fun w => w.winchCommandRule_standing _ _ State.winchReap_standing
  case winchResume => exact leavesStanding_taken fun w => w.winchCommandRule_standing _ _ State.winchResume_standing
  case winchZero => exact leavesStanding_taken fun w => w.winchCommandRule_standing _ _ State.winchZero_standing
  case sceneWrite => exact leavesStanding_taken fun w => w.sceneWrite_standing _
  case benchStall => exact leavesStanding_taken State.benchStall_standing

end Sys2Proof.Machine
end

section
/-! PROOFS. The operations that move the standing, one equation each, and the three conditions of chapter 1 they keep. -/

namespace Sys2Proof.Machine

/-! ### What the moving operations do to a standing -/

/-- The bench left, where a save says that it was entered (R171). -/
def Standing.left (a : Standing) (locked : Bool) : Standing :=
  match a.save with
  | none => a
  | some sv =>
    if locked then { a with save := none }
    else { a with st := sv.st, cause := sv.cause, tripTime := sv.tripTime, save := none }

/-- A HALT (R157). -/
def Standing.halted (a : Standing) (locked : Bool) : Standing :=
  { a.left locked with sw := .opened, run := .halted, inFlight := false }

/-- Entry to LOCKOUT (R12). -/
def Standing.lockedOut (a : Standing) : Standing :=
  let b : Standing := { a with st := .lockout, cause := none, tripTime := none }
  match a.run with
  | .benchDry => b
  | .benchWet => b.halted true
  | .arming => b.halted false
  | .running => b.halted false
  | _ => { b with sw := .opened, inFlight := a.inFlight && a.sw != .precharging }

/-- Entry to CUTOFF with a cause, at a time (R9, R10). -/
def Standing.cutOff (a : Standing) (cause : CutCause) (now : Nat) : Standing :=
  { a with st := .cutoff, cause := some cause, tripTime := if cause == .hardTrip then some now else none }

/-- A hard trip at a time (R10). -/
def Standing.tripped (a : Standing) (now : Nat) : Standing :=
  match a.st with
  | .normal => a.cutOff .hardTrip now
  | .warn => a.cutOff .hardTrip now
  | .cutoff => if a.cause == some .hardTrip then a.lockedOut else a.cutOff .hardTrip now
  | .lockout => a

/-- A precharge failed (R159, R162, R171). -/
def Standing.failed (a : Standing) : Standing :=
  if a.run == .benchWet then a.halted false else { a with inFlight := false }

section
variable (s : State)

@[simp] theorem State.openSwitch_standing : s.openSwitch.standing = { s.standing with sw := .opened } := by
  obtain ⟨hst, hcause, htrip, -⟩ := s.openSwitch_prot
  simp [State.standing, hst, hcause, htrip]

theorem State.restoreSave_standing (sv : BenchSave) (b : Bool) (h : s.rsc.save = some sv) :
    (s.restoreSave sv b).standing = s.standing.left b := by
  cases b <;> simp [State.standing, State.restoreSave, Prot.restored, Standing.left, h]

theorem State.leaveDry_standing (sv : BenchSave) : (s.leaveDry sv).standing = s.standing := by
  simp [State.standing, State.leaveDry, Channel.unsubstituted]

@[simp] theorem State.leaveBench_standing (b : Bool) : (s.leaveBench b).standing = s.standing.left b := by
  unfold State.leaveBench
  split
  next h => simp [Standing.left, State.standing, h]
  next sv h => split <;> simp [State.leaveDry_standing, State.restoreSave_standing, h]

@[simp] theorem State.haltWith_standing (b : Bool) : (s.haltWith b).standing = s.standing.halted b := by
  have h : (s.haltWith b).standing = { (s.leaveBench b).openSwitch.standing with run := .halted, inFlight := false } := by
    simp [State.haltWith, State.standing]
  simp [h, Standing.halted]

@[simp] theorem State.halt_standing : s.halt.standing = s.standing.halted false := s.haltWith_standing false

theorem State.enterSleep_standing (o : SleepOrigin) :
    (s.enterSleep o).standing = { s.standing with sw := .opened, run := .sleep, inFlight := false } := by
  have h : (s.enterSleep o).standing = { s.openSwitch.standing with run := .sleep, inFlight := false } := by
    simp [State.enterSleep, State.standing]
  simp [h]

@[simp] theorem State.prechargeFailed_standing : s.prechargeFailed.standing = s.standing.failed := by
  unfold State.prechargeFailed Standing.failed
  have h : s.standing.run = s.rsc.run := rfl
  rw [h]
  split
  · simp
  · rfl

@[simp] theorem State.enterCutoff_standing (c : CutCause) : (s.enterCutoff c).standing = s.standing.cutOff c s.now := by
  simp [State.standing, Standing.cutOff]

/-- Entry to LOCKOUT before the run-state controller is told of it (R12, R99, R113). -/
def State.lockoutBegun (s : State) : State :=
  (s.withProt { s.prot with st := .lockout, cause := none, tripTime := none, dwell := noDwell }).preempt.setWinchDuty 0

/-- Where no vehicle is under way, the switch opens or a precharge in flight is cancelled and told failed (R19). -/
def State.lockoutParked (s : State) : State :=
  s.openSwitch.withRsc
    { s.openSwitch.rsc with startInFlight := s.rsc.startInFlight && s.prot.sw != .precharging }

/-- What entry to LOCKOUT makes of the state then, by the run state (R156, R170, R171). -/
theorem State.enterLockout_eq :
    s.enterLockout =
      match s.rsc.run with
      | .benchDry =>
        (s.lockoutBegun.withBgt s.lockoutBegun.bgt.trialCleared).withDrv (s.lockoutBegun.drv.stopped false none)
      | .benchWet => s.lockoutBegun.haltWith true
      | .arming => s.lockoutBegun.halt
      | .running => s.lockoutBegun.halt
      | _ => s.lockoutBegun.lockoutParked := by
  have h : s.lockoutBegun.rsc.run = s.rsc.run := by simp [State.lockoutBegun]
  rw [← h]
  rfl

theorem State.lockoutBegun_standing :
    s.lockoutBegun.standing = { s.standing with st := .lockout, cause := none, tripTime := none } := by
  simp only [State.lockoutBegun, State.setWinchDuty_standing, State.preempt_standing]
  rfl

theorem State.lockoutParked_standing :
    s.lockoutParked.standing =
      { s.standing with sw := .opened, inFlight := s.standing.inFlight && s.standing.sw != .precharging } := by
  have h : s.lockoutParked.standing =
      { s.openSwitch.standing with inFlight := s.standing.inFlight && s.standing.sw != .precharging } := rfl
  rw [h, State.openSwitch_standing]

@[simp] theorem State.enterLockout_standing : s.enterLockout.standing = s.standing.lockedOut := by
  have hrun : s.standing.run = s.rsc.run := rfl
  rw [State.enterLockout_eq]
  unfold Standing.lockedOut
  cases hr : s.rsc.run <;> simp [hrun, hr, State.lockoutParked_standing, State.lockoutBegun_standing]

@[simp] theorem State.hardTrip_standing : s.hardTrip.standing = s.standing.tripped s.now := by
  unfold State.hardTrip Standing.tripped
  have h : s.standing.st = s.prot.st := rfl
  have hc : s.standing.cause = s.prot.cause := rfl
  rw [h, hc]
  cases hst : s.prot.st <;> simp only [State.enterCutoff_standing]
  split
  · simp
  · simp [State.standing, Standing.cutOff, hst]

end

end Sys2Proof.Machine
end

section
/-! PROOFS. The three conditions of O4 as conditions on a standing, and that every operation keeps them. -/

namespace Sys2Proof.Machine

/-- R20, R156 on a standing. -/
def Standing.switchOk (a : Standing) : Prop :=
  (a.st = .lockout → a.sw = .opened) ∧
  (a.sw = .closed → a.run = .arming ∨ a.run = .running ∨ a.run = .benchWet) ∧
  (a.sw = .precharging → (a.run = .halted ∧ a.inFlight = true) ∨ a.run = .benchWet)

/-- R1 on a standing. -/
def Standing.windowsOk (a : Standing) : Prop := ∀ q, (a.window q).length ≤ q.depth

/-- Section 1.3 on a standing. -/
def Standing.causeOk (a : Standing) : Prop :=
  causeFits a.st a.cause a.tripTime ∧ ∀ sv, a.save = some sv → causeFits sv.st sv.cause sv.tripTime

/-- From standing `a` to `b` each of the three conditions is kept. -/
def Standing.keeps (a b : Standing) : Prop :=
  (a.switchOk → b.switchOk) ∧ (a.windowsOk → b.windowsOk) ∧ (a.causeOk → b.causeOk)

namespace Standing

variable {a b c : Standing}

theorem keeps.rfl : a.keeps a := ⟨id, id, id⟩

theorem keeps.trans (hab : a.keeps b) (hbc : b.keeps c) : a.keeps c := by
  obtain ⟨hs, hw, hc⟩ := hab
  obtain ⟨hs', hw', hc'⟩ := hbc
  exact ⟨hs' ∘ hs, hw' ∘ hw, hc' ∘ hc⟩

theorem switchOk_of_opened (h : a.sw = .opened) : a.switchOk := by
  simp [switchOk, h]

/-- Out of the run states that hold the switch CLOSED or PRECHARGING it is OPEN. -/
theorem switchOk.sw_opened (h : a.switchOk)
    (hclosed : a.run ≠ .arming ∧ a.run ≠ .running ∧ a.run ≠ .benchWet) (hpre : a.run = .halted → a.inFlight = false) :
    a.sw = .opened := by
  obtain ⟨-, hc, hp⟩ := h
  cases hsw : a.sw with
  | opened => rfl
  | closed => simp_all
  | precharging => have := hp hsw; simp_all

theorem causeFits_none {st : ProtState} (h : st ≠ .cutoff) : causeFits st none none := by
  simp [causeFits, h]

/-- Between two states other than CUTOFF the cause and the trip time, both absent, go on fitting. -/
theorem causeFits_move {st st' : ProtState} {cause : Option CutCause} {trip : Option Nat} (h : causeFits st cause trip)
    (hst : st ≠ .cutoff) (hst' : st' ≠ .cutoff) : causeFits st' cause trip := by
  simp_all [causeFits]

/-- A step to a standing with the switch OPEN has the causes alone to account for. -/
theorem keeps_of_opened (hsw : b.sw = .opened) (hw : b.window = a.window) (hc : a.causeOk → b.causeOk) : a.keeps b :=
  ⟨fun _ => switchOk_of_opened hsw, fun h => by simpa [windowsOk, hw] using h, hc⟩

theorem left_window (locked : Bool) : (a.left locked).window = a.window := by
  unfold left
  (repeat' split) <;> rfl

/-- Leaving the bench brings back a cause that fitted when it was saved (R166, R171). -/
theorem causeOk.left (locked : Bool) (h : a.causeOk) : (a.left locked).causeOk := by
  obtain ⟨hfit, hsave⟩ := h
  unfold Standing.left
  cases hsv : a.save with
  | none => exact ⟨hfit, hsave⟩
  | some sv => cases locked <;> simp [causeOk, hfit, hsave sv hsv]

theorem causeOk.lockout (h : a.causeOk) : causeOk { a with st := .lockout, cause := none, tripTime := none } :=
  ⟨causeFits_none (by simp), h.2⟩

theorem keeps_halted (locked : Bool) : a.keeps (a.halted locked) :=
  keeps_of_opened rfl (left_window locked) (causeOk.left locked)

/-- An OPEN switch fits every run state and start in flight. -/
theorem keeps_opened (run : RunState) (inFlight : Bool) :
    a.keeps { a with sw := .opened, run := run, inFlight := inFlight } :=
  keeps_of_opened rfl rfl id

theorem keeps_cutOff (cause : CutCause) (now : Nat) : a.keeps (a.cutOff cause now) := by
  refine ⟨fun h => ⟨by simp [cutOff], h.2⟩, id, fun h => ⟨?_, h.2⟩⟩
  cases cause <;> simp [cutOff, causeFits]

/-- Entry to LOCKOUT: in BENCH-DRY the switch stands OPEN already, elsewhere it opens (R12, R170). -/
theorem keeps_lockedOut : a.keeps a.lockedOut := by
  unfold lockedOut
  dsimp only
  split
  next hrun => exact ⟨fun h => switchOk_of_opened (h.sw_opened (by simp [hrun]) (by simp [hrun])), id, causeOk.lockout⟩
  next => exact keeps_of_opened rfl (left_window true) fun h => h.lockout.left true
  next => exact keeps_of_opened rfl (left_window false) fun h => h.lockout.left false
  next => exact keeps_of_opened rfl (left_window false) fun h => h.lockout.left false
  next => exact keeps_of_opened rfl rfl causeOk.lockout

theorem keeps_tripped (now : Nat) : a.keeps (a.tripped now) := by
  unfold tripped
  cases a.st with
  | normal => exact keeps_cutOff _ _
  | warn => exact keeps_cutOff _ _
  | cutoff =>
    dsimp only
    split
    · exact keeps_lockedOut
    · exact keeps_cutOff _ _
  | lockout => exact keeps.rfl

/-- A failed precharge has the switch OPEN (R18, R19). -/
theorem keeps_failed (h : a.sw = .opened) : a.keeps a.failed := by
  unfold failed
  split
  · exact keeps_halted false
  · exact keeps_of_opened h rfl id

end Standing

section
variable (s : State)

/-! ### Precharge and start -/

theorem State.withSwitch_standing (sw : SwitchState) (due : Option Nat) :
    (s.withProt { s.prot with sw := sw, prechargeEnd := due }).standing = { s.standing with sw := sw } := rfl

theorem State.abortPrecharge_standing : s.abortPrecharge.standing = Standing.failed { s.standing with sw := .opened } := by
  simp [State.abortPrecharge, State.withSwitch_standing]

theorem State.failPrecharge_standing : s.failPrecharge.standing = Standing.failed { s.standing with sw := .opened } := by
  simp [State.failPrecharge, State.withSwitch_standing]

/-- A failed precharge opens the switch (R18, R19). -/
theorem Standing.keeps_aborted {a : Standing} : a.keeps (Standing.failed { a with sw := .opened }) :=
  (Standing.keeps_opened a.run a.inFlight).trans (Standing.keeps_failed rfl)

/-- A precharge is requested for a start in flight or for BENCH-WET (R17, R159, R166). -/
theorem State.requestPrecharge_keeps
    (h : (s.rsc.run = .halted ∧ s.rsc.startInFlight = true) ∨ s.rsc.run = .benchWet) :
    s.standing.keeps s.requestPrecharge.standing := by
  unfold State.requestPrecharge
  split
  next hsw =>
    split
    next => rw [State.prechargeFailed_standing]; exact Standing.keeps_failed (eq_of_beq hsw)
    next hst =>
      dsimp only
      split
      next => rw [State.abortPrecharge_standing]; exact Standing.keeps_aborted
      next =>
        rw [State.withSwitch_standing]
        exact ⟨fun hok => ⟨fun hl => absurd hl fun e => hst (beq_iff_eq.2 e), nofun, fun _ => h⟩, id, id⟩
  next => exact Standing.keeps.rfl

/-- A start made from HALTED (R159). -/
theorem State.makeStart_keeps (h : s.rsc.run = .halted) : s.standing.keeps s.makeStart.standing := by
  unfold State.makeStart
  refine Standing.keeps.trans ?_
    (State.requestPrecharge_keeps (s.withRsc { s.rsc with startInFlight := true }) (.inl ⟨h, rfl⟩))
  refine ⟨?_, id, id⟩
  rintro ⟨hl, hc, hp⟩
  exact ⟨hl, hc, fun hsw => (hp hsw).imp (fun hh => ⟨hh.1, rfl⟩) id⟩

/-- A run state entered from one that stands with the switch OPEN. -/
theorem Standing.keeps_run {a : Standing} (run : RunState) (hrun : a.switchOk → a.sw = .opened) :
    a.keeps { a with run := run } :=
  ⟨fun h => Standing.switchOk_of_opened (hrun h), id, id⟩

/-- The switch closes out of PRECHARGING, and a start in flight becomes ARMING (R18, R159). -/
theorem State.closeSwitch_keeps (h : s.prot.sw = .precharging) : s.standing.keeps s.closeSwitch.standing := by
  have hclosed : s.standing.keeps
      ((s.withProt { s.prot with sw := .closed, prechargeEnd := none }).prechargeSucceeded).standing := by
    refine ⟨?_, ?_, ?_⟩
    · rintro ⟨hl, -, hp⟩
      have hst : s.prot.st ≠ .lockout := fun e => by simpa [State.standing, h] using hl e
      unfold State.prechargeSucceeded
      split
      next => exact ⟨fun e => absurd e hst, fun _ => .inl rfl, nofun⟩
      next hflight =>
        have hwet : s.rsc.run = .benchWet := (hp h).resolve_left fun hh => hflight hh.2
        exact ⟨fun e => absurd e hst, fun _ => .inr (.inr hwet), nofun⟩
    · unfold State.prechargeSucceeded; split <;> exact id
    · unfold State.prechargeSucceeded; split <;> exact id
  unfold State.closeSwitch
  dsimp only
  split
  · rw [State.hardTrip_standing]
    exact hclosed.trans (Standing.keeps_tripped _)
  · exact hclosed

/-! ### The dwell timers -/

theorem State.enterWarn_standing :
    s.enterWarn.standing = { s.standing with st := .warn, cause := none, tripTime := none } := rfl

theorem State.enterNormal_standing : s.enterNormal.standing = { s.standing with st := .normal } := rfl

/-- The transitions of R7: the move to NORMAL is made from WARN, which has no cutoff cause. -/
theorem State.protTransition_keeps (done : Dwell → Bool) (tapSeen : Bool) (h : done .warnExit = true → s.prot.st = .warn) :
    s.standing.keeps (s.protTransition done tapSeen).standing := by
  unfold State.protTransition
  split
  · rw [State.enterLockout_standing]; exact Standing.keeps_lockedOut
  split
  · rw [State.enterCutoff_standing]; exact Standing.keeps_cutOff _ _
  split
  · rw [State.enterWarn_standing]
    exact ⟨fun hs => ⟨nofun, hs.2⟩, id, fun hc => ⟨Standing.causeFits_none (by simp), hc.2⟩⟩
  split
  next hexit =>
    rw [State.enterNormal_standing]
    have hst : s.standing.st = .warn := h hexit
    exact ⟨fun hs => ⟨nofun, hs.2⟩, id, fun hc => ⟨Standing.causeFits_move hc.1 (by simp [hst]) nofun, hc.2⟩⟩
  next => exact Standing.keeps.rfl

/-- A timer that has completed runs in the present state. -/
theorem State.runsIn_of_dwellDone (k : Dwell) (h : s.dwellDone k = true) : k.runsIn s.prot.st = true := by
  unfold State.dwellDone State.dwellStart at h
  split at h
  next hc => exact (Bool.and_eq_true_iff.1 hc).1
  next => exact nomatch h

theorem State.warn_of_warnExit (h : s.dwellDone .warnExit = true) : s.prot.st = .warn := by
  simpa [Dwell.runsIn] using s.runsIn_of_dwellDone .warnExit h

theorem State.completeDwell_keeps (k : Dwell) : s.standing.keeps (s.completeDwell k).standing := by
  unfold State.completeDwell
  split
  next start _ => exact State.protTransition_keeps (s.reach _) _ _ (State.warn_of_warnExit (s.reach _))
  next => exact Standing.keeps.rfl

/-! ### The sample set -/

theorem joinWindow_length {depth : Nat} (hd : 0 < depth) (w : List Int) (x : Int) (h : w.length ≤ depth) :
    (joinWindow depth w x).length ≤ depth := by
  unfold joinWindow
  split <;> simp <;> omega

theorem Quantity.depth_pos (q : Quantity) : 0 < q.depth := by cases q <;> decide

theorem Channel.windowAfter_length (c : Channel) {depth : Nat} (hd : 0 < depth) (x : Int) (h : c.window.length ≤ depth) :
    (c.windowAfter depth x).length ≤ depth := by
  unfold Channel.windowAfter
  split
  · exact h
  split
  · simp
  · exact joinWindow_length hd _ x h

/-- The pack monitor's part of a sample set reaches the channels by each channel's own sample alone (R1). -/
theorem State.monitorSample_chan (raw : PerQuantity Int) :
    (s.monitorSample raw).pmon.chan =
      PerQuantity.build fun q => (s.pmon.chan.get q).sampled q.depth (s.rsc.cal.sample q (raw.get q)) := by
  unfold State.monitorSample Pmon.deriveBands Pmon.deriveCells
  dsimp only
  split <;> rfl

theorem State.monitorSample_keeps (raw : PerQuantity Int) : s.standing.keeps (s.monitorSample raw).standing := by
  refine ⟨id, fun h q => ?_, id⟩
  have hw : (s.monitorSample raw).standing.window q =
      (s.pmon.chan.get q).windowAfter q.depth (s.rsc.cal.sample q (raw.get q)) := by
    simp [State.standing, State.monitorSample_chan, Channel.sampled]
  rw [hw]
  exact Channel.windowAfter_length _ q.depth_pos _ (h q)

theorem State.protSample_keeps (publishes tapSeen : Bool) :
    s.standing.keeps (s.protSample publishes tapSeen).standing := by
  unfold State.protSample
  split
  · refine Standing.keeps.trans (b := (s.withProt _).standing) ?_
      (State.protTransition_keeps _ s.dwellDone tapSeen s.warn_of_warnExit)
    exact Standing.keeps.rfl
  · exact State.protTransition_keeps s _ _ nofun

end

end Sys2Proof.Machine
end

section
/-! PROOFS. O4: every command keeps the switch, the windows and the causes. -/

namespace Sys2Proof.Machine

variable {s t u : State}

/-- An outcome keeps the three conditions of O4 from `s`. -/
def keepsStanding (s : State) (o : Host.Outcome State Fault Refusal) : Prop :=
  ∀ t, o = .next t → s.standing.keeps t.standing

theorem keepsStanding_completed (h : s.standing.keeps u.standing) : keepsStanding s (completed u) := by
  rintro _ ⟨⟩
  exact h

/-- What an accessory command does: a refusal by R147, or its own rule after the wake. -/
theorem State.takeCommand_cases (s : State) (ok ex : Bool) (al : State → List Byte) (owner : State → State) :
    (∃ st d, s.takeCommand ok ex al owner = s.wakeSource.respond st d) ∨
      (ok = true ∧ s.takeCommand ok ex al owner = owner s.wakeSource) := by
  unfold State.takeCommand
  dsimp only
  split
  · exact .inl ⟨_, _, rfl⟩
  next hok =>
    split
    · exact .inl ⟨_, _, rfl⟩
    · exact .inr ⟨by simpa using hok, rfl⟩

theorem keepsStanding_taken {ok ex : Bool} {al : State → List Byte} {owner : State → State}
    (h : s.wakeSource.standing.keeps (owner s.wakeSource).standing) :
    keepsStanding s (completed (s.takeCommand ok ex al owner)) := by
  apply keepsStanding_completed
  obtain ⟨st, d, e⟩ | ⟨-, e⟩ := s.takeCommand_cases ok ex al owner <;> rw [e]
  · exact Standing.keeps.rfl
  · exact h

section
variable (s)

/-! ### The resets -/

/-- A full reset leaves the switch OPEN, the windows empty and no cause (R14, R20). -/
theorem State.powerOn_keeps (now : Nat) (l : Lines) (store : StoreImage) (cal : Calibration) (causes : Causes)
    (pending : List Instr) {a : Standing} : a.keeps (State.powerOn now l store cal causes pending).standing :=
  ⟨fun _ => Standing.switchOk_of_opened rfl, fun _ q => by simp [State.standing, State.powerOn, Pmon.powerOn, Channel.empty],
    fun _ => ⟨Standing.causeFits_none nofun, nofun⟩⟩

/-- The standing after a soft reset (R14, R20, R171). -/
theorem State.softReset_standing (strap : Bool) :
    (s.softReset strap).standing =
      { st := if (s.standing.left false).st = .lockout then .lockout else .normal, cause := none, tripTime := none,
        sw := .opened, run := .halted, inFlight := false, save := none, window := s.standing.window } := by
  have hst : (s.leaveBench false).prot.st = (s.standing.left false).st := by rw [← s.leaveBench_standing]; rfl
  have hw : (s.leaveBench false).standing.window = s.standing.window := by
    rw [s.leaveBench_standing, Standing.left_window]
  rw [← hst, ← hw]
  simp [State.standing, State.softReset, Prot.softReset, Prot.powerOn, Rsc.softReset]

theorem State.softReset_keeps (strap : Bool) : s.standing.keeps (s.softReset strap).standing := by
  rw [State.softReset_standing]
  refine Standing.keeps_of_opened rfl rfl fun _ => ⟨Standing.causeFits_none ?_, nofun⟩
  split <;> exact nofun

/-! ### Injection, LOCKOUT_CLEAR, the bench -/

/-- A substitute fills its window to the depth and no further (R168). -/
theorem State.injectQuantity_keeps (q : Quantity) (v : Int) : s.standing.keeps (s.injectQuantity q v).standing := by
  refine ⟨id, fun h k => ?_, id⟩
  by_cases hk : k = q
  · subst hk
    simp [State.standing, State.injectQuantity, Channel.inject]
  · simpa [State.standing, State.injectQuantity, PerQuantity.get_set_other _ _ _ _ hk] using h k

theorem State.injected_keeps (code : Nat) (v : Int) (h : s.injected code v = some t) : s.standing.keeps t.standing := by
  unfold State.injected at h
  split at h <;> split at h <;> cases h
  · exact s.injectQuantity_keeps _ v
  · exact Standing.keeps.rfl

theorem State.benchInject_keeps (ps : List Byte) : s.standing.keeps (s.benchInject ps).standing := by
  unfold State.benchInject
  split
  · exact Standing.keeps.rfl
  split
  next u h => rw [State.respond_standing]; exact s.injected_keeps _ _ h
  next => exact Standing.keeps.rfl

/-- LOCKOUT_CLEAR is taken in HALTED and in LOCKOUT (R13). -/
theorem State.lockoutClearable_iff : s.lockoutClearable = true ↔
    s.rsc.run = .halted ∧ s.prot.st = .lockout ∧
      ∃ v, s.pmon.vmin = some v ∧ ((s.cfg.vCut + s.cfg.vRearm : Nat) : Int) ≤ v := by
  simp [State.lockoutClearable, Option.any_eq_true, and_assoc]

/-- LOCKOUT is cleared with no cause left to fit (R13). -/
theorem State.lockoutClear_keeps : s.standing.keeps s.lockoutClear.standing := by
  unfold State.lockoutClear
  split
  next h =>
    obtain ⟨-, hst, -⟩ := s.lockoutClearable_iff.1 h
    exact ⟨fun hs => ⟨nofun, hs.2⟩, id, fun hc => ⟨Standing.causeFits_move hc.1 (by simp [State.standing, hst]) nofun, hc.2⟩⟩
  next => exact Standing.keeps.rfl

/-- Where RUNCTL finds the part HALTED with no start in flight, the switch is OPEN (R156). -/
theorem State.haltedIdle_iff : s.haltedIdle = true ↔ s.rsc.run = .halted ∧ s.rsc.startInFlight = false := by
  simp [State.haltedIdle]

theorem State.opened_of_haltedIdle (h : s.haltedIdle = true) (hs : s.standing.switchOk) : s.standing.sw = .opened := by
  obtain ⟨hrun, hfl⟩ := s.haltedIdle_iff.1 h
  exact hs.sw_opened (by simp [State.standing, hrun]) fun _ => hfl

/-- A bench entered from HALTED saves a cause that fits (R166). -/
theorem State.enterBench_keeps (run : RunState) (h : s.haltedIdle = true) :
    s.standing.keeps (s.enterBench run).standing := by
  refine ⟨fun hs => Standing.switchOk_of_opened (s.opened_of_haltedIdle h hs), id, fun hc => ⟨hc.1, ?_⟩⟩
  rintro _ ⟨⟩
  exact hc.1

theorem State.benchDryRule_keeps : s.standing.keeps s.benchDryRule.standing := by
  unfold State.benchDryRule
  split
  next h =>
    change s.standing.keeps s.enterDry.standing
    unfold State.enterDry
    split
    · rw [State.hardTrip_standing]
      exact (s.enterBench_keeps _ h).trans (Standing.keeps_tripped _)
    · exact s.enterBench_keeps _ h
  next => exact Standing.keeps.rfl

theorem State.benchWetRule_keeps : s.standing.keeps s.benchWetRule.standing := by
  unfold State.benchWetRule
  split
  next => exact Standing.keeps.rfl
  next h =>
    have hidle : s.haltedIdle = true := by simpa using h
    split
    next => exact Standing.keeps.rfl
    split
    next => exact Standing.keeps.rfl
    next => exact (s.enterBench_keeps _ hidle).trans (State.requestPrecharge_keeps (s.enterBench _) (.inr rfl))

/-! ### Run control -/

@[simp] theorem State.runctl_standing (st : Status) : (s.runctl st).standing = s.standing := rfl

theorem State.haltAnswered_keeps (st : Status) : s.standing.keeps (s.halt.runctl st).standing := by
  rw [State.runctl_standing, State.halt_standing]
  exact Standing.keeps_halted false

theorem State.enterSleep_keeps (o : SleepOrigin) : s.standing.keeps (s.enterSleep o).standing := by
  rw [State.enterSleep_standing]
  exact Standing.keeps_opened _ _

theorem State.sleepRule_keeps : s.standing.keeps s.sleepRule.standing := by
  unfold State.sleepRule
  split <;> rw [State.runctl_standing]
  · exact s.enterSleep_keeps _
  · exact Standing.keeps.rfl
  · exact Standing.keeps.rfl

theorem State.loadRule_keeps (start : Bool) : s.standing.keeps (s.loadRule start).standing := by
  unfold State.loadRule
  split
  next h => exact Standing.keeps_run .loading (s.opened_of_haltedIdle h)
  next => exact Standing.keeps.rfl

theorem State.startRule_keeps : s.standing.keeps s.startRule.standing := by
  unfold State.startRule
  split
  next => exact Standing.keeps.rfl
  next hrun =>
    (repeat' split) <;> first | exact Standing.keeps.rfl | exact s.makeStart_keeps (by simpa using hrun)

/-- The end of a LOAD enters HALTED with the switch OPEN (R158). -/
theorem State.endLoad_keeps (c : Settings) (valid : Bool) (h : s.rsc.run = .loading) :
    s.standing.keeps (s.endLoad c valid).standing := by
  have he : (s.endLoad c valid).standing = { (s.applySettings c).standing with run := .halted } := rfl
  rw [he, State.applySettings_standing]
  exact Standing.keeps_run _ fun hs => hs.sw_opened (by simp [State.standing, h]) (by simp [State.standing, h])

theorem State.startAfterLoad_keeps (h : s.rsc.run = .halted) : s.standing.keeps s.startAfterLoad.standing := by
  unfold State.startAfterLoad
  split
  · exact Standing.keeps.rfl
  · exact s.makeStart_keeps h

theorem State.finishLoad_keeps (powerUp : Bool) (h : s.rsc.run = .loading) :
    s.standing.keeps (s.finishLoad powerUp).standing := by
  unfold State.finishLoad
  split
  next c _ =>
    have hend := s.endLoad_keeps c true h
    have hstart := hend.trans ((s.endLoad c true).startAfterLoad_keeps rfl)
    split_ifs <;> assumption
  next =>
    rw [State.raise_standing]
    exact s.endLoad_keeps _ _ h

theorem State.endWake_keeps (h : s.rsc.run = .sleep) : s.standing.keeps s.endWake.standing := by
  unfold State.endWake
  have hhalt : s.standing.keeps
      (s.withRsc { s.rsc with run := .halted, wakeEnd := none, sleepOrigin := none }).standing :=
    Standing.keeps_run .halted fun hs => hs.sw_opened (by simp [State.standing, h]) (by simp [State.standing, h])
  dsimp only
  split
  · exact hhalt.trans (State.makeStart_keeps (s.withRsc _) rfl)
  · exact hhalt

/-- ARMING becomes RUNNING, which the switch may be CLOSED in too (R160). -/
theorem State.enterRunning_keeps (h : s.rsc.run = .arming) : s.standing.keeps s.enterRunning.standing := by
  refine ⟨?_, id, id⟩
  rintro ⟨hl, hc, hp⟩
  refine ⟨hl, fun _ => .inr (.inl rfl), fun hsw => ?_⟩
  have := hp hsw
  simp [State.standing, h] at this

end

/-! ### Every command -/

theorem exec_keepsStanding (c : Instr) (s : State) : keepsStanding s (exec c s) := by
  by_cases hc : quiet c = true
  · intro t h
    rw [quiet_leavesStanding c hc s t h]
    exact Standing.keeps.rfl
  cases c
  all_goals try exact absurd rfl hc
  case powerOnReset | brownOutReset | pinReset => exact keepsStanding_completed (State.powerOn_keeps ..)
  case reset => exact keepsStanding_taken (State.softReset_keeps _ _)
  case sampleSet raw =>
    exact keepsStanding_completed
      ((State.monitorSample_keeps (s.reach _) raw).trans (State.protSample_keeps _ _ _))
  case warnEntryComplete | warnExitComplete | cutTimerComplete | critTimerComplete | rearmTimerComplete =>
    exact keepsStanding_completed (s.completeDwell_keeps _)
  case ocTripAssert =>
    simp only [exec, execOcTripAssert]
    split
    next => exact keepsStanding_completed Standing.keeps.rfl
    next =>
      split
      next => exact keepsStanding_completed (by rw [State.hardTrip_standing]; exact Standing.keeps_tripped _)
      split
      next => exact keepsStanding_completed (by rw [State.abortPrecharge_standing]; exact Standing.keeps_aborted)
      next => exact keepsStanding_completed Standing.keeps.rfl
  case prechargeExpiry =>
    simp only [exec, execPrechargeExpiry]
    split
    next hsw =>
      split
      next => exact keepsStanding_completed (State.closeSwitch_keeps (s.reach _) hsw)
      next => exact keepsStanding_completed (by rw [State.failPrecharge_standing]; exact Standing.keeps_aborted)
    next => exact keepsStanding_completed Standing.keeps.rfl
  case lockoutClear => exact keepsStanding_taken (State.lockoutClear_keeps _)
  case benchInject => exact keepsStanding_taken (State.benchInject_keeps _ _)
  case halt => exact keepsStanding_taken (State.haltAnswered_keeps _ .ok)
  case sleep => exact keepsStanding_taken (State.sleepRule_keeps _)
  case benchDry => exact keepsStanding_taken (State.benchDryRule_keeps _)
  case benchWet => exact keepsStanding_taken (State.benchWetRule_keeps _)
  case load => exact keepsStanding_taken (State.loadRule_keeps _ _)
  case start => exact keepsStanding_taken (State.startRule_keeps _)
  case loadEnd =>
    simp only [exec, execLoadEnd]
    split
    next l _ =>
      split
      next h => exact keepsStanding_completed (State.finishLoad_keeps (s.reach _) _ (eq_of_beq h))
      next => exact keepsStanding_completed Standing.keeps.rfl
    next => exact keepsStanding_completed Standing.keeps.rfl
  case wakeTimerExpiry =>
    simp only [exec, execWakeTimerExpiry]
    split
    next =>
      split
      next h => exact keepsStanding_completed (State.endWake_keeps (s.reach _) (eq_of_beq h))
      next => exact keepsStanding_completed Standing.keeps.rfl
    next => exact keepsStanding_completed Standing.keeps.rfl
  case armingTimerExpiry =>
    simp only [exec, execArmingTimerExpiry]
    split
    next =>
      split
      next h => exact keepsStanding_completed (State.enterRunning_keeps (s.reach _) (eq_of_beq h))
      next => exact keepsStanding_completed Standing.keeps.rfl
    next => exact keepsStanding_completed Standing.keeps.rfl
  case idleSleepExpiry =>
    simp only [exec, execIdleSleepExpiry]
    split
    next =>
      split
      next => exact keepsStanding_completed (State.enterSleep_keeps (s.reach _) _)
      next => exact keepsStanding_completed Standing.keeps.rfl
    next => exact keepsStanding_completed Standing.keeps.rfl

/-- A step runs the front command on the state with the rest of its queue, or ticks the clock (log 1). -/
theorem step_next (h : step s = .next t) : t = s.tick ∨ ∃ c rest, exec c (s.withPending rest) = .next t := by
  unfold step at h
  split at h
  · cases h; exact .inl rfl
  · exact .inr ⟨_, _, h⟩

/-- Settles O4: every operation keeps the three conditions, read off the standing it moves. -/
theorem switchFollowsRunState : Obligations.SwitchFollowsRunState := by
  intro s t h
  obtain rfl | ⟨c, rest, h⟩ := step_next h
  · exact Standing.keeps.rfl (a := s.standing)
  · exact exec_keepsStanding c (s.withPending rest) t h

end Sys2Proof.Machine
end

section
/-! PROOFS. O14: off the bench a command leaves LOCKOUT only by a full reset or by LOCKOUT_CLEAR. -/

namespace Sys2Proof.Machine

/-- In LOCKOUT, off the bench. -/
def Standing.locked (a : Standing) : Prop := a.save = none ∧ a.st = .lockout

namespace Standing

variable {a : Standing}

theorem locked.left (h : a.locked) (b : Bool) : a.left b = a := by
  simp [Standing.left, h.1]

theorem locked.halted (h : a.locked) (b : Bool) : (a.halted b).locked := by
  simpa [Standing.halted, h.left b, locked] using h

theorem locked.tripped (h : a.locked) (now : Nat) : a.tripped now = a := by
  simp [Standing.tripped, h.2]

/-- A precharge that fails leaves LOCKOUT (R18, R19). -/
theorem locked.aborted (h : a.locked) : (Standing.failed { a with sw := .opened }).locked := by
  have h' : Standing.locked { a with sw := .opened } := h
  unfold Standing.failed
  split
  · exact h'.halted false
  · exact h'

theorem locked.failed (h : a.locked) : a.failed.locked := by
  unfold Standing.failed
  split
  · exact h.halted false
  · exact h

end Standing

variable {s t u : State}

section
variable (s)

/-- In LOCKOUT no dwell timer runs (R7). -/
theorem State.dwellStart_locked (h : s.prot.st = .lockout) (k : Dwell) : s.dwellStart k = none := by
  cases k <;> simp [State.dwellStart, Dwell.runsIn, h]

theorem State.dwellDone_locked (h : s.prot.st = .lockout) (k : Dwell) : s.dwellDone k = false := by
  simp [State.dwellDone, s.dwellStart_locked h k]

/-- No timer and no TAP fault moves LOCKOUT (R12). -/
theorem State.protTransition_locked {done : Dwell → Bool} (tapSeen : Bool) (h : s.prot.st = .lockout)
    (hdone : ∀ k, done k = false) : s.protTransition done tapSeen = s := by
  simp [State.protTransition, hdone, h]

theorem State.protSample_locked (publishes tapSeen : Bool) (h : s.prot.st = .lockout) :
    (s.protSample publishes tapSeen).standing = s.standing := by
  unfold State.protSample
  split
  · dsimp only
    rw [State.protTransition_locked]
    · rfl
    · exact h
    · exact s.dwellDone_locked h
  · rw [s.protTransition_locked tapSeen h fun _ => rfl]

theorem State.completeDwell_locked (h : s.prot.st = .lockout) (k : Dwell) : s.completeDwell k = s :=
  s.completeDwell_none k (s.dwellStart_locked h k)

/-- In LOCKOUT a hard trip has no effect (R10). -/
theorem State.hardTrip_locked (h : s.prot.st = .lockout) : s.hardTrip = s := by
  simp [State.hardTrip, h]

theorem State.requestPrecharge_locked (h : s.standing.locked) : s.requestPrecharge.standing.locked := by
  have hst : s.prot.st = .lockout := h.2
  unfold State.requestPrecharge
  split
  · simp only [hst, beq_self_eq_true, if_true, State.prechargeFailed_standing]
    exact h.failed
  · exact h

theorem State.makeStart_locked (h : s.standing.locked) : s.makeStart.standing.locked :=
  State.requestPrecharge_locked _ h

theorem State.closeSwitch_locked (h : s.standing.locked) : s.closeSwitch.standing.locked := by
  have hclosed : ((s.withProt { s.prot with sw := .closed, prechargeEnd := none }).prechargeSucceeded).standing.locked := by
    unfold State.prechargeSucceeded
    split <;> exact h
  unfold State.closeSwitch
  dsimp only
  split
  · rw [State.hardTrip_locked _ hclosed.2]
    exact hclosed
  · exact hclosed

theorem State.benchDryRule_locked (h : s.standing.locked) : s.benchDryRule.standing.st = .lockout := by
  have hst : (s.enterBench .benchDry).prot.st = .lockout := h.2
  unfold State.benchDryRule State.enterDry
  split
  · rw [State.runctl_standing]
    rw [State.hardTrip_locked _ hst, ite_self]
    exact hst
  · exact h.2

theorem State.benchWetRule_locked (h : s.standing.locked) : s.benchWetRule.standing.locked := by
  have hst : s.prot.st = .lockout := h.2
  unfold State.benchWetRule
  simp only [hst, beq_self_eq_true, if_true]
  split <;> exact h

theorem State.startRule_locked (h : s.standing.locked) : s.startRule.standing.locked := by
  have hst : s.prot.st = .lockout := h.2
  unfold State.startRule
  simp only [hst, beq_self_eq_true, if_true]
  (repeat' split) <;> exact h

theorem State.sleepRule_locked (h : s.standing.locked) : s.sleepRule.standing.locked := by
  unfold State.sleepRule
  split <;> rw [State.runctl_standing]
  · rw [State.enterSleep_standing]; exact h
  · exact h
  · exact h

theorem State.loadRule_locked (start : Bool) (h : s.standing.locked) : (s.loadRule start).standing.locked := by
  unfold State.loadRule
  split <;> exact h

theorem State.endLoad_locked (c : Settings) (valid : Bool) (h : s.standing.locked) :
    (s.endLoad c valid).standing.locked := by
  have he : (s.endLoad c valid).standing = { (s.applySettings c).standing with run := .halted } := rfl
  rw [he, State.applySettings_standing]
  exact h

theorem State.finishLoad_locked (powerUp : Bool) (h : s.standing.locked) : (s.finishLoad powerUp).standing.locked := by
  unfold State.finishLoad
  split
  next c _ =>
    have hend := s.endLoad_locked c true h
    have hstart : (s.endLoad c true).startAfterLoad.standing.locked := by
      unfold State.startAfterLoad
      split
      · exact hend
      · exact State.makeStart_locked _ hend
    split_ifs <;> assumption
  next =>
    rw [State.raise_standing]
    exact s.endLoad_locked _ _ h

theorem State.endWake_locked (h : s.standing.locked) : s.endWake.standing.locked := by
  unfold State.endWake
  dsimp only
  split
  · exact State.makeStart_locked (s.withRsc _) h
  · exact h

theorem State.softReset_locked (strap : Bool) (h : s.standing.locked) : (s.softReset strap).standing.locked := by
  rw [State.softReset_standing, h.left]
  simp [Standing.locked, h.2]

theorem State.injected_st (code : Nat) (v : Int) (h : s.injected code v = some t) : t.standing.st = s.standing.st := by
  unfold State.injected at h
  (repeat' split at h) <;> cases h <;> rfl

theorem State.benchInject_st (ps : List Byte) : (s.benchInject ps).standing.st = s.standing.st := by
  unfold State.benchInject
  split
  · rfl
  split <;> rw [State.respond_standing]
  next h => exact s.injected_st _ _ h

end

/-- An outcome stays in LOCKOUT. -/
def staysLocked (o : Host.Outcome State Fault Refusal) : Prop := ∀ t, o = .next t → t.standing.st = .lockout

theorem staysLocked_completed (h : u.standing.st = .lockout) : staysLocked (completed u) := by
  rintro _ ⟨⟩
  exact h

theorem staysLocked_taken {ok ex : Bool} {al : State → List Byte} {owner : State → State} (hs : s.standing.locked)
    (h : ok = true → (owner s.wakeSource).standing.st = .lockout) :
    staysLocked (completed (s.takeCommand ok ex al owner)) := by
  apply staysLocked_completed
  obtain ⟨st, d, e⟩ | ⟨hok, e⟩ := s.takeCommand_cases ok ex al owner <;> rw [e]
  · exact hs.2
  · exact h hok

/-- Off the bench every command but a full reset and LOCKOUT_CLEAR stays in LOCKOUT (R12). -/
theorem exec_staysLocked (c : Instr) (hs : s.standing.locked)
    (hreset : ¬∃ b, c = .powerOnReset b ∨ c = .brownOutReset b ∨ c = .pinReset b) (hclear : c ≠ .lockoutClear []) :
    staysLocked (exec c s) := by
  by_cases hc : quiet c = true
  · intro t h
    rw [quiet_leavesStanding c hc s t h]
    exact hs.2
  have hw : s.wakeSource.standing.locked := hs
  have hst : s.prot.st = .lockout := hs.2
  cases c
  all_goals try exact absurd rfl hc
  case powerOnReset b => exact absurd ⟨b, .inl rfl⟩ hreset
  case brownOutReset b => exact absurd ⟨b, .inr (.inl rfl)⟩ hreset
  case pinReset b => exact absurd ⟨b, .inr (.inr rfl)⟩ hreset
  case lockoutClear ps =>
    exact staysLocked_taken hs fun hok => absurd (congrArg Instr.lockoutClear (by simpa using hok)) hclear
  case reset => exact staysLocked_taken hs fun _ => (State.softReset_locked _ _ hw).2
  case sampleSet raw =>
    exact staysLocked_completed (by
      rw [State.protSample_locked ((s.reach s.pmon.nextSample).monitorSample raw) _ _ hst]; exact hst)
  case warnEntryComplete | warnExitComplete | cutTimerComplete | critTimerComplete | rearmTimerComplete =>
    exact staysLocked_completed ((s.completeDwell_locked hst _).symm ▸ hst)
  case ocTripAssert =>
    simp only [exec, execOcTripAssert]
    split
    next => exact staysLocked_completed hst
    next =>
      split
      next =>
        refine staysLocked_completed ?_
        rw [State.hardTrip_locked]
        · exact hst
        · exact hst
      split
      next => exact staysLocked_completed (by rw [State.abortPrecharge_standing]; exact hs.aborted.2)
      next => exact staysLocked_completed hst
  case prechargeExpiry =>
    simp only [exec, execPrechargeExpiry]
    split
    next =>
      split
      next => exact staysLocked_completed (State.closeSwitch_locked (s.reach _) hs).2
      next => exact staysLocked_completed (by rw [State.failPrecharge_standing]; exact hs.aborted.2)
    next => exact staysLocked_completed hst
  case benchInject => exact staysLocked_taken hs fun _ => (State.benchInject_st _ _).trans hst
  case halt =>
    refine staysLocked_taken hs fun _ => ?_
    rw [State.runctl_standing, State.halt_standing]
    exact (hw.halted false).2
  case sleep => exact staysLocked_taken hs fun _ => (State.sleepRule_locked _ hw).2
  case benchDry => exact staysLocked_taken hs fun _ => State.benchDryRule_locked _ hw
  case benchWet => exact staysLocked_taken hs fun _ => (State.benchWetRule_locked _ hw).2
  case load => exact staysLocked_taken hs fun _ => (State.loadRule_locked _ _ hw).2
  case start => exact staysLocked_taken hs fun _ => (State.startRule_locked _ hw).2
  case loadEnd =>
    simp only [exec, execLoadEnd]
    split
    next l _ =>
      split
      next => exact staysLocked_completed (State.finishLoad_locked (s.reach _) _ hs).2
      next => exact staysLocked_completed hst
    next => exact staysLocked_completed hst
  case wakeTimerExpiry =>
    simp only [exec, execWakeTimerExpiry]
    split
    next =>
      split
      next => exact staysLocked_completed (State.endWake_locked (s.reach _) hs).2
      next => exact staysLocked_completed hst
    next => exact staysLocked_completed hst
  case armingTimerExpiry =>
    simp only [exec, execArmingTimerExpiry]
    (repeat' split) <;> exact staysLocked_completed hst
  case idleSleepExpiry =>
    simp only [exec, execIdleSleepExpiry]
    split
    next =>
      split
      next => exact staysLocked_completed (by rw [State.enterSleep_standing]; exact hst)
      next => exact staysLocked_completed hst
    next => exact staysLocked_completed hst

/-- LOCKOUT_CLEAR gives NORMAL or leaves LOCKOUT (R13). -/
theorem State.lockoutClear_st (s : State) : s.lockoutClear.prot.st = .normal ∨ s.lockoutClear.prot = s.prot := by
  unfold State.lockoutClear
  split
  · exact .inl rfl
  · exact .inr rfl

theorem State.lockoutClear_taken_st (s : State) (ok : Bool) :
    (s.takeCommand ok false noData State.lockoutClear).prot.st = .normal ∨
      (s.takeCommand ok false noData State.lockoutClear).prot.st = s.prot.st := by
  obtain ⟨_, _, e⟩ | ⟨-, e⟩ := s.takeCommand_cases ok false noData State.lockoutClear <;> rw [e]
  · exact .inr rfl
  · exact s.wakeSource.lockoutClear_st.imp id (congrArg Prot.st)

/-- Settles O14: the full resets give NORMAL, LOCKOUT_CLEAR gives NORMAL, and every other command stays. -/
theorem lockoutLeftOnlyByClear : Obligations.LockoutLeftOnlyByClear := by
  intro c s t hsave hst h hleft
  by_cases hreset : ∃ b, c = .powerOnReset b ∨ c = .brownOutReset b ∨ c = .pinReset b
  · refine ⟨?_, .inl hreset⟩
    obtain ⟨b, rfl | rfl | rfl⟩ := hreset <;> cases h <;> rfl
  by_cases hclear : c = .lockoutClear []
  · subst hclear
    cases h
    exact ⟨(s.lockoutClear_taken_st true).resolve_right fun e => hleft (e.trans hst), .inr rfl⟩
  exact absurd (exec_staysLocked c ⟨hsave, hst⟩ hreset hclear t h) hleft

end Sys2Proof.Machine
end

section
/-! PROOFS. O21 and O3: LOCKOUT_CLEAR is judged by its three conditions, and a full reset is safe. -/

namespace Sys2Proof.Machine

/-- A wake moves nothing that LOCKOUT_CLEAR is judged by (R13, R162). -/
theorem State.lockoutClearable_wakeSource (s : State) : s.wakeSource.lockoutClearable = s.lockoutClearable := rfl

/-- Settles O21, by the conditions LOCKOUT_CLEAR is judged by once it reaches its rule. -/
theorem lockoutClearJudged : Obligations.LockoutClearJudged := by
  intro s hopen
  have hexec : exec (.lockoutClear []) s = completed s.wakeSource.lockoutClear := by
    simp only [exec, execLockoutClear]
    exact congrArg completed (s.takeCommand_taken false noData _ (.inl hopen))
  rw [hexec, ← State.lockoutClearable_iff, ← State.lockoutClearable_wakeSource]
  unfold State.lockoutClear
  constructor
  · intro h
    rw [if_pos h]
    refine ⟨_, rfl, rfl, answersWith_respond ?_ rfl rfl rfl⟩
    intro b
    cases b <;> simp [State.agree]
  · intro h
    rw [if_neg h]
    exact ⟨_, rfl, answersWith_wake⟩

/-! ### The machine at the end of a full reset -/

theorem factorySettings_length : factorySettings.bytes.length = 350 := by decide +kernel

section
variable (now : Nat) (lines : Lines) (store : StoreImage) (cal : Calibration) (causes : Causes) (pending : List Instr)

/-- No slot is ACTIVE after a full reset (R118). -/
theorem Wch.not_activeAt_powerOn (i : Fin 4) : ¬(Wch.powerOn now).activeAt i := by
  rintro ⟨o, ho, -⟩
  simp [Wch.powerOn] at ho

theorem State.powerOn_outputsOk : (State.powerOn now lines store cal causes pending).outputsOk :=
  ⟨fun h => absurd rfl h, fun h => absurd rfl h, fun h => absurd rfl h, fun v h => absurd (by cases v <;> rfl) h,
    fun l h => absurd (by cases l <;> rfl) h⟩

theorem State.powerOn_queueOk : (State.powerOn now lines store cal causes pending).queueOk := by
  have hactive : ∀ i, ¬(State.powerOn now lines store cal causes pending).wch.activeAt i := Wch.not_activeAt_powerOn now
  refine ⟨List.nodup_nil, fun i => ?_, fun before i after _ h => absurd h (hactive i), fun i j h => absurd h (hactive i),
    fun i h => absurd h (hactive i)⟩
  simp [State.powerOn, Wch.powerOn]

theorem State.powerOn_holder (f : Fn) : (State.powerOn now lines store cal causes pending).holderOf f = .fs := by
  simp [State.holderOf, State.powerOn, Grt.powerOn, FnRecord.failsafe]

/-- No fault is active after a full reset (R14). -/
theorem State.powerOn_faultActive (e : FaultEntry) :
    (State.powerOn now lines store cal causes pending).faultActive e = false := by cases e <;> rfl

/-- The machine at the end of a full reset meets every condition of Safety.lean. -/
theorem State.powerOn_safe : (State.powerOn now lines store cal causes pending).safe := by
  have hlast : ∀ f, (State.powerOn now lines store cal causes pending).grt.lastDecoded.get f = none :=
    fun f => by simp [State.powerOn, Grt.powerOn]
  refine ⟨⟨nofun, nofun, nofun⟩, State.powerOn_outputsOk .., ?duties, ⟨rfl, nofun⟩, ?budget, ?lights,
    factorySettings_length, ⟨?radio, fun f _ => hlast f⟩, ?holders, State.powerOn_queueOk .., ?windows,
    ⟨Standing.causeFits_none nofun, nofun⟩, ?faults⟩
  case duties => exact ⟨le_rfl, le_rfl, le_rfl, .inl rfl, le_rfl, rfl⟩
  case budget => exact ⟨le_rfl, nofun, fun _ => rfl⟩
  case lights => exact le_rfl
  case radio => intro f v _ _ h; rw [hlast f] at h; exact nomatch h
  case holders => intro f; rw [State.powerOn_holder]; cases f <;> rfl
  case windows => intro q; simp [State.powerOn, Pmon.powerOn, Channel.empty]
  case faults => intro e h; rw [State.powerOn_faultActive] at h; exact nomatch h

end

/-- Settles O3: State.reset and every full reset are states at the end of a full reset. -/
theorem resetStateIsSafe : Obligations.ResetStateIsSafe :=
  ⟨State.powerOn_safe .., fun _ _ _ => State.powerOn_safe ..⟩

end Sys2Proof.Machine
end

section
/-! PROOFS. The fault word, leaving the bench, and O30: the values after the resets. -/

namespace Sys2Proof.Machine

/-! ### Latched flags (R151) -/

theorem faultBit_getLsbD (d e : FaultEntry) : (faultBit d).getLsbD e.code = (d == e) := by
  cases d <;> cases e <;> rfl

theorem foldl_faultBits_getLsbD (p : FaultEntry → Bool) (e : FaultEntry) (l : List FaultEntry) (w : BitVec 16) :
    (l.foldl (fun w d => if p d then w ||| faultBit d else w) w).getLsbD e.code =
      (w.getLsbD e.code || (decide (e ∈ l) && p e)) := by
  induction l generalizing w with
  | nil => simp
  | cons d l ih =>
    rw [List.foldl_cons, ih]
    by_cases hde : d = e
    · subst hde
      cases p d <;> simp [faultBit_getLsbD]
    · have hbit : (faultBit d).getLsbD e.code = false := by simp [faultBit_getLsbD, hde]
      cases h : p d <;> simp [hbit, Ne.symm hde]

/-- A fault word holds the flag of each entry at the entry's bit. -/
@[simp] theorem faultWord_getLsbD (p : FaultEntry → Bool) (e : FaultEntry) : (faultWord p).getLsbD e.code = p e := by
  unfold faultWord
  rw [foldl_faultBits_getLsbD]
  simp

theorem faultWord_false : faultWord (fun _ => false) = 0#16 := rfl

/-- After `settle` a fault is latched where it was or where it is active (R151). -/
@[simp] theorem State.settle_faultLatched (s : State) (e : FaultEntry) :
    s.settle.faultLatched e = (s.faultLatched e || s.faultActive e) := by
  simp [State.faultLatched, State.settle_acp]

@[simp] theorem State.raise_faultLatched (s : State) (d e : FaultEntry) :
    (s.raise d).faultLatched e = (s.faultLatched e || d == e) := by
  simp [State.faultLatched, State.raise_acp, faultBit_getLsbD]

/-! ### Leaving the bench (R171) -/

section
variable (s : State)

/-- RSC after the bench is left: the save alone is gone. -/
@[simp] theorem State.leaveBench_rsc (b : Bool) : (s.leaveBench b).rsc = { s.rsc with save := none } := by
  unfold State.leaveBench
  split
  next h => simp [← h]
  next => split <;> rfl

@[simp] theorem State.leaveBench_cfg (b : Bool) : (s.leaveBench b).cfg = s.cfg := by simp [State.cfg]

/-- PROT after the bench is left. -/
theorem State.leaveBench_prot (b : Bool) :
    (s.leaveBench b).prot = s.rsc.save.elim s.prot (s.prot.restored · b) := by
  unfold State.leaveBench
  split
  next h => simp [h]
  next sv h => split <;> simp [h] <;> rfl

/-- PMON after the bench is left: the saved bands, and from BENCH-DRY the end of every substitute. -/
theorem State.leaveBench_pmon (b : Bool) :
    (s.leaveBench b).pmon =
      { s.pmon with
        packBand := s.rsc.save.elim s.pmon.packBand BenchSave.packBand
        motorBand := s.rsc.save.elim s.pmon.motorBand BenchSave.motorBand
        chan :=
          if s.rsc.run = .benchDry ∧ s.rsc.save ≠ none then
            PerQuantity.build fun q => (s.pmon.chan.get q).unsubstituted
          else s.pmon.chan } := by
  unfold State.leaveBench
  split
  next h => simp [h]
  next sv h =>
    by_cases hrun : s.rsc.run = .benchDry <;> simp [h, hrun] <;> rfl

/-- The line position and the referenced flag after the bench is left. -/
theorem State.leaveBench_line (b : Bool) :
    (s.leaveBench b).wch.linePos =
        (if s.rsc.run = .benchDry then s.rsc.save.elim s.wch.linePos BenchSave.linePos else s.wch.linePos) ∧
      (s.leaveBench b).wch.referenced =
        (if s.rsc.run = .benchDry then s.rsc.save.elim s.wch.referenced BenchSave.referenced
          else s.wch.referenced) := by
  unfold State.leaveBench
  split
  next h => simp [h]
  next sv h => by_cases hrun : s.rsc.run = .benchDry <;> simp [h, hrun] <;> exact ⟨rfl, rfl⟩

end

/-! ### The soft reset -/

section
variable (s : State)

/-- The soft reset ends a wake with everything else it stops (R162). -/
theorem State.softReset_wakeSource (strap : Bool) : s.wakeSource.softReset strap = s.softReset strap := by
  have hleave : s.wakeSource.leaveBench false =
      (s.leaveBench false).withRsc { (s.leaveBench false).rsc with wakeEnd := s.wakeSource.rsc.wakeEnd } := by
    unfold State.leaveBench
    change (match s.rsc.save with | none => _ | some sv => _) = _
    cases s.rsc.save with
    | none => rfl
    | some sv =>
      change (if s.rsc.run == .benchDry then _ else _) = _
      dsimp only
      split <;> rfl
  unfold State.softReset
  rw [hleave]
  rfl

/-- The soft reset is taken in every run state (R165). -/
theorem exec_reset_taken (strap : Bool) (h : s.portOpen) :
    exec (.reset ⟨strap, []⟩) s = completed (s.softReset strap) := by
  rw [← s.softReset_wakeSource]
  exact congrArg completed (s.takeCommand_taken false noData _ (.inl h))

@[simp] theorem State.softReset_now (strap : Bool) : (s.softReset strap).now = s.now := by simp [State.softReset]
@[simp] theorem State.softReset_pending (strap : Bool) : (s.softReset strap).pending = s.pending := by
  simp [State.softReset]
@[simp] theorem State.softReset_lines (strap : Bool) : (s.softReset strap).lines = { s.lines with addr := strap } := by
  simp [State.softReset]
@[simp] theorem State.softReset_drv (strap : Bool) : (s.softReset strap).drv = Drv.fresh s.now := by
  simp [State.softReset]
@[simp] theorem State.softReset_str (strap : Bool) : (s.softReset strap).str = Str.fresh s.cfg s.now := by
  simp [State.softReset]
@[simp] theorem State.softReset_lgt (strap : Bool) : (s.softReset strap).lgt = Lgt.fresh s.now := by
  simp [State.softReset]
@[simp] theorem State.softReset_pnd (strap : Bool) : (s.softReset strap).pnd = Pnd.fresh s.now := by
  simp [State.softReset]
@[simp] theorem State.softReset_acp (strap : Bool) : (s.softReset strap).acp = s.acp.softReset s.cfg strap := by
  simp [State.softReset]

/-- The next budget period is counted from the reset (R29). -/
theorem State.softReset_nextPeriod (strap : Bool) : (s.softReset strap).bgt.nextPeriod = s.now + stepPeriod := by
  simp [State.softReset, Bgt.powerOn]

/-- The latched flags the soft reset keeps (R153). -/
theorem State.softReset_faultLatched (strap : Bool) (e : FaultEntry) :
    (s.softReset strap).faultLatched e = (s.faultLatched e && (e == .hardTrip || e == .lockout)) := by
  have hacp : (s.softReset strap).acp.latched = s.acp.latched &&& (faultBit .hardTrip ||| faultBit .lockout) := by
    simp [State.softReset, Acp.softReset]
  simp only [State.faultLatched, hacp, BitVec.getLsbD_and, BitVec.getLsbD_or, faultBit_getLsbD, BEq.comm (b := e)]

/-- What the soft reset restores of the bench save and keeps of the measurements and the line (R2, R14, R118, R171). -/
theorem State.softReset_restores (strap : Bool) :
    (s.softReset strap).prot.st =
      (if s.rsc.save.elim s.prot.st BenchSave.st = .lockout then .lockout else .normal) ∧
    (s.softReset strap).prot.q = s.rsc.save.elim s.prot.q BenchSave.q ∧
    (s.softReset strap).prot.limit = s.rsc.save.elim s.prot.limit BenchSave.limit ∧
    (s.softReset strap).pmon = { (s.leaveBench false).pmon with nextSample := s.now + samplePeriod } ∧
    (s.softReset strap).wch =
      { Wch.powerOn s.now with
        linePos := if s.rsc.run = .benchDry then s.rsc.save.elim s.wch.linePos BenchSave.linePos else s.wch.linePos
        referenced :=
          if s.rsc.run = .benchDry then s.rsc.save.elim s.wch.referenced BenchSave.referenced
          else s.wch.referenced } := by
  obtain ⟨hpos, href⟩ := s.leaveBench_line false
  refine ⟨?_, ?_, ?_, ?_, ?_⟩
  · simp only [State.softReset, Prot.softReset, s.leaveBench_prot]
    cases s.rsc.save <;> exact if_congr beq_iff_eq rfl rfl
  · simp only [State.softReset, Prot.softReset, s.leaveBench_prot]
    cases s.rsc.save <;> rfl
  · simp only [State.softReset, Prot.softReset, s.leaveBench_prot]
    cases s.rsc.save <;> rfl
  · simp [State.softReset]
  · simp [State.softReset, hpos, href]

/-- A grant record after the soft reset (R67). -/
theorem State.softReset_fn (strap : Bool) (f : Fn) :
    (s.softReset strap).grt.fns.get f = FnRecord.failsafe s.cfg f (((s.grt.fns.get f).seq + 1) % 16) := by
  simp [State.softReset, Grt.softReset]

/-- RSC after the soft reset (R156, R158, R165). -/
theorem State.softReset_rsc (strap : Bool) :
    (s.softReset strap).rsc =
      { s.rsc with
        run := .halted, startInFlight := false, pendingStart := false, sleepOrigin := none, wakeEnd := none
        armingEnd := none, idleEnd := none, load := none, storeEnd := none, save := none } := by
  simp [State.softReset, Rsc.softReset]

/-- Out of RUNNING the idle timer is stopped (R161). -/
theorem State.idleAfter_none (h : s.rsc.run ≠ .running) : s.idleAfter = none := by
  simp [State.idleAfter, State.idleHolds, h]

end

/-- What a full reset sets (R14, R67, R79, R91, R118, R135, R146, R155, R165), before the command ends. -/
theorem State.fullReset_settle_acp (s : State) (kind : FullResetKind) (strap : Bool) :
    (s.fullReset kind strap).settle.acp = (s.fullReset kind strap).acp := by
  have hactive : (s.fullReset kind strap).faultActive = fun _ => false :=
    funext fun e => State.powerOn_faultActive _ _ _ _ _ _ e
  rw [State.settle_acp, hactive, faultWord_false]
  simp

theorem Causes.ofFull_eq (kind : FullResetKind) : Causes.ofFull kind =
    { powerOn := kind == .powerOn, brownOut := kind == .brownOut, pin := kind == .pin, soft := false } := by
  cases kind <;> rfl

/-- Settles O30: the soft reset through what it restores and keeps, the full resets by the state they begin. -/
theorem resetValues : Obligations.ResetValues := by
  refine ⟨fun s strap hopen => ⟨_, exec_reset_taken s strap hopen, ?_⟩, fun s strap kind => ?_⟩
  · obtain ⟨hst, hq, hlimit, hpmon, hwch⟩ := s.softReset_restores strap
    have hrsc := s.softReset_rsc strap
    have hfn := s.softReset_fn strap
    refine ⟨⟨hst, hq, hlimit, ?pmon, ?chan, hwch⟩, ?rsc, rfl, rfl, ?dwell, rfl, rfl, rfl, rfl, ?starved, rfl, rfl, rfl,
      s.softReset_nextPeriod strap, s.softReset_drv strap, s.softReset_str strap, s.softReset_lgt strap, rfl,
      s.softReset_pnd strap, rfl, rfl, rfl, ?lost, ?last, ?fns, rfl, rfl, ?mask, rfl, ?causes, rfl,
      s.softReset_lines strap, ?latched, ?frame⟩
    case pmon => simp only [State.settle_pmon, hpmon, State.leaveBench_pmon]; rfl
    case chan =>
      intro q
      simp only [State.settle_pmon, hpmon, State.leaveBench_pmon]
      by_cases h : s.rsc.run = .benchDry ∧ s.rsc.save ≠ none <;> simp [h, Channel.unsubstituted]
    case rsc => rw [State.settle_rsc, hrsc, State.idleAfter_none _ (by simp [hrsc])]
    case dwell | starved => intro k; cases k <;> rfl
    case lost | last => intro f; cases f <;> rfl
    case fns => intro f; simp [State.holderOf, State.valueOf, hfn, FnRecord.failsafe]
    case mask | causes => rw [State.settle_acp, State.softReset_acp]; rfl
    case latched =>
      intro e
      rw [State.settle_faultLatched, State.softReset_faultLatched, State.settle_faultActive]
    case frame => intro b; cases b <;> simp [State.agree]
  · have hacp := s.fullReset_settle_acp kind strap
    have hidle : (s.fullReset kind strap).idleAfter = none := State.idleAfter_none _ nofun
    refine ⟨(s.fullReset kind strap).settle, by cases kind <;> rfl, rfl, rfl, rfl, rfl, rfl, rfl, rfl, rfl, rfl, rfl,
      hidle, rfl, rfl, rfl, rfl, rfl, rfl, ?dwell, rfl, rfl, rfl, rfl, ?chan, rfl, rfl, rfl, rfl, rfl, rfl, rfl, rfl,
      rfl, rfl, ?fns, rfl, rfl, rfl, by rw [hacp]; rfl, rfl, rfl, rfl, Causes.ofFull_eq kind, rfl, rfl, rfl⟩
    case dwell => intro k; cases k <;> rfl
    case chan => intro q; cases q <;> exact ⟨rfl, rfl⟩
    case fns => intro f; cases f <;> exact ⟨rfl, rfl, rfl⟩

end Sys2Proof.Machine
end

section
/-! PROOFS. The winch queue under the operations of the stop events: what a preemption leaves, and what the operations
around it leave of the queue (R100, R106, R113). -/

namespace Sys2Proof.Machine

/-! ### The ACTIVE order of a winch -/

theorem Wch.activeAt_iff (w : Wch) (i : Fin 4) : w.activeAt i ↔ (w.slots.get i).any Order.isActive = true := by
  simp [Wch.activeAt, Option.any_eq_true]

/-- No order is ACTIVE exactly where no slot is. -/
theorem Wch.active_eq_none_iff (w : Wch) : w.active = none ↔ ∀ i, ¬w.activeAt i := by
  simp only [Wch.activeAt_iff]
  constructor
  · intro h i hi
    cases hs : w.activeSlot with
    | none =>
      have := List.find?_eq_none.1 hs i (by fin_cases i <;> simp [allSlots])
      exact this hi
    | some j =>
      have hj := List.find?_some hs
      obtain ⟨o, ho, hact⟩ := (Option.any_eq_true ..).1 hj
      obtain ⟨r, hr⟩ := Option.isSome_iff_exists.1 hact
      simp [Wch.active, hs, ho, hr] at h
  · intro h
    have hs : w.activeSlot = none := List.find?_eq_none.2 fun i _ => h i
    simp [Wch.active, hs]

theorem Wch.activeAt_of_active (w : Wch) {i : Fin 4} {o : Order} {r : OrderRun} (h : w.active = some (i, o, r)) :
    w.activeAt i := by
  obtain ⟨hslot, hphase, -⟩ := w.active_spec i o r h
  exact ⟨o, hslot, by simp [Order.isActive, Order.run?, hphase]⟩

/-- The slots decide which order is ACTIVE. -/
theorem Wch.active_congr {w w' : Wch} (h : w'.slots = w.slots) : w'.active = w.active := by
  simp [Wch.active, Wch.activeSlot, h]

/-! ### States with the same winch queue -/

/-- From `s` to `t` the winch queue is the same: slots, post list, run flag, and ORDER_DONE. -/
def sameQueue (s t : State) : Prop :=
  t.wch.slots = s.wch.slots ∧ t.wch.postList = s.wch.postList ∧ t.wch.lastPosted = s.wch.lastPosted ∧
    t.wch.runFlag = s.wch.runFlag ∧ t.acp.orderDone = s.acp.orderDone

theorem sameQueue.rfl {s : State} : sameQueue s s := ⟨.refl _, .refl _, .refl _, .refl _, .refl _⟩

theorem sameQueue.trans {s t u : State} (h : sameQueue s t) (h' : sameQueue t u) : sameQueue s u := by
  obtain ⟨h1, h2, h3, h4, h5⟩ := h
  obtain ⟨h1', h2', h3', h4', h5'⟩ := h'
  exact ⟨h1'.trans h1, h2'.trans h2, h3'.trans h3, h4'.trans h4, h5'.trans h5⟩

/-- With its queue and the holder of WINCH a state keeps `queueOk`. -/
theorem State.queueOk_congr {s t : State} (h : sameQueue s t) (hh : t.holderOf .winch = s.holderOf .winch)
    (hq : s.queueOk) : t.queueOk := by
  obtain ⟨hslots, hpost, -⟩ := h
  unfold State.queueOk Wch.activeAt Wch.finishedAt at hq ⊢
  rwa [hslots, hpost, hh]

/-- What a preemption from `s` leaves is what one from a state with the same queue leaves. -/
theorem preempted.of_sameQueue {s v t : State} (h : sameQueue s v) (hp : preempted v t) : preempted s t := by
  obtain ⟨hslots, hpost, hlast, hflag, hdone⟩ := h
  unfold preempted at hp ⊢
  rwa [hslots, hpost, hlast, hflag, hdone, Wch.active_congr hslots] at hp

/-- After a preemption the queue may go on unchanged, with the motor standing still where it stood. -/
theorem preempted.to_sameQueue {s v t : State} (hp : preempted s v) (h : sameQueue v t)
    (hstop : v.wch.duty = 0 ∧ v.wch.moving = false ∧ v.wch.pwm = 0 →
      t.wch.duty = 0 ∧ t.wch.moving = false ∧ t.wch.pwm = 0) : preempted s t := by
  obtain ⟨hslots, hpost, hlast, hflag, hdone⟩ := h
  obtain ⟨hact, hpost', hlast', hnone, hsome, hdone'⟩ := hp
  unfold preempted Wch.activeAt at *
  rw [hslots, hpost, hlast, hflag, hdone]
  refine ⟨hact, hpost', hlast', hnone, fun i o r he => ?_, hdone'⟩
  obtain ⟨h1, h2, h3⟩ := hsome i o r he
  exact ⟨h1, h2, hstop h3⟩

/-- Where no order is ACTIVE a preemption is the queue as it was. -/
theorem preempted_of_inactive {s t : State} (ha : s.wch.active = none) (h : sameQueue s t) : preempted s t := by
  obtain ⟨hslots, hpost, hlast, hflag, hdone⟩ := h
  refine ⟨?_, hpost, hlast, fun _ => ⟨hslots, hflag⟩, fun i o r he => absurd (ha.symm.trans he) nofun, by simp [ha, hdone]⟩
  exact t.wch.active_eq_none_iff.1 ((Wch.active_congr hslots).trans ha)

/-- After the only ACTIVE order has ended none is ACTIVE. -/
theorem Wch.not_activeAt_ended {w w' : Wch} (hone : ∀ i j, w.activeAt i → w.activeAt j → i = j) {i : Fin 4} {o : Order}
    (hi : w.activeAt i) (result : OrderResult) (h : w'.slots = w.slots.set i (some (o.ended result))) (j : Fin 4) :
    ¬w'.activeAt j := by
  rintro ⟨p, hp, hact⟩
  rw [h] at hp
  by_cases hj : j = i
  · subst hj
    rw [PerSlot.get_set_same] at hp
    cases hp
    simp at hact
  · rw [PerSlot.get_set_other _ _ _ _ hj] at hp
    exact hj (hone j i ⟨p, hp, hact⟩ hi)

section
variable (s : State)

/-- What a preemption leaves of a queue in order (R113). -/
theorem State.preempt_preempted (hone : ∀ i j, s.wch.activeAt i → s.wch.activeAt j → i = j) : preempted s s.preempt := by
  cases ha : s.wch.active with
  | none => rw [s.preempt_none ha]; exact preempted_of_inactive ha .rfl
  | some a =>
    obtain ⟨i, o, r⟩ := a
    obtain ⟨hw, hacp⟩ := s.preempt_some i o r ha
    refine ⟨Wch.not_activeAt_ended hone (s.wch.activeAt_of_active ha) .preempted (by rw [hw]), by rw [hw], by rw [hw],
      fun h => absurd (ha.symm.trans h) nofun, ?_, by simp [hacp, ha]⟩
    rintro i' o' r' he
    cases ha.symm.trans he
    rw [hw]
    exact ⟨rfl, rfl, rfl, rfl, rfl⟩

/-! ### What the operations of a stop leave of the queue -/

theorem sameQueue_setWinchDuty (d : Int) : sameQueue s (s.setWinchDuty d) := ⟨rfl, rfl, rfl, rfl, rfl⟩

theorem sameQueue_openSwitch : sameQueue s s.openSwitch := by
  unfold State.openSwitch
  split <;> exact ⟨rfl, rfl, rfl, rfl, rfl⟩

theorem sameQueue_leaveBench (b : Bool) : sameQueue s (s.leaveBench b) := by
  unfold State.leaveBench
  (repeat' split) <;> exact ⟨rfl, rfl, rfl, rfl, rfl⟩

/-! ### The drive and the winch under the operations of a stop (R71, R99) -/

/-- A winch duty of 0 touches the drive in the interlock flag alone (R71). -/
theorem State.setWinchDuty_zero_drv :
    (s.setWinchDuty 0).drv = { s.drv with interlock := s.drv.interlock && !s.wch.moving } := by
  cases h : s.wch.moving <;> simp [Drv.onMoving, h]

/-- A preemption touches the drive in the interlock flag alone (R71, R106). -/
theorem State.preempt_drv :
    s.preempt.drv =
      { s.drv with interlock := s.drv.interlock && !(s.wch.moving && s.wch.active.isSome) } := by
  cases ha : s.wch.active with
  | none => rw [s.preempt_none ha]; simp
  | some a =>
    obtain ⟨i, o, r⟩ := a
    have hact : o.isActive = true := by
      obtain ⟨-, hphase, -⟩ := s.wch.active_spec i o r ha
      simp [Order.isActive, Order.run?, hphase]
    simp only [State.preempt, State.endActive, ha, State.endOrder, hact, if_true, State.raiseResult_drv,
      State.withAcp_drv, State.writeHeldWinchValue_drv, State.setWinchDuty_zero_drv]
    simp [Wch.putOrder]

/-- A preemption ends an ACTIVE order's WINCH value with it, and touches nothing else of the grant table (R106). -/
theorem State.preempt_grt :
    s.preempt.grt = if s.wch.active.isSome then (s.writeHeldWinchValue 0).grt else s.grt := by
  cases ha : s.wch.active with
  | none => simp [s.preempt_none ha]
  | some a => simp [State.preempt, State.endActive, ha, State.endOrder_grt]

/-- The winch after a preemption: its queue, and the motor that drove the order. -/
theorem State.preempt_wch :
    s.preempt.wch =
      { s.wch with
        slots := s.preempt.wch.slots, runFlag := s.preempt.wch.runFlag, duty := s.preempt.wch.duty
        moving := s.preempt.wch.moving, pwm := s.preempt.wch.pwm } := by
  cases ha : s.wch.active with
  | none => rw [s.preempt_none ha]
  | some a =>
    obtain ⟨i, o, r⟩ := a
    obtain ⟨hw, -⟩ := s.preempt_some i o r ha
    rw [hw]

/-- A preemption posts ORDER_DONE for the order it ends, and touches nothing else of the port (R106). -/
theorem State.preempt_acp :
    s.preempt.acp = { s.acp with orderDone := s.acp.orderDone || s.wch.active.isSome } := by
  cases ha : s.wch.active with
  | none => simp [s.preempt_none ha]
  | some a =>
    obtain ⟨i, o, r⟩ := a
    obtain ⟨-, hacp⟩ := s.preempt_some i o r ha
    simp [hacp]

/-- A winch at rest stays at rest through a preemption. -/
theorem State.preempt_rest (h : s.wch.duty = 0 ∧ s.wch.moving = false ∧ s.wch.pwm = 0) :
    s.preempt.wch.duty = 0 ∧ s.preempt.wch.moving = false ∧ s.preempt.wch.pwm = 0 := by
  cases ha : s.wch.active with
  | none => rwa [s.preempt_none ha]
  | some a =>
    obtain ⟨i, o, r⟩ := a
    obtain ⟨hw, -⟩ := s.preempt_some i o r ha
    simp [hw]

/-! ### A change of WINCH's holder (R100) and a new grant table -/

/-- The winch after a change of WINCH's holder: the direct stall, the queue and the motor are all it reaches. -/
theorem State.winchHandover_wch_frame (old new : Holder) :
    (s.winchHandover old new).wch =
      { s.wch with
        stallHold := (s.winchHandover old new).wch.stallHold
        stalledSign := (s.winchHandover old new).wch.stalledSign
        directCurrent := (s.winchHandover old new).wch.directCurrent
        directDrum := (s.winchHandover old new).wch.directDrum
        slots := (s.winchHandover old new).wch.slots
        runFlag := (s.winchHandover old new).wch.runFlag
        duty := (s.winchHandover old new).wch.duty
        moving := (s.winchHandover old new).wch.moving
        pwm := (s.winchHandover old new).wch.pwm } := by
  unfold State.winchHandover
  split
  · rfl
  dsimp only
  split <;> split
  · simp only [State.setWinchDuty, State.withDrv_wch, State.withWch_wch]
    rw [State.preempt_wch]
    rfl
  · rfl
  · rw [State.preempt_wch]
    rfl
  · rfl

/-- A change of WINCH's holder touches the drive in the interlock flag alone (R71). -/
theorem State.winchHandover_drv (old new : Holder) :
    ∃ i, (s.winchHandover old new).drv = { s.drv with interlock := i } := by
  unfold State.winchHandover
  split
  · exact ⟨_, rfl⟩
  dsimp only
  split <;> split
  · exact ⟨_, by rw [State.setWinchDuty_zero_drv, State.preempt_drv]; rfl⟩
  · exact ⟨_, by rw [State.setWinchDuty_zero_drv]; rfl⟩
  · exact ⟨_, by rw [State.preempt_drv]; rfl⟩
  · exact ⟨_, rfl⟩

/-- A change of WINCH's holder posts at most ORDER_DONE. -/
theorem State.winchHandover_acp (old new : Holder) :
    (s.winchHandover old new).acp = { s.acp with orderDone := (s.winchHandover old new).acp.orderDone } := by
  unfold State.winchHandover
  split
  · rfl
  dsimp only
  (repeat' split) <;> simp [State.preempt_acp]

/-- A winch at rest stays at rest through a change of WINCH's holder. -/
theorem State.winchHandover_rest (old new : Holder) (h : s.wch.duty = 0 ∧ s.wch.moving = false ∧ s.wch.pwm = 0) :
    (s.winchHandover old new).wch.duty = 0 ∧ (s.winchHandover old new).wch.moving = false ∧
      (s.winchHandover old new).wch.pwm = 0 := by
  unfold State.winchHandover
  split
  · exact h
  dsimp only
  split <;> split
  · exact ⟨rfl, rfl, State.setWinchDuty_zero_pwm _⟩
  · exact ⟨rfl, rfl, State.setWinchDuty_zero_pwm _⟩
  · exact State.preempt_rest (s.withWch _) h
  · exact h

/-- The winch after a new grant table: the direct stall, the queue and the motor are all it reaches (R100, R113). -/
theorem State.commitGrants_wch_frame (g : Grt) :
    (s.commitGrants g).wch =
      { s.wch with
        stallHold := (s.commitGrants g).wch.stallHold
        stalledSign := (s.commitGrants g).wch.stalledSign
        directCurrent := (s.commitGrants g).wch.directCurrent
        directDrum := (s.commitGrants g).wch.directDrum
        slots := (s.commitGrants g).wch.slots
        runFlag := (s.commitGrants g).wch.runFlag
        duty := (s.commitGrants g).wch.duty
        moving := (s.commitGrants g).wch.moving
        pwm := (s.commitGrants g).wch.pwm } :=
  State.winchHandover_wch_frame _ _ _

theorem State.commitGrants_drv (g : Grt) : ∃ i, (s.commitGrants g).drv = { s.drv with interlock := i } :=
  State.winchHandover_drv _ _ _

theorem State.commitGrants_acp (g : Grt) :
    (s.commitGrants g).acp = { s.acp with orderDone := (s.commitGrants g).acp.orderDone } :=
  State.winchHandover_acp _ _ _

theorem State.commitGrants_rest (g : Grt) (h : s.wch.duty = 0 ∧ s.wch.moving = false ∧ s.wch.pwm = 0) :
    (s.commitGrants g).wch.duty = 0 ∧ (s.commitGrants g).wch.moving = false ∧ (s.commitGrants g).wch.pwm = 0 :=
  State.winchHandover_rest _ _ _ h

/-- A passage of WINCH to a holder other than AP preempts, where an order is ACTIVE under AP alone (R113). -/
theorem State.winchHandover_preempted (old new : Holder) (hone : ∀ i j, s.wch.activeAt i → s.wch.activeAt j → i = j)
    (hap : ∀ i, s.wch.activeAt i → old = .ap) (hnew : new ≠ .ap) : preempted s (s.winchHandover old new) := by
  unfold State.winchHandover
  by_cases hold : old = .ap
  · subst hold
    have hne : (Holder.ap == new) = false := beq_false_of_ne hnew.symm
    simp only [hne, beq_false_of_ne hnew, beq_self_eq_true, Bool.false_eq_true, if_true, if_false]
    have hsame : sameQueue s (s.withWch s.wch.clearDirect) := ⟨rfl, rfl, rfl, rfl, rfl⟩
    exact (State.preempt_preempted (s.withWch s.wch.clearDirect) hone).of_sameQueue hsame
  · have hnone : s.wch.active = none := s.wch.active_eq_none_iff.2 fun i hi => hold (hap i hi)
    simp only [beq_false_of_ne hold, beq_false_of_ne hnew, Bool.false_eq_true, if_false]
    split <;> exact preempted_of_inactive hnone ⟨rfl, rfl, rfl, rfl, rfl⟩

/-- A new grant table in which AP does not hold WINCH preempts (R113). -/
theorem State.commitGrants_preempted (g : Grt) (hq : s.queueOk) (hg : (g.fns.get .winch).holder ≠ .ap) :
    preempted s (s.commitGrants g) := by
  obtain ⟨-, -, -, hone, hap⟩ := hq
  unfold State.commitGrants
  refine preempted.of_sameQueue ?_ (State.winchHandover_preempted _ _ _ hone hap hg)
  exact ⟨rfl, rfl, rfl, rfl, rfl⟩

end

end Sys2Proof.Machine
end

section
/-! PROOFS. Entry to CUTOFF meets the relation `cutOff` of Safety.lean (R9, R10, R38, R78, R99, R113). -/

namespace Sys2Proof.Machine

/-! ### Frames -/

/-- Frames chain. -/
theorem unchangedBut.trans {l : List Block} {s v t : State} (h : unchangedBut l s v) (h' : unchangedBut l v t) :
    unchangedBut l s t := by
  intro b hb
  have h1 := h b hb
  have h2 := h' b hb
  cases b <;> exact Eq.trans h2 h1

theorem unchangedBut.mono {l l' : List Block} {s t : State} (h : unchangedBut l s t) (hl : l ⊆ l') :
    unchangedBut l' s t := fun b hb => h b fun hm => hb (hl hm)

/-- Frames of two steps chain to the frame of both. -/
theorem unchangedBut.append {l l' : List Block} {s v t : State} (h : unchangedBut l s v) (h' : unchangedBut l' v t) :
    unchangedBut (l ++ l') s t :=
  (h.mono (List.subset_append_left l l')).trans (h'.mono (List.subset_append_right l l'))

/-- A frame through `settle`, which touches the accessory port and the run-state controller alone. -/
theorem unchangedBut.settle {l l' : List Block} {s u : State} (h : unchangedBut l s u) (hl : l ⊆ l') (ha : .acp ∈ l')
    (hr : .rsc ∈ l') : unchangedBut l' s u.settle :=
  unchangedBut_settle (fun b hb _ _ => h b fun hm => hb (hl hm)) ha hr

/-- A state moved in its clock and its lines alone. -/
theorem eq_of_unchangedBut_now_lines {s v : State} (h : unchangedBut [.now, .lines] s v) :
    v = (s.withNow v.now).withLines v.lines := by
  have hb : ∀ b, b ∉ [Block.now, .lines] → s.agree v b := h
  have h1 := hb .pmon (by simp); have h2 := hb .prot (by simp); have h3 := hb .bgt (by simp)
  have h4 := hb .grt (by simp); have h5 := hb .drv (by simp); have h6 := hb .str (by simp)
  have h7 := hb .wch (by simp); have h8 := hb .lgt (by simp); have h9 := hb .dlr (by simp)
  have h10 := hb .pnd (by simp); have h11 := hb .acp (by simp); have h12 := hb .rsc (by simp)
  have h13 := hb .pending (by simp)
  cases s; cases v
  simp only [State.agree] at *
  subst h1 h2 h3 h4 h5 h6 h7 h8 h9 h10 h11 h12 h13
  rfl

section
variable (s : State)

theorem unchangedBut_reach (x : Nat) : unchangedBut [.now, .lines] s (s.reach x) := by
  intro b hb
  cases b <;> first | rfl | exact absurd (by simp) hb

theorem unchangedBut_withLines (x : Lines) : unchangedBut [.now, .lines] s (s.withLines x) := by
  intro b hb
  cases b <;> first | rfl | exact absurd (by simp) hb

theorem unchangedBut_withRsc (x : Rsc) : unchangedBut [.rsc] s (s.withRsc x) := by
  intro b hb
  cases b <;> first | rfl | exact absurd (by simp) hb

theorem unchangedBut_withProt (x : Prot) : unchangedBut [.prot] s (s.withProt x) := by
  intro b hb
  cases b <;> first | rfl | exact absurd (by simp) hb

/-! ### The winch stopped by a protection event (R99, R113) -/

/-- The motor stopped, with an ACTIVE order preempted: what entry to CUTOFF and to LOCKOUT do to the winch. -/
def State.winchStopped (s : State) : State := s.preempt.setWinchDuty 0

theorem State.preempt_moving : s.preempt.wch.moving = (s.wch.moving && !s.wch.active.isSome) := by
  cases ha : s.wch.active with
  | none => simp [s.preempt_none ha]
  | some a =>
    obtain ⟨i, o, r⟩ := a
    obtain ⟨hw, -⟩ := s.preempt_some i o r ha
    simp [hw]

theorem State.winchStopped_drv :
    s.winchStopped.drv = { s.drv with interlock := s.drv.interlock && !s.wch.moving } := by
  rw [State.winchStopped, State.setWinchDuty_zero_drv, State.preempt_drv, State.preempt_moving]
  cases s.wch.moving <;> cases s.wch.active <;> simp

theorem State.winchStopped_wch :
    s.winchStopped.wch =
      { s.wch with
        slots := s.winchStopped.wch.slots, runFlag := s.winchStopped.wch.runFlag
        duty := 0, moving := false, pwm := 0 } := by
  have h := s.preempt_wch
  unfold State.winchStopped State.setWinchDuty
  simp only [State.withDrv_wch, State.withWch_wch]
  rw [h]
  simp

theorem State.winchStopped_rest :
    s.winchStopped.wch.duty = 0 ∧ s.winchStopped.wch.moving = false ∧ s.winchStopped.wch.pwm = 0 :=
  ⟨rfl, rfl, State.setWinchDuty_zero_pwm _⟩

/-- An order preempted and the motor stopped (R99, R113). -/
theorem State.winchStopped_preempted (hone : ∀ i j, s.wch.activeAt i → s.wch.activeAt j → i = j) :
    preempted s s.winchStopped :=
  (s.preempt_preempted hone).to_sameQueue (sameQueue_setWinchDuty _ 0) fun _ => s.winchStopped_rest

/-- The WINCH value ended with the order (R105, R106). -/
theorem State.winchStopped_value : winchValueEnded s s.winchStopped := by
  have h : s.winchStopped.grt = if s.wch.active.isSome then (s.writeHeldWinchValue 0).grt else s.grt := s.preempt_grt
  unfold winchValueEnded
  rw [h]
  cases s.wch.active.isSome with
  | false => simp
  | true => exact ⟨fun f => by simp [State.writeHeldWinchValue_get], rfl⟩

/-! ### CUTOFF -/

/-- Entry to CUTOFF before the winch stops (R9, R10, R38, R78). -/
def State.cutoffBegun (s : State) (cause : CutCause) : State :=
  let s1 := s.withProt
    { s.prot with
      st := .cutoff
      cause := some cause
      tripTime := if cause == .hardTrip then some s.now else none
      dwell := { noDwell with crit := s.prot.dwell.crit } }
  (s1.withBgt s1.bgt.motorsCut).withDrv
    (s1.drv.stopped true (if s1.driveBrkReleased then some s1.cfg.drag else none))

theorem State.enterCutoff_eq (cause : CutCause) : s.enterCutoff cause = (s.cutoffBegun cause).winchStopped := rfl

theorem Bgt.motorsCut_spec (b : Bgt) :
    (∀ k, k = .drive ∨ k = .winch → b.motorsCut.pub.grant.get k = 0 ∧ b.motorsCut.starved.get k = 0) ∧
    (∀ k, k = .servo ∨ k = .lights → b.motorsCut.pub.grant.get k = b.pub.grant.get k) ∧
    b.motorsCut.pub.a = b.pub.a := by
  refine ⟨?_, ?_, rfl⟩ <;> rintro k (rfl | rfl) <;> first | exact ⟨rfl, rfl⟩ | rfl

/-- The drive after entry to CUTOFF (R71, R73, R78). -/
theorem State.enterCutoff_drv (cause : CutCause) :
    (s.enterCutoff cause).drv =
      { s.drv with
        applied := 0, dir := .none, pwm := 0, dragBrake := true, brake := true, reverse := false
        interlock := s.drv.interlock && !s.wch.moving
        brk := if (s.rsc.run = .running ∨ s.rsc.run = .arming) ∧ s.prot.sw = .closed ∧ s.cfg.driveEn = true then
          some s.cfg.drag else none } := by
  rw [State.enterCutoff_eq, State.winchStopped_drv]
  simp only [State.cutoffBegun, Drv.stopped, if_true, State.withDrv_drv, State.withDrv_wch, State.withBgt_wch,
    State.withProt_wch, State.withProt_drv]
  congr 1
  exact if_congr (by simp [State.driveBrkReleased, State.cfg, and_assoc]) rfl rfl

theorem State.enterCutoff_frame (cause : CutCause) :
    unchangedBut [.prot, .bgt, .grt, .drv, .wch, .acp] s (s.enterCutoff cause) := by
  intro b hb
  cases b <;> simp at hb <;> simp [State.agree]

/-- Entry to CUTOFF leaves what the relation of Safety.lean says. -/
theorem cutOff_enterCutoff (cause : CutCause) :
    cutOff s (s.enterCutoff cause).settle cause (if cause == .hardTrip then some s.now else none) := by
  obtain ⟨hcut, hkept, ha⟩ := s.bgt.motorsCut_spec
  have hsame : sameQueue s (s.cutoffBegun cause) := ⟨rfl, rfl, rfl, rfl, rfl⟩
  refine ⟨s.enterCutoff_prot cause, ?_, ?_, ?_, s.enterCutoff_drv cause, (s.cutoffBegun cause).winchStopped_wch, ?_,
    (s.cutoffBegun cause).winchStopped_value, ?_⟩
  · rw [State.settle_bgt, State.enterCutoff_bgt]
    exact hcut
  · rw [State.settle_bgt, State.enterCutoff_bgt]
    exact hkept
  · rw [State.settle_bgt, State.enterCutoff_bgt]
    exact ha
  · rintro ⟨-, -, -, hone, -⟩
    have hp := ((s.cutoffBegun cause).winchStopped_preempted hone).of_sameQueue hsame
    exact hp.to_sameQueue ⟨rfl, rfl, rfl, rfl, rfl⟩ id
  · exact (s.enterCutoff_frame cause).settle (by simp) (by simp) (by simp)

/-! ### Moved in the clock and the lines alone -/

theorem cutOff_of_moved {v t : State} {cause : CutCause} {trip : Option Nat} (hv : unchangedBut [.now, .lines] s v)
    (h : cutOff v t cause trip) : cutOff s t cause trip := by
  rw [eq_of_unchangedBut_now_lines hv] at h
  obtain ⟨hprot, hcut, hkept, ha, hdrv, hwch, hpre, hval, hframe⟩ := h
  refine ⟨hprot, hcut, hkept, ha, hdrv, hwch, hpre, hval, ?_⟩
  intro b hb
  have hm := hframe b hb
  cases b <;> first | exact hm | exact absurd (by simp) hb
end

end Sys2Proof.Machine
end

section
/-! PROOFS. What a HALT leaves: the switch and its consumers, the winch and its queue, the grant table, and the bench save
it restores (R20, R48, R64, R113, R157, R171). -/

namespace Sys2Proof.Machine

/-- The winch stands: no duty, not moving, WCH_PWM at 0. -/
def Wch.atRest (w : Wch) : Prop := w.duty = 0 ∧ w.moving = false ∧ w.pwm = 0

/-- The line, its direction and the stall arm are the same from `w` to `w'`. -/
def Wch.sameLine (w w' : Wch) : Prop :=
  w'.linePos = w.linePos ∧ w'.referenced = w.referenced ∧ w'.dir = w.dir ∧ w'.stallArm = w.stallArm

theorem Wch.sameLine.trans {w w' w'' : Wch} (h : w.sameLine w') (h' : w'.sameLine w'') : w.sameLine w'' := by
  obtain ⟨h1, h2, h3, h4⟩ := h
  obtain ⟨h1', h2', h3', h4'⟩ := h'
  exact ⟨h1'.trans h1, h2'.trans h2, h3'.trans h3, h4'.trans h4⟩

theorem capsKept.trans {s v t : State} (h : capsKept s v) (h' : capsKept v t) : capsKept s t := by
  obtain ⟨h1, h2, h3, h4⟩ := h
  obtain ⟨h1', h2', h3', h4'⟩ := h'
  exact ⟨h1'.trans h1, h2'.trans h2, h3'.trans h3, h4'.trans h4⟩

/-- A drive moved in the flag of the interlock alone keeps its caps. -/
theorem capsKept_of_interlock {s t : State} {i : Bool} (h : t.drv = { s.drv with interlock := i }) : capsKept s t := by
  unfold capsKept
  rw [h]
  exact ⟨rfl, rfl, rfl, rfl⟩

/-- The consumers of a closed switch that has opened: no A, and no output (R38, R78, R89, R133). -/
def State.consumersOff (s : State) : Prop :=
  s.bgt.pub.a = 0 ∧ s.drv.pwm = 0 ∧ s.drv.brk = none ∧ (∀ v, (s.str.servo.get v).line = none) ∧
    ∀ l, (s.lgt.lamp.get l).line = 0

section
variable (s : State)

/-! ### Opening the switch -/

theorem State.openSwitch_closed (h : s.prot.sw = .closed) : s.openSwitch = s.leaveClosed := by
  simp [State.openSwitch, h]

theorem State.openSwitch_consumersOff (h : s.prot.sw = .closed) : s.openSwitch.consumersOff := by
  obtain ⟨hbgt, hstr, hlgt, -, -, -, -, -, hpwm, -, hbrk⟩ := s.leaveClosed_spec
  rw [s.openSwitch_closed h]
  refine ⟨by rw [hbgt]; rfl, hpwm, hbrk, fun v => ?_, fun l => ?_⟩
  · rw [hstr]; simp [Str.released]
  · rw [hlgt]; simp [Lgt.dark]

theorem State.openSwitch_capsKept : capsKept s s.openSwitch := by
  unfold State.openSwitch
  split
  · exact capsKept.trans (v := s.withDrv (s.drv.stopped false none)) ⟨rfl, rfl, rfl, rfl⟩
      (capsKept_of_interlock (State.setWinchDuty_zero_drv _))
  · exact ⟨rfl, rfl, rfl, rfl⟩
  · exact ⟨rfl, rfl, rfl, rfl⟩

theorem State.openSwitch_sameLine : s.wch.sameLine s.openSwitch.wch := by
  unfold State.openSwitch
  split <;> exact ⟨rfl, rfl, rfl, rfl⟩

theorem State.openSwitch_gear : s.openSwitch.drv.gear = s.drv.gear := by
  unfold State.openSwitch
  split
  · unfold State.leaveClosed
    rw [State.setWinchDuty_zero_drv]
    rfl
  · rfl
  · rfl

theorem State.openSwitch_rest (h : s.wch.atRest) : s.openSwitch.wch.atRest := by
  unfold State.openSwitch
  split
  · exact ⟨rfl, rfl, State.setWinchDuty_zero_pwm _⟩
  · exact h
  · exact h

/-! ### Leaving the bench -/

theorem State.leaveBench_wet {b : Bool} {sv : BenchSave} (hsave : s.rsc.save = some sv) (hrun : s.rsc.run ≠ .benchDry) :
    s.leaveBench b = s.restoreSave sv b := by
  unfold State.leaveBench
  rw [hsave]
  exact if_neg (by simpa using hrun)

theorem State.leaveBench_sw (b : Bool) : (s.leaveBench b).prot.sw = s.prot.sw := by
  rw [s.leaveBench_prot]
  cases s.rsc.save with
  | none => rfl
  | some sv => cases b <;> rfl

theorem State.leaveBench_capsKept (b : Bool) : capsKept s (s.leaveBench b) := by
  unfold State.leaveBench
  split
  · exact ⟨rfl, rfl, rfl, rfl⟩
  next sv _ =>
    split
    · exact capsKept.trans (v := s.withDrv { s.drv.stopped false none with gear := sv.gear }) ⟨rfl, rfl, rfl, rfl⟩
        (capsKept_of_interlock (State.setWinchDuty_zero_drv _))
    · exact ⟨rfl, rfl, rfl, rfl⟩

theorem State.leaveBench_rest (b : Bool) (h : s.wch.atRest) : (s.leaveBench b).wch.atRest := by
  unfold State.leaveBench
  split
  · exact h
  · split
    · exact ⟨rfl, rfl, State.setWinchDuty_zero_pwm _⟩
    · exact h

/-! ### A new grant table where no order is ACTIVE -/

theorem State.winchHandover_sameQueue (old new : Holder) (ha : s.wch.active = none) :
    sameQueue s (s.winchHandover old new) := by
  have hnone : (s.withWch s.wch.clearDirect).preempt = s.withWch s.wch.clearDirect := State.preempt_none _ ha
  unfold State.winchHandover
  split
  · exact .rfl
  dsimp only
  rw [hnone]
  (repeat' split) <;> exact ⟨rfl, rfl, rfl, rfl, rfl⟩

theorem State.commitGrants_sameQueue (g : Grt) (ha : s.wch.active = none) : sameQueue s (s.commitGrants g) := by
  unfold State.commitGrants
  refine sameQueue.trans ?_ (State.winchHandover_sameQueue _ _ _ ha)
  exact ⟨rfl, rfl, rfl, rfl, rfl⟩

theorem State.commitGrants_capsKept (g : Grt) : capsKept s (s.commitGrants g) := by
  obtain ⟨i, h⟩ := s.commitGrants_drv g
  exact capsKept_of_interlock h

theorem State.commitGrants_sameLine (g : Grt) : s.wch.sameLine (s.commitGrants g).wch := by
  rw [s.commitGrants_wch_frame g]
  exact ⟨rfl, rfl, rfl, rfl⟩

/-! ### HALT -/

/-- The state of a HALT before the grant table passes to FS. -/
def State.haltBase (s : State) (b : Bool) : State := (s.leaveBench b).openSwitch

/-- The grant table passed to FS by a HALT. -/
def State.haltPassed (s : State) (b : Bool) : State :=
  (s.haltBase b).commitGrants ((s.haltBase b).grt.allToFs (s.haltBase b).cfg)

theorem State.haltWith_eq (b : Bool) :
    s.haltWith b =
      (s.haltPassed b).withRsc
        { (s.haltPassed b).rsc with
          run := .halted, startInFlight := false, pendingStart := false, sleepOrigin := none, wakeEnd := none
          armingEnd := none, idleEnd := none, load := none } := rfl

theorem sameQueue_haltBase (b : Bool) : sameQueue s (s.haltBase b) :=
  (sameQueue_leaveBench s b).trans (sameQueue_openSwitch _)

theorem State.haltWith_prot (b : Bool) :
    (s.haltWith b).prot.dwell = (s.leaveBench b).prot.dwell ∧ (s.haltWith b).prot.q = (s.leaveBench b).prot.q ∧
      (s.haltWith b).prot.limit = (s.leaveBench b).prot.limit := by
  obtain ⟨-, -, -, hdwell, hq, hlimit⟩ := (s.leaveBench b).openSwitch_prot
  simp [State.haltWith_eq, State.haltPassed, State.haltBase, hdwell, hq, hlimit]

theorem State.haltWith_pmon (b : Bool) : (s.haltWith b).pmon = (s.leaveBench b).pmon := by
  simp [State.haltWith_eq, State.haltPassed, State.haltBase]

theorem State.haltWith_save (b : Bool) : (s.haltWith b).rsc.save = none := by
  simp [State.haltWith_eq, State.haltPassed, State.haltBase]

theorem State.haltWith_grt (b : Bool) : (s.haltWith b).grt = s.grt.allToFs s.cfg := by
  simp [State.haltWith_eq, State.haltPassed, State.haltBase, State.cfg]

/-- A HALT passes every function to FS, and touches nothing else of the grant table (R48, R64). -/
theorem State.haltWith_passed (b : Bool) :
    (∀ f, passedToFs s.cfg f 0 (s.grt.fns.get f) ((s.haltWith b).grt.fns.get f)) ∧
      (s.haltWith b).grt = { s.grt with fns := (s.haltWith b).grt.fns } := by
  rw [s.haltWith_grt]
  refine ⟨fun f => ?_, rfl⟩
  simp [passedToFs, Grt.allToFs, FnRecord.toFs]

theorem State.haltWith_capsKept (b : Bool) : capsKept s (s.haltWith b) :=
  ((s.leaveBench_capsKept b).trans (State.openSwitch_capsKept _)).trans ((s.haltBase b).commitGrants_capsKept _)

theorem State.haltWith_sameLine (b : Bool) : (s.leaveBench b).wch.sameLine (s.haltWith b).wch :=
  (State.openSwitch_sameLine _).trans ((s.haltBase b).commitGrants_sameLine _)

theorem State.haltWith_gear (b : Bool) : (s.haltWith b).drv.gear = (s.leaveBench b).drv.gear := by
  obtain ⟨i, h⟩ := (s.haltBase b).commitGrants_drv ((s.haltBase b).grt.allToFs (s.haltBase b).cfg)
  have hgear : (s.haltPassed b).drv.gear = (s.haltBase b).drv.gear := by rw [State.haltPassed, h]
  exact hgear.trans (State.openSwitch_gear _)

theorem State.haltWith_rest (b : Bool) (h : s.wch.atRest) : (s.haltWith b).wch.atRest :=
  (s.haltBase b).commitGrants_rest _ ((s.leaveBench b).openSwitch_rest (s.leaveBench_rest b h))

theorem State.haltWith_consumersOff (b : Bool) (h : s.prot.sw = .closed) : (s.haltWith b).consumersOff := by
  obtain ⟨ha, hpwm, hbrk, hservo, hlamp⟩ := (s.leaveBench b).openSwitch_consumersOff ((s.leaveBench_sw b).trans h)
  obtain ⟨i, hdrv⟩ := (s.haltBase b).commitGrants_drv ((s.haltBase b).grt.allToFs (s.haltBase b).cfg)
  unfold State.consumersOff
  simp only [State.haltWith_eq, State.withRsc_bgt, State.withRsc_drv, State.withRsc_str, State.withRsc_lgt, State.haltPassed,
    State.commitGrants_bgt, State.commitGrants_str, State.commitGrants_lgt, hdrv]
  exact ⟨ha, hpwm, hbrk, hservo, hlamp⟩

theorem State.allToFs_winch (g : Grt) (c : Settings) : ((g.allToFs c).fns.get .winch).holder ≠ .ap := by
  simp [Grt.allToFs, FnRecord.toFs]

/-- A HALT preempts (R113, R157). -/
theorem State.haltWith_preempted (b : Bool) (hq : s.queueOk) : preempted s (s.haltWith b) := by
  have hbase : (s.haltBase b).queueOk :=
    State.queueOk_congr (sameQueue_haltBase s b) (by simp [State.haltBase, State.holderOf]) hq
  have hp := (s.haltBase b).commitGrants_preempted _ hbase (State.allToFs_winch (s.haltBase b).grt (s.haltBase b).cfg)
  exact (hp.of_sameQueue (sameQueue_haltBase s b)).to_sameQueue ⟨rfl, rfl, rfl, rfl, rfl⟩ id

/-- A HALT leaves a queue in which no order is ACTIVE. -/
theorem sameQueue_haltWith (b : Bool) (ha : s.wch.active = none) : sameQueue s (s.haltWith b) := by
  have hbase := sameQueue_haltBase s b
  obtain ⟨hslots, -⟩ := id hbase
  have hpassed := (s.haltBase b).commitGrants_sameQueue ((s.haltBase b).grt.allToFs (s.haltBase b).cfg)
    ((Wch.active_congr hslots).trans ha)
  exact (hbase.trans hpassed).trans ⟨rfl, rfl, rfl, rfl, rfl⟩

/-- A HALT out of BENCH-WET restores the bench save (R171). -/
theorem State.haltWith_benchLeft {b : Bool} {sv : BenchSave} (hsave : s.rsc.save = some sv) (hrun : s.rsc.run ≠ .benchDry)
    (hlocked : b = true → s.prot.st = .lockout ∧ s.prot.cause = none ∧ s.prot.tripTime = none) :
    benchLeft s (s.haltWith b) sv b := by
  have hleft := s.leaveBench_wet (b := b) hsave hrun
  have hstanding := s.haltWith_standing b
  have hst : (s.haltWith b).prot.st = (s.standing.halted b).st := congrArg Standing.st hstanding
  have hcause : (s.haltWith b).prot.cause = (s.standing.halted b).cause := congrArg Standing.cause hstanding
  have htrip : (s.haltWith b).prot.tripTime = (s.standing.halted b).tripTime := congrArg Standing.tripTime hstanding
  obtain ⟨hdwell, hq, hlimit⟩ := s.haltWith_prot b
  obtain ⟨hline, hrefd, hdir, harm⟩ := s.haltWith_sameLine b
  have hpmon := s.haltWith_pmon b
  have hgear := s.haltWith_gear b
  rw [hleft] at hdwell hq hlimit hline hrefd hdir harm hpmon hgear
  have hsave' : s.standing.save = some sv := hsave
  refine ⟨s.haltWith_save b, harm, fun k => ?_, ?_, ?_, ?_, fun h => absurd h hrun, fun _ => ?_⟩
  · rw [hdwell]
    cases b <;> cases k <;> rfl
  · rintro rfl
    simp [hst, hcause, htrip, hq, hlimit, Standing.halted, Standing.left, hsave', State.restoreSave, Prot.restored]
  · rintro rfl
    obtain ⟨hs, hc, ht⟩ := hlocked rfl
    rw [hst, hcause, htrip, hq, hlimit]
    simp [Standing.halted, Standing.left, hsave, State.restoreSave, Prot.restored, State.standing, hs, hc, ht]
  · rw [hpmon]; rfl
  · exact ⟨hline, hrefd, hdir, hgear, by rw [hpmon]; rfl⟩

end

end Sys2Proof.Machine
end

section
/-! PROOFS. Entry to LOCKOUT meets the relation `lockedOut` of Safety.lean (R12, R38, R64, R99, R113, R156, R170, R171). -/

namespace Sys2Proof.Machine

/-! ### The standing after entry to LOCKOUT -/

theorem Standing.lockedOut_sw (a : Standing) : a.lockedOut.sw = if a.run = .benchDry then a.sw else .opened := by
  unfold Standing.lockedOut
  cases a.run <;> simp [Standing.halted]

theorem Standing.lockedOut_run (a : Standing) :
    a.lockedOut.run = if a.run = .arming ∨ a.run = .running ∨ a.run = .benchWet then .halted else a.run := by
  unfold Standing.lockedOut
  cases a.run <;> simp [Standing.halted]

theorem Standing.lockedOut_st (a : Standing) (h : a.save = none ∨ a.run = .benchDry ∨ a.run = .benchWet) :
    a.lockedOut.st = .lockout ∧ a.lockedOut.cause = none ∧ a.lockedOut.tripTime = none := by
  unfold Standing.lockedOut
  cases hr : a.run
  case halted | sleep | loading | benchDry => exact ⟨rfl, rfl, rfl⟩
  case arming | running =>
    have hsave : a.save = none := by simpa [hr] using h
    simp [Standing.halted, Standing.left, hsave]
  case benchWet => cases a.save <;> simp [Standing.halted, Standing.left]

section
variable (s : State)

/-! ### The protection state and the winch, before the run-state controller is told -/

/-- PROT in LOCKOUT (R12). -/
def Prot.locked (p : Prot) : Prot := { p with st := .lockout, cause := none, tripTime := none, dwell := noDwell }

theorem State.lockoutBegun_eq : s.lockoutBegun = (s.withProt s.prot.locked).winchStopped := rfl

@[simp] theorem State.winchStopped_prot : s.winchStopped.prot = s.prot := by simp [State.winchStopped]

@[simp] theorem State.lockoutBegun_prot : s.lockoutBegun.prot = s.prot.locked := by simp [State.lockoutBegun_eq]

@[simp] theorem State.lockoutBegun_rsc : s.lockoutBegun.rsc = s.rsc := by simp [State.lockoutBegun]

@[simp] theorem State.lockoutBegun_cfg : s.lockoutBegun.cfg = s.cfg := by simp [State.cfg]

theorem State.lockoutBegun_frame : unchangedBut [.prot, .grt, .drv, .wch, .acp] s s.lockoutBegun := by
  intro b hb
  cases b <;> simp at hb <;> simp [State.agree, State.lockoutBegun]

theorem State.lockoutBegun_rest : s.lockoutBegun.wch.atRest := State.winchStopped_rest _

theorem State.lockoutBegun_value : winchValueEnded s s.lockoutBegun := State.winchStopped_value (s.withProt s.prot.locked)

theorem State.lockoutBegun_drv : s.lockoutBegun.drv = { s.drv with interlock := s.drv.interlock && !s.wch.moving } :=
  State.winchStopped_drv (s.withProt s.prot.locked)

theorem State.lockoutBegun_sameLine : s.wch.sameLine s.lockoutBegun.wch := by
  rw [State.lockoutBegun_eq, State.winchStopped_wch]
  exact ⟨rfl, rfl, rfl, rfl⟩

theorem State.lockoutBegun_preempted (hq : s.queueOk) : preempted s s.lockoutBegun := by
  obtain ⟨-, -, -, hone, -⟩ := hq
  have hsame : sameQueue s (s.withProt s.prot.locked) := ⟨rfl, rfl, rfl, rfl, rfl⟩
  exact (State.winchStopped_preempted (s.withProt s.prot.locked) hone).of_sameQueue hsame

/-! ### What the run-state controller makes of it -/

theorem State.enterLockout_rest : s.enterLockout.wch.atRest := by
  have h := s.lockoutBegun_rest
  rw [State.enterLockout_eq]
  cases s.rsc.run
  case halted | sleep | loading => exact State.openSwitch_rest _ h
  case arming | running | benchWet => exact State.haltWith_rest _ _ h
  case benchDry => exact h

theorem State.enterLockout_preempted (hq : s.queueOk) : preempted s s.enterLockout := by
  have hp := s.lockoutBegun_preempted hq
  have hnone : s.lockoutBegun.wch.active = none := (Wch.active_eq_none_iff _).2 hp.1
  have hrest : s.enterLockout.wch.atRest := s.enterLockout_rest
  refine hp.to_sameQueue ?_ fun _ => hrest
  rw [State.enterLockout_eq]
  cases s.rsc.run
  case halted | sleep | loading => exact (sameQueue_openSwitch _).trans ⟨rfl, rfl, rfl, rfl, rfl⟩
  case arming | running | benchWet => exact sameQueue_haltWith _ _ hnone
  case benchDry => exact ⟨rfl, rfl, rfl, rfl, rfl⟩

theorem State.enterLockout_capsKept : capsKept s s.enterLockout := by
  have h : capsKept s s.lockoutBegun := capsKept_of_interlock s.lockoutBegun_drv
  rw [State.enterLockout_eq]
  cases s.rsc.run
  case halted | sleep | loading => exact h.trans (State.openSwitch_capsKept _)
  case arming | running | benchWet => exact h.trans (State.haltWith_capsKept _ _)
  case benchDry => exact h

/-- Off the bench, and on it, entry to LOCKOUT stops every dwell timer and keeps Q and LIMIT (R12, R171). -/
theorem State.enterLockout_prot (h : s.rsc.save = none ∨ s.rsc.run = .benchDry ∨ s.rsc.run = .benchWet) :
    s.enterLockout.prot.dwell = noDwell ∧ s.enterLockout.prot.q = s.prot.q ∧
      s.enterLockout.prot.limit = s.prot.limit := by
  have hopen := s.lockoutBegun.openSwitch_prot
  have hhalt (b : Bool) (hb : s.rsc.save = none ∨ b = true) :
      (s.lockoutBegun.haltWith b).prot.dwell = noDwell ∧ (s.lockoutBegun.haltWith b).prot.q = s.prot.q ∧
        (s.lockoutBegun.haltWith b).prot.limit = s.prot.limit := by
    obtain ⟨hdwell, hq, hlimit⟩ := s.lockoutBegun.haltWith_prot b
    rw [hdwell, hq, hlimit, State.leaveBench_prot, s.lockoutBegun_rsc, s.lockoutBegun_prot]
    rcases hb with hb | rfl
    · rw [hb]; exact ⟨rfl, rfl, rfl⟩
    · cases s.rsc.save <;> exact ⟨rfl, rfl, rfl⟩
  rw [State.enterLockout_eq]
  cases hrun : s.rsc.run
  case halted | sleep | loading =>
    obtain ⟨-, -, -, hdwell, hq, hlimit⟩ := hopen
    exact ⟨hdwell.trans (by simp [Prot.locked]), hq.trans (by simp [Prot.locked]), hlimit.trans (by simp [Prot.locked])⟩
  case arming | running => exact hhalt false (.inl (by simpa [hrun] using h))
  case benchWet => exact hhalt true (.inr rfl)
  case benchDry => simp [Prot.locked]

theorem State.enterLockout_consumersOff (hsw : s.prot.sw = .closed) (hrun : s.rsc.run ≠ .benchDry) :
    s.enterLockout.consumersOff := by
  have hsw' : s.lockoutBegun.prot.sw = .closed := by rw [s.lockoutBegun_prot]; exact hsw
  rw [State.enterLockout_eq]
  cases hr : s.rsc.run
  case halted | sleep | loading => exact State.openSwitch_consumersOff _ hsw'
  case arming | running | benchWet => exact State.haltWith_consumersOff _ _ hsw'
  case benchDry => exact absurd hr hrun

/-- Where the vehicle halts, every function passes to FS (R64). -/
theorem State.enterLockout_passed (hrun : s.rsc.run = .arming ∨ s.rsc.run = .running ∨ s.rsc.run = .benchWet) :
    (∀ f, passedToFs s.cfg f 0 (s.grt.fns.get f) (s.enterLockout.grt.fns.get f)) ∧
      s.enterLockout.grt = { s.grt with fns := s.enterLockout.grt.fns } := by
  have hhalt (b : Bool) :
      (∀ f, passedToFs s.cfg f 0 (s.grt.fns.get f) ((s.lockoutBegun.haltWith b).grt.fns.get f)) ∧
        (s.lockoutBegun.haltWith b).grt = { s.grt with fns := (s.lockoutBegun.haltWith b).grt.fns } := by
    obtain ⟨hpass, hgrt⟩ := s.lockoutBegun.haltWith_passed b
    obtain ⟨hfns, hkept⟩ := s.lockoutBegun_value
    refine ⟨fun f => ?_, by rw [hgrt, hkept]⟩
    obtain ⟨hh, hv, hl, hs, hre⟩ := hpass f
    rw [s.lockoutBegun_cfg] at hre
    refine ⟨hh, hv, hl, ?_, hre⟩
    rw [hs, hfns f]
    split <;> rfl
  rw [State.enterLockout_eq]
  rcases hrun with hr | hr | hr <;> rw [hr] <;> exact hhalt _

/-- Elsewhere the grant table keeps all but the WINCH value of an order that ends (R105). -/
theorem State.enterLockout_value (h1 : s.rsc.run ≠ .arming) (h2 : s.rsc.run ≠ .running) (h3 : s.rsc.run ≠ .benchWet) :
    winchValueEnded s s.enterLockout := by
  have h := s.lockoutBegun_value
  have hopen : s.lockoutBegun.lockoutParked.grt = s.lockoutBegun.grt := s.lockoutBegun.openSwitch_grt
  rw [State.enterLockout_eq]
  cases hr : s.rsc.run
  case halted | sleep | loading =>
    unfold winchValueEnded at h ⊢
    rw [hopen]
    exact h
  case benchDry => exact h
  case arming => exact absurd hr h1
  case running => exact absurd hr h2
  case benchWet => exact absurd hr h3

/-- A BENCH-WET is left by entry to LOCKOUT (R171). -/
theorem State.enterLockout_benchLeft {sv : BenchSave} (hsave : s.rsc.save = some sv) (hrun : s.rsc.run = .benchWet) :
    benchLeft s s.enterLockout sv true := by
  have hrun' : s.rsc.run ≠ .benchDry := by simp [hrun]
  have hpmon : s.lockoutBegun.pmon = s.pmon := s.lockoutBegun_frame .pmon (by simp)
  have hgear : s.lockoutBegun.drv.gear = s.drv.gear := by rw [s.lockoutBegun_drv]
  obtain ⟨hline, hrefd, hdir, -⟩ := s.lockoutBegun_sameLine
  have h : benchLeft s.lockoutBegun (s.lockoutBegun.haltWith true) sv true :=
    State.haltWith_benchLeft _ (by simpa using hsave) (by simpa using hrun') fun _ => by simp [Prot.locked]
  rw [State.enterLockout_eq, hrun]
  unfold benchLeft at h ⊢
  rw [hpmon, hgear, hline, hrefd, hdir, s.lockoutBegun_prot, s.lockoutBegun_rsc] at h
  obtain ⟨h1, h2, h3, h4, h5, h6, -, h8⟩ := h
  exact ⟨h1, h2, h3, h4, h5, h6, fun hd => absurd hd hrun', h8⟩

theorem State.enterLockout_frame :
    unchangedBut [.pmon, .prot, .bgt, .grt, .drv, .str, .wch, .lgt, .acp, .rsc] s s.enterLockout := by
  intro b hb
  cases b <;> simp at hb <;> simp [State.agree]

/-- In BENCH-DRY the computed drive stops and the trial A and grants go; the rest of the bench goes on (R170, log 18). -/
theorem State.enterLockout_dry (hrun : s.rsc.run = .benchDry) :
    s.enterLockout =
      (s.lockoutBegun.withBgt s.lockoutBegun.bgt.trialCleared).withDrv (s.lockoutBegun.drv.stopped false none) := by
  rw [State.enterLockout_eq, hrun]

theorem State.enterLockout_st (h : s.rsc.save = none ∨ s.rsc.run = .benchDry ∨ s.rsc.run = .benchWet) :
    s.enterLockout.prot.st = .lockout ∧ s.enterLockout.prot.cause = none ∧ s.enterLockout.prot.tripTime = none := by
  have hstanding := s.enterLockout_standing
  obtain ⟨hst, hcause, htrip⟩ := s.standing.lockedOut_st h
  exact ⟨(congrArg Standing.st hstanding).trans hst, (congrArg Standing.cause hstanding).trans hcause,
    (congrArg Standing.tripTime hstanding).trans htrip⟩

/-- Entry to LOCKOUT leaves what the relation of Safety.lean says. -/
theorem lockedOut_enterLockout : lockedOut s s.enterLockout.settle := by
  obtain ⟨hduty, hmoving, hpwm⟩ := s.enterLockout_rest
  refine ⟨fun h => ?locked, ?sw, ?run, fun h1 h2 => s.enterLockout_consumersOff h1 h2, fun h => ?dry,
    fun sv h1 h2 => s.enterLockout_benchLeft h1 h2, hduty, hmoving, hpwm, fun hq => ?preempted, s.enterLockout_capsKept,
    fun h => s.enterLockout_passed h, fun h1 h2 h3 => s.enterLockout_value h1 h2 h3, ?frame⟩
  case locked =>
    obtain ⟨hst, hcause, htrip⟩ := s.enterLockout_st h
    obtain ⟨hdwell, hq, hlimit⟩ := s.enterLockout_prot h
    refine ⟨hst, hcause, htrip, fun k => ?_, hq, hlimit, ?_⟩
    · rw [State.settle_prot, hdwell]
      cases k <;> rfl
    · simp [State.faultActive, hst]
  case sw => exact (congrArg Standing.sw s.enterLockout_standing).trans s.standing.lockedOut_sw
  case run => exact (congrArg Standing.run s.enterLockout_standing).trans s.standing.lockedOut_run
  case dry =>
    have hbgt : s.lockoutBegun.bgt = s.bgt := s.lockoutBegun_frame .bgt (by simp)
    have hpmon : s.lockoutBegun.pmon = s.pmon := s.lockoutBegun_frame .pmon (by simp)
    have hstr : s.lockoutBegun.str = s.str := s.lockoutBegun_frame .str (by simp)
    have hlgt : s.lockoutBegun.lgt = s.lgt := s.lockoutBegun_frame .lgt (by simp)
    have hgear : s.lockoutBegun.drv.gear = s.drv.gear := by rw [s.lockoutBegun_drv]
    have hsave : s.lockoutBegun.rsc.save = s.rsc.save := by rw [s.lockoutBegun_rsc]
    rw [s.enterLockout_dry h]
    simp only [State.settle_drv, State.settle_bgt, State.settle_pmon, State.settle_str, State.settle_lgt, State.settle_rsc,
      State.withDrv_drv, State.withDrv_bgt, State.withDrv_pmon, State.withDrv_str, State.withDrv_lgt, State.withDrv_rsc,
      State.withBgt_bgt, State.withBgt_pmon, State.withBgt_str, State.withBgt_lgt, State.withBgt_rsc, hbgt]
    refine ⟨rfl, rfl, rfl, rfl, rfl, hgear, fun r hr => ?_, fun k => by cases k <;> rfl, rfl, hsave, hpmon, hstr, hlgt⟩
    rw [Bgt.trialCleared, hr]
    rfl
  case preempted => exact (s.enterLockout_preempted hq).to_sameQueue ⟨rfl, rfl, rfl, rfl, rfl⟩ id
  case frame => exact s.enterLockout_frame.settle (by simp) (by simp) (by simp)

/-! ### Moved in the clock and the lines alone -/

theorem lockedOut_of_moved {v t : State} (hv : unchangedBut [.now, .lines] s v) (h : lockedOut v t) : lockedOut s t := by
  rw [eq_of_unchangedBut_now_lines hv] at h
  obtain ⟨h1, h2, h3, h4, h5, h6, h7, h8, h9, h10, h11, h12, h13, hframe⟩ := h
  refine ⟨h1, h2, h3, h4, h5, h6, h7, h8, h9, h10, h11, h12, h13, ?_⟩
  intro b hb
  have hm := hframe b hb
  cases b <;> first | exact hm | exact absurd (by simp) hb

end

end Sys2Proof.Machine
end

section
/-! PROOFS. The dwell timers judged (R7, R11), the transitions they take, and O53: the completion of each of them. -/

namespace Sys2Proof.Machine

section
variable {s : State} {v : Int}

/-! ### What a timer's judgement says -/

/-- The hold of R11 after a hard trip. -/
theorem tripHeld_iff (cause : Option CutCause) (trip : Option Nat) (now : Nat) :
    (cause ≠ some .hardTrip ∨ trip.all (fun t => t + tripHold ≤ now) = true) ↔
      (cause = some .hardTrip → ∀ t, trip = some t → t + 1000 * msec ≤ now) := by
  rw [Option.all_eq_true, imp_iff_not_or]
  exact or_congr_right (forall₂_congr fun t _ => decide_eq_true_iff)

/-- A timer runs and its condition holds, as Safety.lean reads the table of R7. -/
theorem State.dwellJudged_iff (hv : s.pmon.vmin = some v) (k : Dwell) :
    (k.runsIn s.prot.st && s.dwellHolds k) = true ↔ s.dwellTrue v s.pmon.tapFault s.now k := by
  simp only [State.dwellHolds, hv]
  cases k <;>
    simp only [Dwell.runsIn, State.dwellTrue, Bool.and_eq_true, Bool.or_eq_true, beq_iff_eq, bne_iff_ne, decide_eq_true_eq]
  case rearm => rw [tripHeld_iff, and_assoc, and_assoc]
  case warnExit => simp

theorem State.dwellStart_iff (hv : s.pmon.vmin = some v) (k : Dwell) (start : Nat) :
    s.dwellStart k = some start ↔ s.dwellTrue v s.pmon.tapFault s.now k ∧ s.prot.dwell.get k = some start := by
  rw [State.dwellStart, ← State.dwellJudged_iff hv k]
  split
  next h => simp [h]
  next h => simp [h]

/-- A timer is due at this publication exactly where Safety.lean says so. -/
theorem State.dwellDone_iff (hv : s.pmon.vmin = some v) (k : Dwell) :
    s.dwellDone k = true ↔ s.dwellTrue v s.pmon.tapFault s.now k ∧ s.dwellRun s.now k := by
  simp only [State.dwellDone, Option.any_eq_true, State.dwellStart_iff hv, State.dwellRun, decide_eq_true_eq]
  constructor
  · rintro ⟨start, ⟨htrue, hstart⟩, hrun⟩
    exact ⟨htrue, start, hstart, hrun⟩
  · rintro ⟨htrue, start, hstart, hrun⟩
    exact ⟨start, ⟨htrue, hstart⟩, hrun⟩

theorem State.dwellsAfter_get (hv : s.pmon.vmin = some v) (k : Dwell) :
    (s.dwellTrue v s.pmon.tapFault s.now k → s.dwellsAfter.get k = some ((s.prot.dwell.get k).getD s.now)) ∧
      (¬s.dwellTrue v s.pmon.tapFault s.now k → s.dwellsAfter.get k = none) := by
  rw [← State.dwellJudged_iff hv k, State.dwellsAfter, PerDwell.get_build]
  exact ⟨fun h => if_pos h, fun h => if_neg h⟩

/-! ### The transition taken, by what is due (R7) -/

variable {done : Dwell → Bool} {tap : Bool}

theorem State.protTransition_crit (h : done .crit = true) : s.protTransition done tap = s.enterLockout := by
  simp [State.protTransition, h]

theorem State.protTransition_cut (h1 : ¬done .crit = true) (h2 : done .cut = true) :
    s.protTransition done tap = s.enterCutoff .lowVolt := by
  simp [State.protTransition, h1, h2]

theorem State.protTransition_warn (h1 : ¬done .crit = true) (h2 : ¬done .cut = true)
    (h3 : done .warnEntry = true ∨ done .rearm = true ∨ (tap = true ∧ s.prot.st = .normal)) :
    s.protTransition done tap = s.enterWarn := by
  have h : (done .warnEntry || done .rearm || (tap && s.prot.st == .normal)) = true := by
    simpa [or_assoc] using h3
  simp [State.protTransition, h1, h2, h]

theorem State.protTransition_mild (h1 : ¬done .crit = true) (h2 : ¬done .cut = true)
    (h3 : ¬(done .warnEntry = true ∨ done .rearm = true ∨ (tap = true ∧ s.prot.st = .normal))) :
    s.protTransition done tap = if done .warnExit then s.enterNormal else s := by
  have h : ¬(done .warnEntry || done .rearm || (tap && s.prot.st == .normal)) = true := by
    simpa [or_assoc] using h3
  simp only [State.protTransition, if_neg h1, if_neg h2, if_neg h]

theorem State.protTransition_now : (s.protTransition done tap).now = s.now := by
  unfold State.protTransition
  (repeat' split) <;> first | exact State.enterLockout_now _ | exact State.enterCutoff_now _ _ | rfl

/-- PROT with the cut and the crit timer going on, in WARN (R8, R11) or in NORMAL (R8). -/
def Prot.warned (p : Prot) : Prot :=
  { p with
    st := .warn, cause := none, tripTime := none
    dwell := { warnEntry := none, warnExit := none, cut := p.dwell.cut, crit := p.dwell.crit, rearm := none } }

def Prot.calmed (p : Prot) : Prot :=
  { p with
    st := .normal
    dwell := { warnEntry := none, warnExit := none, cut := p.dwell.cut, crit := p.dwell.crit, rearm := none } }

theorem State.enterWarn_eq : s.enterWarn = s.withProt s.prot.warned := rfl

theorem State.enterNormal_eq : s.enterNormal = s.withProt s.prot.calmed := rfl

/-! ### O53 -/

theorem completeDwell_completed {k : Dwell} {start : Nat} (hv : s.pmon.vmin = some v)
    (hstart : s.dwellStart k = some start) : dwellCompleted s (s.completeDwell k).settle v k start := by
  have hnamed := s.dwellDone_of_start k start hstart
  rw [s.completeDwell_some k start hstart]
  dsimp only
  generalize hs1 : s.reach (start + k.length s.cfg * msec) = s1 at hnamed ⊢
  have hmoved : unchangedBut [.now, .lines] s s1 := hs1 ▸ unchangedBut_reach s _
  have hnow : s1.now = max s.now (start + k.length s.cfg * msec) := hs1 ▸ rfl
  have hprot : s1.prot = s.prot := hs1 ▸ rfl
  have hdue (j : Dwell) : s.dwellTrue v s.pmon.tapFault s1.now j ∧ s.dwellRun s1.now j ↔ s1.dwellDone j = true := by
    have hv1 : s1.pmon.vmin = some v := hs1 ▸ hv
    rw [State.dwellDone_iff hv1, ← hs1]
    exact Iff.rfl
  have hchanges (p : Prot) : changesOnly [.now, .prot] s (s1.withProt p).settle := by
    rw [← hs1]
    refine changesOnly_settle ?_ rfl rfl
    intro b hb _ _
    cases b <;> first | rfl | exact absurd (by simp) hb
  unfold dwellCompleted
  dsimp only
  rw [State.settle_now, State.protTransition_now]
  simp only [hdue]
  refine ⟨hnow, fun h => ?crit, fun h1 h2 => ?cut, fun h1 h2 h3 => ?warn, fun h1 h2 h3 => ?normal⟩
  case crit =>
    rw [State.protTransition_crit h]
    exact lockedOut_of_moved s hmoved (lockedOut_enterLockout s1)
  case cut =>
    rw [State.protTransition_cut h1 h2]
    exact ⟨cutOff_of_moved s hmoved (cutOff_enterCutoff s1 .lowVolt), by simp [State.faultActive]⟩
  case warn =>
    rw [State.protTransition_warn h1 h2 (h3.imp id .inl), State.enterWarn_eq, hprot]
    exact ⟨rfl, by simp [State.faultActive, Prot.warned], hchanges _⟩
  case normal =>
    have hexit : s1.dwellDone .warnExit = true := by
      cases k
      case warnExit => exact hnamed
      case warnEntry => exact absurd (.inl hnamed) h3
      case rearm => exact absurd (.inr hnamed) h3
      case cut => exact absurd hnamed h2
      case crit => exact absurd hnamed h1
    rw [State.protTransition_mild h1 h2 (by simpa using h3), if_pos hexit, State.enterNormal_eq, hprot]
    exact ⟨rfl, hchanges _⟩

end

/-- Settles O53: a timer that runs completes at the end of its dwell, and the most severe transition due there is
taken (`completeDwell_completed`). -/
theorem dwellTimersComplete : Obligations.DwellTimersComplete := by
  intro s start v hv
  have hrow (k : Dwell) (hget : s.prot.dwell.get k = some start) (htrue : s.dwellTrue v s.pmon.tapFault s.now k) :
      dwellCompleted s (s.completeDwell k).settle v k start :=
    completeDwell_completed hv ((State.dwellStart_iff hv k start).2 ⟨htrue, hget⟩)
  exact ⟨fun h1 h2 => ⟨_, rfl, hrow .warnEntry h1 h2⟩, fun h1 h2 => ⟨_, rfl, hrow .warnExit h1 h2⟩,
    fun h1 h2 => ⟨_, rfl, hrow .cut h1 h2⟩, fun h1 h2 => ⟨_, rfl, hrow .crit h1 h2⟩,
    fun h1 h2 => ⟨_, rfl, hrow .rearm h1 h2⟩⟩

end Sys2Proof.Machine
end

section
/-! PROOFS. O54 and O55: the over-current line and the end of a precharge. -/

namespace Sys2Proof.Machine

section
variable (s : State)

/-! ### A hard trip, by the protection state (R10) -/

theorem State.hardTrip_driving (h : s.prot.st = .normal ∨ s.prot.st = .warn) : s.hardTrip = s.enterCutoff .hardTrip := by
  unfold State.hardTrip
  rcases h with h | h <;> rw [h]

/-- PROT after a hard trip in CUTOFF of another cause (R10). -/
def Prot.tripped (p : Prot) (now : Nat) : Prot :=
  { p with cause := some .hardTrip, tripTime := some now, dwell := { p.dwell with rearm := none } }

theorem State.hardTrip_cutoff (h : s.prot.st = .cutoff) (hc : s.prot.cause ≠ some .hardTrip) :
    s.hardTrip = s.withProt (s.prot.tripped s.now) := by
  unfold State.hardTrip
  rw [h]
  exact if_neg (by simpa using hc)

theorem State.hardTrip_again (h : s.prot.st = .cutoff) (hc : s.prot.cause = some .hardTrip) :
    s.hardTrip = s.enterLockout := by
  unfold State.hardTrip
  rw [h]
  exact if_pos (by simp [hc])

/-! ### A precharge that fails (R18, R19) -/

/-- A precharge in flight ended with the switch OPEN (R18, R19). -/
def State.prechargeOver (s : State) : State := s.withProt { s.prot with sw := .opened, prechargeEnd := none }

theorem State.abortPrecharge_eq :
    s.abortPrecharge = ((s.prechargeOver.raise .hardTrip).raise .prechargeFail).prechargeFailed := rfl

theorem State.failPrecharge_eq : s.failPrecharge = (s.prechargeOver.raise .prechargeFail).prechargeFailed := rfl

theorem State.haltWith_prechargeEnd (b : Bool) (h : s.prot.prechargeEnd = none) :
    (s.haltWith b).prot.prechargeEnd = none := by
  have hleave : (s.leaveBench b).prot.prechargeEnd = none := by
    rw [s.leaveBench_prot]
    cases s.rsc.save with
    | none => exact h
    | some sv => cases b <;> exact h
  have hopen : (s.haltBase b).prot.prechargeEnd = none := by
    unfold State.haltBase State.openSwitch
    split
    · rfl
    · rfl
    · exact hleave
  simpa [State.haltWith_eq, State.haltPassed] using hopen

theorem State.haltWith_latched (b : Bool) (e : FaultEntry) : (s.haltWith b).faultLatched e = s.faultLatched e := by
  have hacp : (s.haltBase b).acp = s.acp := by simp [State.haltBase]
  unfold State.faultLatched
  rw [State.haltWith_eq, State.withRsc_acp, State.haltPassed, State.commitGrants_acp, hacp]

theorem State.prechargeFailed_wet (h : s.rsc.run = .benchWet) : s.prechargeFailed = s.haltWith false :=
  if_pos (by simp [h])

theorem State.prechargeFailed_other (h : s.rsc.run ≠ .benchWet) :
    s.prechargeFailed = s.withRsc { s.rsc with startInFlight := false } :=
  if_neg (by simpa using h)

theorem State.prechargeFailed_latched (e : FaultEntry) : s.prechargeFailed.faultLatched e = s.faultLatched e := by
  by_cases h : s.rsc.run = .benchWet
  · rw [s.prechargeFailed_wet h, State.haltWith_latched]
  · rw [s.prechargeFailed_other h]
    rfl

/-- What the failure of a precharge leaves, from `s` to `t`: no switch, no start in flight, and BENCH-WET left. -/
def prechargeFailedTo (s t : State) : Prop :=
  t.prot.sw = .opened ∧ t.prot.prechargeEnd = none ∧ t.rsc.startInFlight = false ∧
    (s.rsc.run = .benchWet → t.rsc.run = .halted ∧ (s.queueOk → preempted s t) ∧
      ∀ sv, s.rsc.save = some sv → benchLeft s t sv false) ∧
    (s.rsc.run ≠ .benchWet → t.rsc.run = s.rsc.run ∧ t.prot.st = s.prot.st ∧
      unchangedBut [.now, .lines, .prot, .acp, .rsc] s t)

/-- From `s` to `u` a precharge in flight has ended and at most the clock, the lines and the latched faults moved. -/
def prechargeOverFrom (s u : State) : Prop :=
  u.prot = { s.prot with sw := .opened, prechargeEnd := none } ∧ u.rsc = s.rsc ∧ u.acp.orderDone = s.acp.orderDone ∧
    unchangedBut [.now, .lines, .prot, .acp] s u

theorem prechargeFailedTo_of_over {s u : State} (h : prechargeOverFrom s u) :
    prechargeFailedTo s u.prechargeFailed.settle := by
  obtain ⟨hprot, hrsc, hdone, hframe⟩ := h
  have hwch : u.wch = s.wch := hframe .wch (by simp)
  have hgrt : u.grt = s.grt := hframe .grt (by simp)
  have hpmon : u.pmon = s.pmon := hframe .pmon (by simp)
  have hdrv : u.drv = s.drv := hframe .drv (by simp)
  have hsame : sameQueue s u := by unfold sameQueue; rw [hwch, hdone]; exact ⟨rfl, rfl, rfl, rfl, rfl⟩
  have hrun : u.rsc.run = s.rsc.run := by rw [hrsc]
  by_cases hwet : s.rsc.run = .benchWet
  · have hq (hq : s.queueOk) : u.queueOk := State.queueOk_congr hsame (by simp [State.holderOf, hgrt]) hq
    obtain ⟨hhalted, hsw, hflight, -⟩ := u.haltWith_spec false
    rw [u.prechargeFailed_wet (hrun.trans hwet)]
    refine ⟨hsw, u.haltWith_prechargeEnd false (by rw [hprot]), hflight, fun _ => ⟨hhalted, fun h => ?_, fun sv hsv => ?_⟩,
      fun h => absurd hwet h⟩
    · exact ((u.haltWith_preempted false (hq h)).of_sameQueue hsame).to_sameQueue ⟨rfl, rfl, rfl, rfl, rfl⟩ id
    · have hleft : benchLeft u (u.haltWith false) sv false :=
        u.haltWith_benchLeft (by rw [hrsc, hsv]) (by simp [hrsc, hwet]) nofun
      unfold benchLeft at hleft ⊢
      rw [hpmon, hwch, hdrv, hrsc, hprot] at hleft
      exact hleft
  · rw [u.prechargeFailed_other (by rwa [hrun])]
    refine ⟨by simp [hprot], by simp [hprot], rfl, fun h => absurd h hwet, fun _ => ⟨hrun, by simp [hprot], ?_⟩⟩
    exact (hframe.append (unchangedBut_withRsc u _)).settle (by simp) (by simp) (by simp)

/-- A frame with one block less, where the states agree on that block. -/
theorem unchangedBut.without {l l' : List Block} {s t : State} (b : Block) (h : unchangedBut l s t) (hb : s.agree t b)
    (hl : l ⊆ b :: l') : unchangedBut l' s t := by
  intro c hc
  by_cases e : c = b
  · exact e ▸ hb
  · exact h c fun hm => (List.mem_cons.1 (hl hm)).elim e hc

/-! ### O54 -/

theorem changesOnly_lines (x : Lines) : changesOnly [.lines] s (s.withLines x).settle := by
  refine changesOnly_settle ?_ rfl rfl
  intro b hb _ _
  cases b <;> first | rfl | exact absurd (by simp) hb

end

section
variable {s : State}

theorem execOcTripAssert_counted (ho : s.lines.ocTrip = false) (hc : s.countedClosed = true) :
    exec .ocTripAssert s = .next (s.withLines { s.lines with ocTrip := true }).hardTrip.settle := by
  simp [exec, execOcTripAssert, ho, hc, completed]

theorem execOcTripAssert_precharging (ho : s.lines.ocTrip = false) (hc : s.countedClosed = false)
    (hsw : s.prot.sw = .precharging) :
    exec .ocTripAssert s = .next (s.withLines { s.lines with ocTrip := true }).abortPrecharge.settle := by
  simp [exec, execOcTripAssert, ho, hc, hsw, completed]

theorem execOcTripAssert_open (ho : s.lines.ocTrip = false) (hc : s.countedClosed = false) (hsw : s.prot.sw ≠ .precharging) :
    exec .ocTripAssert s = .next (s.withLines { s.lines with ocTrip := true }).settle := by
  simp [exec, execOcTripAssert, ho, hc, hsw, completed]

theorem execOcTripAssert_asserted (ho : s.lines.ocTrip = true) : exec .ocTripAssert s = .next s.settle := by
  simp [exec, execOcTripAssert, ho, completed]

end

/-- Settles O54: each branch of the comparator's line, by the protection state of `hardTrip` and by the failure of a
precharge in flight. -/
theorem overCurrentTrips : Obligations.OverCurrentTrips := by
  intro s
  generalize hl : ({ s.lines with ocTrip := true } : Lines) = l
  generalize hs1 : s.withLines l = s1
  have hmoved : unchangedBut [.now, .lines] s s1 := hs1 ▸ unchangedBut_withLines s l
  have hlines : s1.lines = l := hs1 ▸ rfl
  have hnow : s1.now = s.now := hs1 ▸ rfl
  have hprot : s1.prot = s.prot := hs1 ▸ rfl
  refine ⟨fun ho hc => ?counted, fun ho hc hsw => ?precharging, fun ho hc hsw => ?other, fun ho => ?asserted, ?released⟩
  case counted =>
    rw [execOcTripAssert_counted ho hc, hl, hs1]
    refine ⟨fun hst => ⟨_, rfl, ?_⟩, fun hst hcause => ⟨_, rfl, ?_⟩, fun hst hcause => ⟨_, rfl, ?_⟩, fun hst => ⟨_, rfl, ?_⟩⟩
    · rw [s1.hardTrip_driving (by rwa [hprot])]
      refine ⟨?_, by simp [hnow], by simp [hlines], by simp [State.faultActive]⟩
      rw [← hnow]
      exact cutOff_of_moved s hmoved (cutOff_enterCutoff s1 .hardTrip)
    · rw [s1.hardTrip_cutoff (by rwa [hprot]) (by rwa [hprot]), hprot, hnow]
      refine ⟨rfl, by simp [hlines], by simp [State.faultActive, Prot.tripped, hst], ?_⟩
      rw [← hs1]
      refine changesOnly_settle ?_ rfl rfl
      intro b hb _ _
      cases b <;> first | rfl | exact absurd (by simp) hb
    · rw [s1.hardTrip_again (by rwa [hprot]) (by rwa [hprot])]
      exact ⟨lockedOut_of_moved s hmoved (lockedOut_enterLockout s1), by simp [hlines], by simp [hnow]⟩
    · rw [s1.hardTrip_locked (by rwa [hprot]), ← hs1]
      exact ⟨rfl, changesOnly_lines s l⟩
  case precharging =>
    rw [execOcTripAssert_precharging ho hc hsw, hl, hs1, State.abortPrecharge_eq]
    have hover : prechargeOverFrom s ((s1.prechargeOver.raise .hardTrip).raise .prechargeFail) := by
      rw [← hs1]
      refine ⟨rfl, rfl, rfl, ?_⟩
      intro b hb
      cases b <;> first | rfl | exact absurd (by simp) hb
    obtain ⟨hopen, hend, hflight, hwet, hdry⟩ := prechargeFailedTo_of_over hover
    refine ⟨_, rfl, hopen, hend, ?_, ?_, hflight, hwet, fun hrun => ?_⟩
    · simp [State.prechargeFailed_latched]
    · simp [State.prechargeFailed_latched]
    · obtain ⟨hr, hst, hframe⟩ := hdry hrun
      exact ⟨hr, hst, hframe.without .now (by simp [State.agree, hnow, State.prechargeOver]) (by simp)⟩
  case other =>
    rw [execOcTripAssert_open ho hc hsw, hl]
    exact ⟨_, rfl, rfl, changesOnly_lines s l⟩
  case asserted =>
    rw [execOcTripAssert_asserted ho]
    exact ⟨_, rfl, changesOnly_settle (fun b _ _ _ => by cases b <;> rfl) rfl rfl⟩
  case released => exact ⟨_, rfl, rfl, changesOnly_lines s _⟩

end Sys2Proof.Machine
end

section
/-! PROOFS. O55: the end of a precharge. -/

namespace Sys2Proof.Machine

/-- Entry to LOCKOUT begins no start. -/
theorem Standing.lockedOut_inFlight (a : Standing) (h : a.inFlight = false) : a.lockedOut.inFlight = false := by
  unfold Standing.lockedOut
  cases a.run <;> simp [Standing.halted, h]

section
variable {s : State}

theorem execPrechargeExpiry_charged {due : Nat} (hsw : s.prot.sw = .precharging) (hend : s.prot.prechargeEnd = some due)
    (hc : s.railCharged = true) : exec .prechargeExpiry s = .next (s.reach due).closeSwitch.settle := by
  have hc' : (s.reach due).railCharged = true := hc
  simp [exec, execPrechargeExpiry, hsw, hend, hc', completed]

theorem execPrechargeExpiry_uncharged {due : Nat} (hsw : s.prot.sw = .precharging) (hend : s.prot.prechargeEnd = some due)
    (hc : s.railCharged = false) : exec .prechargeExpiry s = .next (s.reach due).failPrecharge.settle := by
  have hc' : (s.reach due).railCharged = false := hc
  simp [exec, execPrechargeExpiry, hsw, hend, hc', completed]

theorem State.railCharged_of {rail pack : Int} (hr : s.published .railVoltage = some rail)
    (hp : s.published .packVoltage = some pack) (h : pack * 9 ≤ rail * 10) : s.railCharged = true := by
  simp [State.railCharged, hr, hp, h]

theorem State.railCharged_false (h : s.published .railVoltage = none ∨ s.published .packVoltage = none ∨
    (s.published .railVoltage).getD 0 * 10 < (s.published .packVoltage).getD 0 * 9) : s.railCharged = false := by
  unfold State.railCharged
  cases hr : s.published .railVoltage with
  | none => rfl
  | some rail =>
    cases hp : s.published .packVoltage with
    | none => rfl
    | some pack => simpa [hr, hp] using h

/-! ### The switch closes (R18, R159) -/

/-- The switch closed, the run-state controller told (R159). -/
def State.switchClosed (s : State) : State :=
  (s.withProt { s.prot with sw := .closed, prechargeEnd := none }).prechargeSucceeded

theorem State.closeSwitch_eq :
    s.closeSwitch = if s.lines.ocTrip then s.switchClosed.hardTrip else s.switchClosed := rfl

theorem State.switchClosed_frame : unchangedBut [.prot, .rsc] s s.switchClosed := by
  intro b hb
  unfold State.switchClosed State.prechargeSucceeded
  split <;> cases b <;> first | rfl | exact absurd (by simp) hb

theorem State.switchClosed_prot : s.switchClosed.prot = { s.prot with sw := .closed, prechargeEnd := none } := by
  unfold State.switchClosed State.prechargeSucceeded
  split <;> rfl

theorem State.switchClosed_started (h : s.rsc.startInFlight = true) :
    s.switchClosed = (s.withProt { s.prot with sw := .closed, prechargeEnd := none }).enterArming := if_pos h

theorem State.switchClosed_unstarted (h : s.rsc.startInFlight = false) :
    s.switchClosed = s.withProt { s.prot with sw := .closed, prechargeEnd := none } := if_neg (by simp [h])

theorem State.switchClosed_run : s.switchClosed.rsc.run = if s.rsc.startInFlight then .arming else s.rsc.run := by
  cases h : s.rsc.startInFlight with
  | true => rw [State.switchClosed_started h]; rfl
  | false => rw [State.switchClosed_unstarted h]; rfl

theorem State.switchClosed_flight : s.switchClosed.rsc.startInFlight = false := by
  cases h : s.rsc.startInFlight with
  | true => rw [State.switchClosed_started h]; rfl
  | false => rw [State.switchClosed_unstarted h]; exact h

theorem State.switchClosed_save : s.switchClosed.rsc.save = s.rsc.save := by
  unfold State.switchClosed State.prechargeSucceeded
  split <;> rfl

theorem State.switchClosed_sameQueue : sameQueue s s.switchClosed := by
  have hwch : s.switchClosed.wch = s.wch := State.switchClosed_frame .wch (by simp)
  have hacp : s.switchClosed.acp = s.acp := State.switchClosed_frame .acp (by simp)
  unfold sameQueue
  rw [hwch, hacp]
  exact ⟨rfl, rfl, rfl, rfl, rfl⟩

theorem State.switchClosed_queueOk (hq : s.queueOk) : s.switchClosed.queueOk := by
  have hgrt : s.switchClosed.grt = s.grt := State.switchClosed_frame .grt (by simp)
  exact State.queueOk_congr State.switchClosed_sameQueue (by simp [State.holderOf, hgrt]) hq

/-- The closing of a switch with the over-current line asserted, in a state in which that is a first trip (R10). -/
theorem State.hardTrip_first (h : s.prot.st = .normal ∨ s.prot.st = .warn ∨
      (s.prot.st = .cutoff ∧ s.prot.cause ≠ some .hardTrip)) :
    s.hardTrip.prot.sw = s.prot.sw ∧ s.hardTrip.prot.prechargeEnd = s.prot.prechargeEnd ∧ s.hardTrip.prot.st = .cutoff ∧
      s.hardTrip.prot.cause = some .hardTrip ∧ s.hardTrip.prot.tripTime = some s.now ∧ s.hardTrip.rsc = s.rsc := by
  rcases h with h | h | ⟨h, hc⟩
  · rw [s.hardTrip_driving (.inl h)]; simp
  · rw [s.hardTrip_driving (.inr h)]; simp
  · rw [s.hardTrip_cutoff h hc]; simp [Prot.tripped, h]

end

/-- Settles O55: the switch closes, closes into a hard trip, or the precharge fails. -/
theorem prechargeExpires : Obligations.PrechargeExpires := by
  intro s due hsw hend
  generalize hs1 : s.reach due = s1
  have hclosed : sameQueue s s1.switchClosed := hs1 ▸ sameQueue.trans ⟨rfl, rfl, rfl, rfl, rfl⟩ State.switchClosed_sameQueue
  have hclosedOk (hq : s.queueOk) : s1.switchClosed.queueOk := State.switchClosed_queueOk (hs1 ▸ hq)
  have hnow : s1.now = max s.now due := hs1 ▸ rfl
  have hprot : s1.prot = s.prot := hs1 ▸ rfl
  have hrsc : s1.rsc = s.rsc := hs1 ▸ rfl
  have hlines : s1.lines = s.lines := hs1 ▸ rfl
  have hmoved : unchangedBut [.now, .lines] s s1 := hs1 ▸ unchangedBut_reach s due
  have hframe : unchangedBut [.prot, .rsc] s1 s1.switchClosed := State.switchClosed_frame
  refine ⟨fun rail hr pack hp h ho => ?closes, fun rail hr pack hp h ho => ?trips, fun h => ?fails⟩
  case closes =>
    rw [execPrechargeExpiry_charged hsw hend (State.railCharged_of hr hp h), State.closeSwitch_eq, hs1, hlines, ho]
    refine ⟨_, rfl, ?now, ?prot, fun hf => ?started, fun hf => ?unstarted, ?acp, ?frame⟩
    case now => exact (hframe .now (by simp)).trans hnow
    case prot => exact State.switchClosed_prot.trans (by rw [hprot])
    case started =>
      rw [State.switchClosed_started (by rwa [hrsc]), ← hs1]
      exact ⟨rfl, rfl, if_congr beq_iff_eq rfl rfl⟩
    case unstarted =>
      rw [State.switchClosed_unstarted (by rwa [hrsc]), State.settle_rsc,
        State.idleAfter_eq_idleUntil (s := s) (by simp [hrsc])]
      simp [hrsc]
    case acp =>
      have hacp : s1.switchClosed.acp = s.acp := (hframe .acp (by simp)).trans (hs1 ▸ rfl)
      simp [acpSettled, State.settle_acp, hacp]
    case frame =>
      have hlined : s.agree s1.switchClosed .lines := (hframe .lines (by simp)).trans hlines
      exact ((hmoved.append hframe).without (l' := [.now, .prot, .rsc]) .lines hlined (by simp)).settle (by simp) (by simp)
        (by simp)
  case trips =>
    rw [execPrechargeExpiry_charged hsw hend (State.railCharged_of hr hp h), State.closeSwitch_eq, hs1, hlines, ho]
    refine ⟨_, rfl, ?now, fun hfirst => ?first, fun hst hcause ⟨hrun, hsave⟩ hf => ?again⟩
    case now => exact (State.hardTrip_now _).trans ((hframe .now (by simp)).trans hnow)
    case first =>
      have hfirst' : s1.switchClosed.prot.st = .normal ∨ s1.switchClosed.prot.st = .warn ∨
          (s1.switchClosed.prot.st = .cutoff ∧ s1.switchClosed.prot.cause ≠ some .hardTrip) := by
        rwa [State.switchClosed_prot, hprot]
      obtain ⟨hsw', hend', hst', hcause', htrip', hrsc'⟩ := State.hardTrip_first hfirst'
      refine ⟨hsw'.trans (by rw [State.switchClosed_prot]), hend'.trans (by rw [State.switchClosed_prot]), hst', hcause',
        htrip'.trans (by simp), by simp [State.faultActive, hst', hcause'], ?_, fun hne hq => ?_, ?_⟩
      · exact (congrArg Rsc.startInFlight hrsc').trans State.switchClosed_flight
      · have hdriving : s1.switchClosed.prot.st = .normal ∨ s1.switchClosed.prot.st = .warn := by
          rcases hfirst' with h | h | ⟨h, -⟩
          · exact .inl h
          · exact .inr h
          · rw [State.switchClosed_prot, hprot] at h
            exact absurd h hne
        obtain ⟨-, -, -, -, -, -, hpre, -⟩ := cutOff_enterCutoff s1.switchClosed .hardTrip
        rw [State.hardTrip_driving _ hdriving]
        exact (hpre (hclosedOk hq)).of_sameQueue hclosed
      · exact (congrArg Rsc.run hrsc').trans (State.switchClosed_run.trans (by rw [hrsc]))
    case again =>
      have hagain : s1.switchClosed.hardTrip = s1.switchClosed.enterLockout :=
        State.hardTrip_again _ (by rwa [State.switchClosed_prot, hprot]) (by rwa [State.switchClosed_prot, hprot])
      have hsave' : s1.switchClosed.rsc.save = none := State.switchClosed_save.trans (by rw [hrsc, hsave])
      have hrun' : s1.switchClosed.rsc.run = .arming := by rw [State.switchClosed_run, hrsc, hf]; rfl
      rw [hagain]
      obtain ⟨hlock, hopen, hhalted, -, -, -, -, -, -, hpre, -⟩ := lockedOut_enterLockout s1.switchClosed
      obtain ⟨hst', hcause', -, -, -, -, hlatched⟩ := hlock (.inl hsave')
      refine ⟨hopen.trans (by simp [hrun']), hst', hcause', hlatched, hhalted.trans (by simp [hrun']), ?_, fun hq => ?_⟩
      · have hflight := congrArg Standing.inFlight s1.switchClosed.enterLockout_standing
        exact hflight.trans (Standing.lockedOut_inFlight _ State.switchClosed_flight)
      · exact (hpre (hclosedOk hq)).of_sameQueue hclosed
  case fails =>
    rw [execPrechargeExpiry_uncharged hsw hend (State.railCharged_false h), State.failPrecharge_eq, hs1]
    have hover : prechargeOverFrom s (s1.prechargeOver.raise .prechargeFail) := by
      rw [← hs1]
      refine ⟨rfl, rfl, rfl, ?_⟩
      intro b hb
      cases b <;> first | rfl | exact absurd (by simp) hb
    obtain ⟨hopen, hnone, hflight, hwet, hother⟩ := prechargeFailedTo_of_over hover
    refine ⟨_, rfl, by simp [hnow, State.prechargeOver], hopen, hnone, hflight, by simp [State.prechargeFailed_latched], hwet,
      fun hrun => ?_⟩
    obtain ⟨hr, hst, hframe⟩ := hother hrun
    exact ⟨hr, hst, hframe.without .lines (by simp [State.agree, hlines, State.prechargeOver]) (by simp)⟩

end Sys2Proof.Machine
end

section
/-! PROOFS. The pack monitor under a sample set, and O52: the protection state at it. -/

namespace Sys2Proof.Machine

/-! ### What the protection controller leaves of the pack monitor -/

/-- The pack monitor is the same from `s` to `t` but for its two bands, and wholly the same where no bench is left. -/
def monitorKept (s t : State) : Prop :=
  (∃ pack motor, t.pmon = { s.pmon with packBand := pack, motorBand := motor }) ∧
    (s.rsc.save = none ∨ t.rsc.run = s.rsc.run → t.pmon = s.pmon)

theorem monitorKept_of_eq {s t : State} (h : t.pmon = s.pmon) : monitorKept s t :=
  ⟨⟨s.pmon.packBand, s.pmon.motorBand, h⟩, fun _ => h⟩

section
variable (s : State)

theorem State.haltWith_monitorKept (b : Bool) (h1 : s.rsc.run ≠ .halted) (h2 : s.rsc.run ≠ .benchDry) :
    monitorKept s (s.haltWith b) := by
  have hrun : (s.haltWith b).rsc.run = .halted := (s.haltWith_spec b).1
  unfold monitorKept
  rw [s.haltWith_pmon, s.leaveBench_pmon, hrun]
  refine ⟨⟨_, _, by rw [if_neg (by simp [h2])]⟩, ?_⟩
  rintro (h | h)
  · simp [h]
  · exact absurd h.symm h1

theorem State.enterLockout_monitorKept : monitorKept s s.enterLockout := by
  have hpmon : s.lockoutBegun.pmon = s.pmon := s.lockoutBegun_frame .pmon (by simp)
  have hhalt (b : Bool) (h1 : s.rsc.run ≠ .halted) (h2 : s.rsc.run ≠ .benchDry) :
      monitorKept s (s.lockoutBegun.haltWith b) := by
    have h := s.lockoutBegun.haltWith_monitorKept b (by simpa using h1) (by simpa using h2)
    unfold monitorKept at h ⊢
    rwa [hpmon, s.lockoutBegun_rsc] at h
  rw [State.enterLockout_eq]
  cases hr : s.rsc.run
  case halted | sleep | loading => exact monitorKept_of_eq (s.lockoutBegun.openSwitch_pmon.trans hpmon)
  case arming | running | benchWet => exact hhalt _ (by simp [hr]) (by simp [hr])
  case benchDry => exact monitorKept_of_eq hpmon

theorem State.protTransition_monitorKept (done : Dwell → Bool) (tap : Bool) : monitorKept s (s.protTransition done tap) := by
  unfold State.protTransition
  split
  · exact s.enterLockout_monitorKept
  split
  · exact monitorKept_of_eq (s.enterCutoff_pmon _)
  split
  · exact monitorKept_of_eq rfl
  split <;> exact monitorKept_of_eq rfl

/-- PROT with its timers evaluated at a publication of Vmin, and a new interval of R11 begun (R7, R11). -/
def State.timed (s : State) : State :=
  s.withProt { s.prot with dwell := s.dwellsAfter, throttleRested := s.valueOf .throttle == 0 }

theorem State.protSample_eq (publishes tap : Bool) :
    s.protSample publishes tap =
      if publishes then s.timed.protTransition s.dwellDone tap else s.protTransition (fun _ => false) tap := rfl

theorem State.protSample_monitorKept (publishes tap : Bool) : monitorKept s (s.protSample publishes tap) := by
  rw [State.protSample_eq]
  split
  · have h : monitorKept s.timed (s.timed.protTransition s.dwellDone tap) := s.timed.protTransition_monitorKept _ _
    exact h
  · exact s.protTransition_monitorKept _ _

theorem State.protSample_now (publishes tap : Bool) : (s.protSample publishes tap).now = s.now := by
  rw [State.protSample_eq]
  split
  · exact State.protTransition_now
  · exact State.protTransition_now

end

/-! ### The pack monitor's own part -/

/-- The channels decide what is derived from the taps. -/
theorem Pmon.derived_congr {p p' : Pmon} (h : p'.chan = p.chan) (c : Settings) : p'.derived c = p.derived c := by
  unfold Pmon.derived Pmon.taps
  rw [h]

theorem Pmon.deriveCells_chan (p : Pmon) (c : Settings) : (p.deriveCells c).chan = p.chan := by
  unfold Pmon.deriveCells
  split <;> rfl

/-- Cells, TAP fault and Vmin, by whether the taps are ready (R3, R4). -/
theorem Pmon.deriveCells_spec (p : Pmon) (c : Settings) :
    (∀ cells bad v, p.derived c = some (cells, bad, v) →
      (p.deriveCells c).cells = cells ∧ (p.deriveCells c).tapFault = bad ∧
        (p.deriveCells c).vmin = v.orElse fun _ => p.vmin) ∧
    (p.derived c = none → p.deriveCells c = p) := by
  unfold Pmon.deriveCells
  constructor
  · rintro cells bad v h
    rw [h]
    exact ⟨rfl, rfl, rfl⟩
  · intro h
    rw [h]

section
variable (s : State)

/-- The state of a sample set before the protection controller judges it. -/
def State.monitored (s : State) (raw : PerQuantity Int) : State := (s.reach s.pmon.nextSample).monitorSample raw

/-- The state of a sample set after the protection controller has judged it. -/
def State.sampledSet (s : State) (raw : PerQuantity Int) : State :=
  (s.monitored raw).protSample ((s.monitored raw).pmon.publishesVmin (s.monitored raw).cfg)
    ((s.monitored raw).pmon.taps.isSome && (s.monitored raw).pmon.tapFault)

theorem exec_sampleSet (raw : PerQuantity Int) : exec (.sampleSet raw) s = .next (s.sampledSet raw).settle := rfl

theorem State.sampledSet_monitorKept (raw : PerQuantity Int) : monitorKept (s.monitored raw) (s.sampledSet raw) :=
  State.protSample_monitorKept _ _ _

theorem State.sampledSet_published (raw : PerQuantity Int) (q : Quantity) :
    (s.sampledSet raw).settle.published q = (s.monitored raw).published q := by
  obtain ⟨⟨pack, motor, h⟩, -⟩ := s.sampledSet_monitorKept raw
  unfold State.published
  rw [State.settle_pmon, h]

/-- What a sample set derives from the taps, cells, TAP fault and Vmin; what stays while they are not ready (R3, R4). -/
theorem State.monitored_derived (raw : PerQuantity Int) :
    (∀ cells bad v, (s.monitored raw).pmon.derived s.cfg = some (cells, bad, v) →
      (s.monitored raw).pmon.cells = cells ∧ (s.monitored raw).pmon.tapFault = bad ∧
        (s.monitored raw).pmon.vmin = v.orElse fun _ => s.pmon.vmin) ∧
    ((s.monitored raw).pmon.derived s.cfg = none →
      (s.monitored raw).pmon.cells = s.pmon.cells ∧ (s.monitored raw).pmon.tapFault = s.pmon.tapFault ∧
        (s.monitored raw).pmon.vmin = s.pmon.vmin) := by
  have hderived : (s.monitored raw).pmon.derived s.cfg = (s.pmon.takeSamples s.rsc.cal raw).derived s.cfg :=
    Pmon.derived_congr (Pmon.deriveCells_chan _ _) s.cfg
  rw [hderived]
  obtain ⟨hsome, hnone⟩ := (s.pmon.takeSamples s.rsc.cal raw).deriveCells_spec s.cfg
  refine ⟨hsome, fun h => ?_⟩
  have hcells : (s.monitored raw).pmon.cells = ((s.pmon.takeSamples s.rsc.cal raw).deriveCells s.cfg).cells ∧
      (s.monitored raw).pmon.tapFault = ((s.pmon.takeSamples s.rsc.cal raw).deriveCells s.cfg).tapFault ∧
      (s.monitored raw).pmon.vmin = ((s.pmon.takeSamples s.rsc.cal raw).deriveCells s.cfg).vmin := ⟨rfl, rfl, rfl⟩
  rw [hnone h] at hcells
  exact hcells

end

/-- The taps of a pack monitor, when all four are ready. -/
theorem Pmon.taps_eq (p : Pmon) {a b c d : Int} (h1 : (p.chan.get .tap1).published = some a)
    (h2 : (p.chan.get .tap2).published = some b) (h3 : (p.chan.get .tap3).published = some c)
    (h4 : (p.chan.get .tap4).published = some d) : p.taps = some [a, b, c, d] := by
  have h1 : p.chan.tap1.published = some a := h1
  have h2 : p.chan.tap2.published = some b := h2
  have h3 : p.chan.tap3.published = some c := h3
  have h4 : p.chan.tap4.published = some d := h4
  simp [Pmon.taps, h1, h2, h3, h4]

theorem Pmon.taps_isSome_iff (p : Pmon) :
    p.taps.isSome = true ↔ (p.chan.get .tap1).published ≠ none ∧ (p.chan.get .tap2).published ≠ none ∧
      (p.chan.get .tap3).published ≠ none ∧ (p.chan.get .tap4).published ≠ none := by
  simp only [PerQuantity.get, Pmon.taps]
  cases p.chan.tap1.published <;> cases p.chan.tap2.published <;> cases p.chan.tap3.published <;>
    cases p.chan.tap4.published <;> simp

theorem Pmon.taps_shape (p : Pmon) {taps : List Int} (h : p.taps = some taps) : ∃ a b c d, taps = [a, b, c, d] := by
  unfold Pmon.taps at h
  split at h
  · exact ⟨_, _, _, _, (Option.some.inj h).symm⟩
  · exact nomatch h

theorem Pmon.derived_some (p : Pmon) (c : Settings) {taps : List Int} (h : p.taps = some taps) :
    p.derived c =
      some ((cellsFrom 0 taps).take c.cells, ((cellsFrom 0 taps).take c.cells).any cellBad,
        vminOf ((cellsFrom 0 taps).take c.cells) (((cellsFrom 0 taps).take c.cells).any cellBad)
          p.chan.packVoltage.published c.cells) := by
  rw [Pmon.derived, h]
  rfl

theorem lowestCell_isSome (l : List Int) : (lowestCell l).isSome = !l.isEmpty := by
  cases l <;> rfl

/-- A sample set publishes a Vmin where the taps are ready, and the cells or, with the TAP fault, the pack voltage (R3). -/
theorem State.monitored_publishes (s : State) (raw : PerQuantity Int) :
    (s.monitored raw).pmon.publishesVmin s.cfg = true ↔
      (s.monitored raw).pmon.taps.isSome = true ∧
        (((s.monitored raw).pmon.tapFault = false ∧ 0 < s.cfg.cells) ∨
          ((s.monitored raw).pmon.tapFault = true ∧ (s.monitored raw).published .packVoltage ≠ none)) := by
  obtain ⟨hsome, -⟩ := s.monitored_derived raw
  generalize s.monitored raw = m at hsome ⊢
  cases htaps : m.pmon.taps with
  | none => simp [Pmon.publishesVmin, Pmon.derived, htaps]
  | some taps =>
    obtain ⟨a, b, c, d, rfl⟩ := m.pmon.taps_shape htaps
    have hd := m.pmon.derived_some s.cfg htaps
    obtain ⟨-, hbad, -⟩ := hsome _ _ _ hd
    have hpack : m.published .packVoltage = m.pmon.chan.packVoltage.published := rfl
    have hcells : ((cellsFrom 0 [a, b, c, d]).take s.cfg.cells).isEmpty = decide (s.cfg.cells = 0) := by
      cases s.cfg.cells <;> rfl
    rw [Pmon.publishesVmin, hd, hbad, hpack]
    simp only [Option.any_some, vminOf]
    cases ((cellsFrom 0 [a, b, c, d]).take s.cfg.cells).any cellBad with
    | false => simp [lowestCell_isSome, hcells, Nat.pos_iff_ne_zero]
    | true => simp [Option.isSome_iff_ne_none]

/-! ### O52 -/

theorem State.enterCutoff_rest (s : State) (cause : CutCause) : (s.enterCutoff cause).wch.atRest :=
  State.winchStopped_rest _

/-- Entry to LOCKOUT or CUTOFF by a dwell timer stops the winch and preempts (R99, R113). -/
theorem State.protTransition_stops (s : State) {done : Dwell → Bool} {tap : Bool}
    (h : done .crit = true ∨ done .cut = true) :
    (s.protTransition done tap).wch.atRest ∧ (s.queueOk → preempted s (s.protTransition done tap).settle) := by
  by_cases hcrit : done .crit = true
  · rw [State.protTransition_crit hcrit]
    exact ⟨s.enterLockout_rest, fun hq => (s.enterLockout_preempted hq).to_sameQueue ⟨rfl, rfl, rfl, rfl, rfl⟩ id⟩
  · obtain ⟨-, -, -, -, -, -, hpre, -⟩ := cutOff_enterCutoff s .lowVolt
    rw [State.protTransition_cut hcrit (h.resolve_left hcrit)]
    exact ⟨s.enterCutoff_rest .lowVolt, hpre⟩

/-- What the statement reads of the state after a sample set, in the state the protection controller judges. -/
theorem State.sampledSet_reads (s : State) (raw : PerQuantity Int) :
    (s.sampledSet raw).settle.pmon.tapFault = (s.monitored raw).pmon.tapFault ∧
      (s.sampledSet raw).settle.pmon.vmin = (s.monitored raw).pmon.vmin ∧
      (s.sampledSet raw).settle.now = (s.monitored raw).now := by
  obtain ⟨⟨pack, motor, h⟩, -⟩ := s.sampledSet_monitorKept raw
  refine ⟨?_, ?_, State.protSample_now _ _ _⟩
  · rw [State.settle_pmon, h]
  · rw [State.settle_pmon, h]

/-- A frame of a sample set after which only PROT moves. -/
theorem State.monitored_changesOnly (s : State) (raw : PerQuantity Int) (x : Prot) :
    changesOnly [.now, .pmon, .prot] s ((s.monitored raw).withProt x).settle := by
  refine changesOnly_settle ?_ rfl rfl
  intro b hb _ _
  cases b <;> first | rfl | exact absurd (by simp) hb

/-- Settles O52: at a published Vmin the timers are evaluated and the transition due is taken, elsewhere the TAP fault alone
moves the protection state. -/
theorem protectionFollowsVmin : Obligations.ProtectionFollowsVmin := by
  intro s raw
  refine ⟨_, exec_sampleSet s raw, ?_⟩
  have hpub := s.monitored_publishes raw
  have hready := (s.monitored raw).pmon.taps_isSome_iff
  obtain ⟨htap, hvmin, hnow⟩ := s.sampledSet_reads raw
  have hset : s.sampledSet raw = (s.monitored raw).protSample ((s.monitored raw).pmon.publishesVmin s.cfg)
    ((s.monitored raw).pmon.taps.isSome && (s.monitored raw).pmon.tapFault) := rfl
  dsimp only
  simp only [s.sampledSet_published raw, htap, hvmin, hnow]
  simp only [State.published] at hpub ⊢
  rw [← hready, ← hpub]
  generalize hb : ((s.monitored raw).pmon.taps.isSome && (s.monitored raw).pmon.tapFault) = seen at hset
  refine ⟨fun v hv hp => ?published, fun hp => ?unpublished⟩
  case published =>
    have hdue (k : Dwell) : s.dwellTrue v (s.monitored raw).pmon.tapFault (s.monitored raw).now k ∧
        s.dwellRun (s.monitored raw).now k ↔ (s.monitored raw).dwellDone k = true := by
      rw [State.dwellDone_iff hv]
      exact Iff.rfl
    have htimed (k : Dwell) : (s.dwellTrue v (s.monitored raw).pmon.tapFault (s.monitored raw).now k →
          (s.monitored raw).timed.prot.dwell.get k = some ((s.prot.dwell.get k).getD (s.monitored raw).now)) ∧
        (¬s.dwellTrue v (s.monitored raw).pmon.tapFault (s.monitored raw).now k →
          (s.monitored raw).timed.prot.dwell.get k = none) := State.dwellsAfter_get hv k
    have hseen : (s.monitored raw).pmon.tapFault = true ∧ s.prot.st = .normal ↔
        seen = true ∧ (s.monitored raw).timed.prot.st = .normal := by
      rw [← hb, (hpub.1 hp).1]
      exact Iff.rfl
    have hsame : sameQueue s (s.monitored raw).timed := ⟨rfl, rfl, rfl, rfl, rfl⟩
    simp only [hdue, hseen]
    rw [hset, hp, State.protSample_eq, if_pos rfl]
    refine ⟨fun h hbench => ?lockout, fun h => ?stops, fun h1 h2 => ?cutoff, fun h1 h2 h3 => ?warn,
      fun h1 h2 h3 h4 => ?normal, fun h1 h2 h3 h4 => ?stays⟩
    case lockout =>
      rw [State.protTransition_crit h]
      exact ((s.monitored raw).timed.enterLockout_st hbench).1
    case stops =>
      obtain ⟨⟨hduty, hmoving, hpwm⟩, hpre⟩ :=
        (s.monitored raw).timed.protTransition_stops (done := (s.monitored raw).dwellDone) (tap := seen) h
      exact ⟨hduty, hmoving, hpwm, fun hq => (hpre hq).of_sameQueue hsame⟩
    case cutoff =>
      rw [State.protTransition_cut h1 h2, State.settle_prot, State.enterCutoff_prot]
      exact ⟨rfl, rfl, rfl, rfl, htimed .crit, rfl⟩
    case warn =>
      rw [State.protTransition_warn h1 h2 h3, State.enterWarn_eq]
      exact ⟨rfl, rfl, rfl, htimed .cut, htimed .crit, rfl, State.monitored_changesOnly s raw _⟩
    case normal =>
      rw [State.protTransition_mild h1 h2 h3, if_pos h4, State.enterNormal_eq]
      exact ⟨rfl, htimed .cut, htimed .crit, rfl, State.monitored_changesOnly s raw _⟩
    case stays =>
      rw [State.protTransition_mild h1 h2 h3, if_neg h4]
      exact ⟨htimed, rfl, State.monitored_changesOnly s raw _⟩
  case unpublished =>
    rw [hset, Bool.eq_false_iff.2 hp, State.protSample_eq, if_neg nofun]
    by_cases hwarn : seen = true ∧ s.prot.st = .normal
    · have hwarns : (s.monitored raw).protTransition (fun _ => false) seen = (s.monitored raw).enterWarn :=
        State.protTransition_warn Bool.false_ne_true Bool.false_ne_true (.inr (.inr hwarn))
      rw [hwarns, State.enterWarn_eq]
      refine ⟨fun _ _ _ => rfl, fun h => ?_, State.monitored_changesOnly s raw _⟩
      rw [← hb, Bool.and_eq_true] at hwarn
      obtain ⟨⟨htaps, hfault⟩, hst⟩ := hwarn
      rcases h with h | h | h
      · exact absurd htaps h
      · exact absurd (hfault.symm.trans h) nofun
      · exact absurd hst h
    · have hstays : (s.monitored raw).protTransition (fun _ => false) seen = s.monitored raw :=
        State.protTransition_mild Bool.false_ne_true Bool.false_ne_true fun h =>
          hwarn ((h.resolve_left Bool.false_ne_true).resolve_left Bool.false_ne_true)
      rw [hstays]
      refine ⟨fun h1 h2 h3 => ?_, fun _ => rfl, ?_⟩
      · exact absurd ⟨by rw [← hb, h1, h2]; rfl, h3⟩ hwarn
      · exact State.monitored_changesOnly s raw (s.monitored raw).prot

end Sys2Proof.Machine
end

section
/-! PROOFS. O51: what a sample set does to the windows, the means, the cells, Vmin and the bands. -/

namespace Sys2Proof.Machine

/-! ### Windows and means (R1, R2) -/

theorem clampInt_mem {lo hi : Int} (h : lo ≤ hi) (x : Int) : lo ≤ clampInt lo hi x ∧ clampInt lo hi x ≤ hi := by
  unfold clampInt
  omega

theorem Quantity.range_le (q : Quantity) : q.range.1 ≤ q.range.2 := by cases q <;> decide

theorem joinWindow_short {depth : Nat} {w : List Int} (h : w.length < depth) (x : Int) :
    joinWindow depth w x = w ++ [x] := by
  rw [joinWindow, if_pos h]

theorem joinWindow_full {depth : Nat} {w : List Int} (h : w.length = depth) (x : Int) :
    joinWindow depth w x = w.drop 1 ++ [x] := by
  rw [joinWindow, if_neg (by omega), h, Nat.add_sub_cancel_left]

/-- One quantity's sample set, case by case (R1, R2, R168, R171). -/
theorem Channel.sampled_spec (c : Channel) (depth : Nat) (y : Int) :
    (c.substituted = true → (c.sampled depth y).window = c.window) ∧
    (c.substituted = false →
      (c.refill = true → (c.sampled depth y).window = List.replicate depth y) ∧
      (c.refill = false → c.window.length < depth → (c.sampled depth y).window = c.window ++ [y]) ∧
      (c.refill = false → c.window.length = depth → (c.sampled depth y).window = c.window.drop 1 ++ [y])) ∧
    ((c.sampled depth y).window.length = depth →
      (c.sampled depth y).published = some ((c.sampled depth y).window.sum.tdiv depth)) ∧
    ((c.sampled depth y).window.length ≠ depth → (c.sampled depth y).published = c.published) := by
  refine ⟨fun hs => if_pos hs, fun hs => ⟨fun hr => ?_, fun hr hlen => ?_, fun hr hlen => ?_⟩, fun h => ?_, fun h => ?_⟩
  · simp [Channel.sampled, Channel.windowAfter, hs, hr]
  · simp [Channel.sampled, Channel.windowAfter, hs, hr, joinWindow_short hlen]
  · simp [Channel.sampled, Channel.windowAfter, hs, hr, joinWindow_full hlen]
  · exact if_pos (beq_iff_eq.2 h)
  · exact if_neg (mt beq_iff_eq.1 h)

/-! ### Cells and Vmin (R3, R4) -/

theorem cellBad_iff (v : Int) : cellBad v = true ↔ v < 1000 ∨ 4600 < v := by
  simp [cellBad]

theorem lowestCell_spec {l : List Int} (h : l ≠ []) : ∃ m, lowestCell l = some m ∧ m ∈ l ∧ ∀ v ∈ l, m ≤ v := by
  have hmin : lowestCell l = l.min? := by cases l <;> rfl
  obtain ⟨m, hm⟩ := Option.ne_none_iff_exists'.1 (mt List.min?_eq_none_iff.1 h)
  exact ⟨m, hmin.trans hm, List.min?_eq_some_iff.1 hm⟩

theorem cellsFrom_zero (a b c d : Int) : cellsFrom 0 [a, b, c, d] = [a, b - a, c - b, d - c] := by
  simp [cellsFrom]

/-! ### Thermal bands (R5, R6) -/

/-- The highest band that satisfies a predicate, or none of them. -/
theorem highestBand_spec (p : Nat → Bool) :
    highestBand p < 4 ∧ (highestBand p = 0 ∨ p (highestBand p) = true) ∧
      ∀ k, 1 ≤ k → k ≤ 3 → p k = true → k ≤ highestBand p := by
  have hmax (k : Nat) (h1 : 1 ≤ k) (h3 : k ≤ 3) (hk : p k = true) : k ≤ highestBand p := by
    unfold highestBand
    interval_cases k <;> simp only [hk, if_true] <;> (repeat' split) <;> decide
  refine ⟨?_, ?_, hmax⟩
  · unfold highestBand
    (repeat' split) <;> decide
  · unfold highestBand
    split
    · exact .inr ‹_›
    split
    · exact .inr ‹_›
    split
    · exact .inr ‹_›
    · exact .inl rfl

/-- The band machine of R6 moves as Safety.lean says. -/
theorem bandAfter_follows (T : Nat → Int) (h temp : Int) (b : Nat) : bandFollows T h temp b (bandAfter T h b temp) := by
  unfold bandAfter
  by_cases hup : b < 3 ∧ T (b + 1) + h ≤ temp
  case pos =>
    obtain ⟨hlt, hin, hmax⟩ := highestBand_spec fun k => b < k && T k + h ≤ temp
    rw [if_pos (by simpa using hup)]
    generalize highestBand _ = b' at hlt hin hmax ⊢
    simp only [Bool.and_eq_true, decide_eq_true_eq] at hin hmax
    refine ⟨fun _ => ?_, fun hn => absurd hup hn, fun hn => absurd hup hn⟩
    have hnext : b + 1 ≤ b' := hmax (b + 1) (by omega) (by omega) ⟨by omega, hup.2⟩
    obtain ⟨-, hreached⟩ := hin.resolve_left (by omega)
    refine ⟨hnext, by omega, hreached, fun h2 hb => hmax 2 (by omega) (by omega) ⟨hb, h2⟩, fun h3 => ?_⟩
    have := hmax 3 (by omega) (by omega) ⟨hup.1, h3⟩
    omega
  case neg =>
    rw [if_neg (by simpa using hup)]
    refine ⟨fun hp => absurd hp hup, fun _ hdown => ?_, fun _ hstay => if_neg (by simpa using hstay)⟩
    obtain ⟨hlt, hin, hmax⟩ := highestBand_spec fun k => k < b && T k ≤ temp
    rw [if_pos (by simpa using hdown)]
    generalize highestBand _ = b' at hlt hin hmax ⊢
    simp only [Bool.and_eq_true, decide_eq_true_eq] at hin hmax
    refine ⟨?_, hlt, hin.imp id And.right, fun h1 hb => hmax 1 (by omega) (by omega) ⟨hb, h1⟩,
      fun h2 hb => hmax 2 (by omega) (by omega) ⟨hb, h2⟩, fun h3 hb => ?_⟩
    · rcases hin with rfl | ⟨hb, -⟩
      · exact hdown.1
      · exact hb
    · have := hmax 3 (by omega) (by omega) ⟨hb, h3⟩
      omega

theorem sensorBad_eq (t : Int) : sensorBad t = decide (t < -40 ∨ 150 < t) := by
  simp [sensorBad]

theorem Pmon.deriveCells_bands (p : Pmon) (c : Settings) :
    (p.deriveCells c).packSensor = p.packSensor ∧ (p.deriveCells c).packBand = p.packBand ∧
      (p.deriveCells c).motorSensor = p.motorSensor ∧ (p.deriveCells c).motorBand = p.motorBand := by
  unfold Pmon.deriveCells
  split <;> exact ⟨rfl, rfl, rfl, rfl⟩

/-- The two sensor faults and bands after a sample set; each stays while its temperature is not ready (R5, R6). -/
theorem State.monitored_bands (s : State) (raw : PerQuantity Int) :
    (s.monitored raw).pmon.packSensor = ((s.monitored raw).published .packTemp).elim s.pmon.packSensor sensorBad ∧
    (s.monitored raw).pmon.packBand =
      ((s.monitored raw).published .packTemp).elim s.pmon.packBand (bandOf s.cfg.ptThreshold s.cfg.ptHys s.pmon.packBand) ∧
    (s.monitored raw).pmon.motorSensor = ((s.monitored raw).published .motorTemp).elim s.pmon.motorSensor sensorBad ∧
    (s.monitored raw).pmon.motorBand =
      ((s.monitored raw).published .motorTemp).elim s.pmon.motorBand
        (bandOf s.cfg.mtThreshold s.cfg.mtHys s.pmon.motorBand) := by
  obtain ⟨h1, h2, h3, h4⟩ := (s.pmon.takeSamples s.rsc.cal raw).deriveCells_bands s.cfg
  exact ⟨congrArg (Option.elim _ · _) h1,
    congrArg (fun b => ((s.monitored raw).published .packTemp).elim b (bandOf s.cfg.ptThreshold s.cfg.ptHys b)) h2,
    congrArg (Option.elim _ · _) h3,
    congrArg (fun b => ((s.monitored raw).published .motorTemp).elim b (bandOf s.cfg.mtThreshold s.cfg.mtHys b)) h4⟩

/-- What the statement says of one sensor fault and its band, from those before to those after (R5, R6). -/
theorem bandOf_published {T : Nat → Int} {h temp : Int} {bad bad' : Bool} {b b' : Nat} {o : Option Int}
    (hbad : bad' = o.elim bad sensorBad) (hb : b' = o.elim b (bandOf T h b)) (ho : o = some temp) :
    bad' = decide (temp < -40 ∨ 150 < temp) ∧ (bad' = true → b' = 3) ∧ (bad' = false → bandFollows T h temp b b') := by
  subst ho
  have hs : bad' = sensorBad temp := hbad
  have hband : b' = if sensorBad temp then 3 else bandAfter T h b temp := hb
  rw [← hs] at hband
  refine ⟨hs.trans (sensorBad_eq temp), fun ht => by rw [hband, if_pos ht], fun hf => ?_⟩
  rw [hband, hf]
  exact bandAfter_follows T h temp b

/-! ### O51 -/

/-- What is derived where all four taps are ready (R3, R4). -/
theorem State.monitored_ready (s : State) (raw : PerQuantity Int) {a b c d : Int}
    (htaps : (s.monitored raw).pmon.taps = some [a, b, c, d]) :
    (s.monitored raw).pmon.cells = [a, b - a, c - b, d - c].take s.cfg.cells ∧
    ((s.monitored raw).pmon.tapFault = true ↔ ∃ v ∈ (s.monitored raw).pmon.cells, v < 1000 ∨ 4600 < v) ∧
    ((s.monitored raw).pmon.tapFault = false → 0 < s.cfg.cells →
      ∃ m : Int, (s.monitored raw).pmon.vmin = some m ∧ m ∈ (s.monitored raw).pmon.cells ∧
        ∀ v ∈ (s.monitored raw).pmon.cells, m ≤ v) ∧
    (∀ v : Int, (s.monitored raw).published .packVoltage = some v → (s.monitored raw).pmon.tapFault = true →
      (s.monitored raw).pmon.vmin = some (v.fdiv s.cfg.cells)) ∧
    ((s.monitored raw).published .packVoltage = none → (s.monitored raw).pmon.tapFault = true →
      (s.monitored raw).pmon.vmin = s.pmon.vmin) := by
  obtain ⟨hcells, hbad, hvmin⟩ := (s.monitored_derived raw).1 _ _ _ (Pmon.derived_some _ s.cfg htaps)
  have hpack : (s.monitored raw).pmon.chan.packVoltage.published = (s.monitored raw).published .packVoltage := rfl
  rw [← hbad, ← hcells, hpack] at hvmin
  rw [← hcells] at hbad
  rw [cellsFrom_zero] at hcells
  refine ⟨hcells, ?fault, fun hf hpos => ?lowest, fun v hv hf => ?pack, fun hv hf => ?stale⟩
  case fault => simp only [hbad, List.any_eq_true, cellBad_iff]
  case lowest =>
    have hne : (s.monitored raw).pmon.cells ≠ [] := by
      rw [hcells]
      cases h : s.cfg.cells with
      | zero => omega
      | succ n => simp
    obtain ⟨m, hm, hmem, hle⟩ := lowestCell_spec hne
    exact ⟨m, by rw [hvmin, hf]; simp [vminOf, hm], hmem, hle⟩
  case pack => rw [hvmin, hf, hv]; rfl
  case stale => rw [hvmin, hf, hv]; rfl

/-- What the protection controller's judgement may reach (R7 to R12). -/
theorem State.protTransition_frame (s : State) (done : Dwell → Bool) (tap : Bool) :
    unchangedBut [.pmon, .prot, .bgt, .grt, .drv, .str, .wch, .lgt, .acp, .rsc] s (s.protTransition done tap) := by
  unfold State.protTransition
  split
  · exact s.enterLockout_frame
  split
  · exact (s.enterCutoff_frame _).mono (by simp)
  split
  · exact (unchangedBut_withProt s _).mono (by simp)
  split
  · exact (unchangedBut_withProt s _).mono (by simp)
  · exact fun b _ => by cases b <;> rfl

theorem State.monitored_frame (s : State) (raw : PerQuantity Int) : unchangedBut [.now, .pmon] s (s.monitored raw) := by
  intro b hb
  cases b <;> first | rfl | exact absurd (by simp) hb

theorem State.protSample_frame (s : State) (publishes tap : Bool) :
    unchangedBut [.pmon, .prot, .bgt, .grt, .drv, .str, .wch, .lgt, .acp, .rsc] s (s.protSample publishes tap) := by
  rw [State.protSample_eq]
  split
  · have hp : unchangedBut [.prot] s s.timed := unchangedBut_withProt s _
    exact (hp.mono (by simp)).trans (s.timed.protTransition_frame _ _)
  · exact s.protTransition_frame _ _

/-- Settles O51: the pack monitor's own part of a sample set, of which the protection controller moves at most the bands of a
bench it leaves. -/
theorem monitorPublishes : Obligations.MonitorPublishes := by
  intro s raw
  obtain ⟨⟨pack, motor, hpmon⟩, hkept⟩ := s.sampledSet_monitorKept raw
  have hchan : (s.sampledSet raw).pmon.chan = (s.monitored raw).pmon.chan := by rw [hpmon]
  have hget (q : Quantity) : (s.sampledSet raw).pmon.chan.get q =
      (s.pmon.chan.get q).sampled q.depth (s.rsc.cal.sample q (raw.get q)) := by
    rw [hchan, State.monitored, State.monitorSample_chan]
    simp
  have hnow : (s.sampledSet raw).now = (s.monitored raw).now := State.protSample_now _ _ _
  refine ⟨_, exec_sampleSet s raw, ?_⟩
  simp only [s.sampledSet_published raw, State.settle_pmon, State.settle_now, hnow, hget]
  refine ⟨rfl, ?next, fun q => ?window, fun a ha b hb c hc d hd => ?ready, fun h => ?unready, fun h => ?bands, ?frame⟩
  case next => rw [hpmon]; rfl
  case window =>
    obtain ⟨hlo, hhi⟩ := clampInt_mem q.range_le (s.rsc.cal.convert q (raw.get q))
    exact ⟨hlo, hhi, Channel.sampled_spec _ _ _⟩
  case ready =>
    rw [hpmon]
    exact s.monitored_ready raw (Pmon.taps_eq _ ha hb hc hd)
  case unready =>
    have hnone : (s.monitored raw).pmon.taps = none := by
      rw [← Option.not_isSome_iff_eq_none, Pmon.taps_isSome_iff]
      rintro ⟨h1, h2, h3, h4⟩
      rcases h with h | h | h | h
      · exact h1 h
      · exact h2 h
      · exact h3 h
      · exact h4 h
    rw [hpmon]
    exact (s.monitored_derived raw).2 (by rw [Pmon.derived, hnone]; rfl)
  case bands =>
    obtain ⟨hps, hpb, hms, hmb⟩ := s.monitored_bands raw
    rw [hkept h]
    refine ⟨fun temp ht => bandOf_published hps hpb ht, fun temp ht => bandOf_published hms hmb ht, fun ht => ?_,
      fun ht => ?_⟩
    · rw [hps, hpb, ht]; exact ⟨rfl, rfl⟩
    · rw [hms, hmb, ht]; exact ⟨rfl, rfl⟩
  case frame =>
    exact ((s.monitored_frame raw).append (State.protSample_frame _ _ _)).settle (by simp) (by simp) (by simp)

end Sys2Proof.Machine
end

section
/-! PROOFS. O56: the two passes of the budget over the consumers in rank order, and the budget period. -/

namespace Sys2Proof.Machine

/-! ### One pass in rank order (R34, R35) -/

/-- What a pass over consumers leaves: nobody above its want, all of the current shared or left over, and nothing left over
or given to a later consumer while an earlier one is short of its want. -/
def passShared (want : Consumer → Nat) (order : List Consumer) (available : Nat) (out : PerConsumer Nat × Nat) : Prop :=
  (∀ k ∈ order, out.1.get k ≤ want k) ∧ (order.map out.1.get).sum + out.2 = available ∧
    (∀ k ∈ order, out.1.get k < want k → out.2 = 0) ∧
    order.Pairwise fun k j => out.1.get k < want k → out.1.get j = 0

theorem servePass_other (want : Consumer → Nat) {order : List Consumer} {k : Consumer} (hk : k ∉ order) (available : Nat)
    (shares : PerConsumer Nat) : (servePass want order available shares).1.get k = shares.get k := by
  induction order generalizing available shares with
  | nil => rfl
  | cons j order ih =>
    rw [List.mem_cons, not_or] at hk
    rw [servePass, ih hk.2, PerConsumer.get_set_other _ _ _ _ hk.1]

theorem servePass_shared (want : Consumer → Nat) {order : List Consumer} (hnodup : order.Nodup) (available : Nat)
    (shares : PerConsumer Nat) : passShared want order available (servePass want order available shares) := by
  induction order generalizing available shares with
  | nil => exact ⟨nofun, by simp [servePass], nofun, .nil⟩
  | cons k order ih =>
    obtain ⟨hk, hnodup⟩ := List.nodup_cons.1 hnodup
    obtain ⟨hle, hsum, hleft, hlater⟩ :=
      ih hnodup (available - min (want k) available) (shares.set k (min (want k) available))
    have hown : (servePass want (k :: order) available shares).1.get k = min (want k) available := by
      rw [servePass, servePass_other want hk, PerConsumer.get_set_same]
    rw [servePass] at hown ⊢
    generalize servePass want order (available - min (want k) available) (shares.set k (min (want k) available)) = out at *
    have hshort (h : out.1.get k < want k) : (order.map out.1.get).sum = 0 ∧ out.2 = 0 := by omega
    refine ⟨List.forall_mem_cons.2 ⟨by omega, hle⟩, by rw [List.map_cons, List.sum_cons]; omega,
      List.forall_mem_cons.2 ⟨fun h => (hshort h).2, hleft⟩, List.pairwise_cons.2 ⟨fun j hj h => ?_, hlater⟩⟩
    have hle := List.single_le_sum (by simp) (out.1.get j) (List.mem_map_of_mem hj) (l := order.map out.1.get)
    have := (hshort h).1
    omega

/-! ### The rank order (R22) -/

section
variable (c : Settings)

theorem Settings.rankOrder_nodup : c.rankOrder.Nodup := by
  unfold Settings.rankOrder
  split <;> decide

theorem Settings.mem_rankOrder (k : Consumer) : k ∈ c.rankOrder := by
  unfold Settings.rankOrder
  split <;> cases k <;> decide

/-- A consumer of a lower rank stands before one of a higher rank. -/
theorem Settings.of_rankOrder_pairwise {R : Consumer → Consumer → Prop} (h : c.rankOrder.Pairwise R) {k j : Consumer}
    (hkj : c.rankOf k < c.rankOf j) : R k j := by
  unfold Settings.rankOrder at h
  unfold Settings.rankOf at hkj
  split at h
  next hw => cases k <;> cases j <;> simp_all
  next hw => cases k <;> cases j <;> simp_all

theorem Settings.rankOrder_sum (g : PerConsumer Nat) :
    (c.rankOrder.map g.get).sum = g.servo + g.drive + g.winch + g.lights := by
  unfold Settings.rankOrder
  split <;> simp [PerConsumer.get] <;> omega

/-- A pass over the consumers in rank order, read consumer by consumer. -/
def ranked (want : Consumer → Nat) (available : Nat) (out : PerConsumer Nat × Nat) : Prop :=
  (∀ k, out.1.get k ≤ want k) ∧ out.1.servo + out.1.drive + out.1.winch + out.1.lights + out.2 = available ∧
    (∀ k, out.1.get k < want k → out.2 = 0) ∧
    ∀ k j, c.rankOf k < c.rankOf j → out.1.get k < want k → out.1.get j = 0

theorem ranked_servePass (want : Consumer → Nat) (available : Nat) (shares : PerConsumer Nat) :
    ranked c want available (servePass want c.rankOrder available shares) := by
  obtain ⟨hle, hsum, hleft, hlater⟩ := servePass_shared want c.rankOrder_nodup available shares
  rw [c.rankOrder_sum] at hsum
  exact ⟨fun k => hle k (c.mem_rankOrder k), hsum, fun k => hleft k (c.mem_rankOrder k),
    fun k j hkj => c.of_rankOrder_pairwise hlater hkj⟩

/-- What the two passes share, by the consumer's own cap: the smaller of its demand and its ceiling. -/
def passesShared (cap : Consumer → Nat) (a : Nat) (grant : Consumer → Nat) (leftover : Nat) : Prop :=
  (∀ k, grant k ≤ cap k) ∧ grant .servo + grant .drive + grant .winch + grant .lights + leftover = a ∧
    (∀ k j, c.floorOf k < grant k → min (c.floorOf j) (cap j) ≤ grant j) ∧
    (∀ k j, c.rankOf k < c.rankOf j →
      (grant k < min (c.floorOf k) (cap k) → grant j = 0) ∧ (grant k < cap k → grant j ≤ c.floorOf j)) ∧
    ∀ k, grant k < cap k → leftover = 0

/-- The floors pass and the demand pass together (R34, R35). -/
theorem passesShared_of_ranked {cap : Consumer → Nat} {a : Nat} {floors extra : PerConsumer Nat × Nat}
    (hf : ranked c (fun k => min (c.floorOf k) (cap k)) a floors)
    (he : ranked c (fun k => cap k - floors.1.get k) floors.2 extra) :
    passesShared c cap a (fun k => floors.1.get k + extra.1.get k) extra.2 := by
  unfold ranked at hf he
  unfold passesShared
  beta_reduce at hf he ⊢
  obtain ⟨fle, fsum, fleft, flater⟩ := hf
  obtain ⟨ele, esum, eleft, elater⟩ := he
  have hextra (k : Consumer) : extra.1.get k ≤ floors.2 := by cases k <;> simp only [PerConsumer.get] <;> omega
  refine ⟨fun k => ?_, ?_, fun k j h => ?_, fun k j hkj => ⟨fun h => ?_, fun h => ?_⟩, fun k h => ?_⟩
  · have := fle k
    have := ele k
    omega
  · simp only [PerConsumer.get]
    omega
  · have := fle k
    have := hextra k
    have := fleft j
    omega
  · have := fleft k (by omega)
    have := flater k j hkj (by omega)
    have := hextra j
    omega
  · have := elater k j hkj (by omega)
    have := fle j
    omega
  · exact eleft k (by omega)

end

/-! ### One computation (R30 to R35) -/

theorem stageKv_spec (c : Settings) (v : Int) :
    ((c.vWarn : Int) ≤ v → stageKv c (some v) = 1000) ∧ (v < c.vWarn → v ≤ c.vCut → stageKv c (some v) = 250) ∧
    (v < c.vWarn → (c.vCut : Int) < v →
      (stageKv c (some v) : Int) = 250 + 750 * (v - c.vCut) / ((c.vWarn : Int) - c.vCut)) := by
  unfold stageKv
  refine ⟨fun h => if_pos h, fun h1 h2 => ?_, fun h1 h2 => ?_⟩
  · simp only [if_neg (not_le.2 h1), if_pos h2]
  · simp only [if_neg (not_le.2 h1), if_neg (not_le.2 h2)]
    rw [Int.tdiv_eq_ediv_of_nonneg (by omega)]
    have : 0 ≤ 750 * (v - c.vCut) / ((c.vWarn : Int) - c.vCut) := Int.ediv_nonneg (by omega) (by omega)
    omega

/-- The inputs of a computation that reads `s` (R29). -/
def State.inputsWith (s : State) (limit closed : Bool) (lights : Nat) : BudgetInputs :=
  { s.budgetInputs closed lights with limit := limit }

/-- The demands a computation uses (R33). -/
theorem State.inputsWith_used (s : State) (limit closed : Bool) (lights : Nat) :
    (s.inputsWith limit closed lights).used =
      { servo := s.servoDemand
        drive := if s.prot.st = .cutoff then 0 else s.drv.demand
        winch := if s.prot.st = .cutoff then 0 else s.wch.demand
        lights := lights } := by
  have hexcluded : (s.inputsWith limit closed lights).excluded = decide (s.prot.st = .cutoff) := rfl
  by_cases h : s.prot.st = .cutoff
  · simp only [BudgetInputs.used, hexcluded, h, decide_true, if_true]
    rfl
  · simp only [BudgetInputs.used, hexcluded, h, decide_false, Bool.false_eq_true, if_false]
    rfl

/-- The available current (R33). -/
theorem stageA_inputsWith (s : State) (limit closed : Bool) (lights a0 : Nat) :
    stageA s.cfg (s.inputsWith limit closed lights) a0 =
      if closed = true ∧ s.prot.st ≠ .lockout ∧ s.pmon.vmin ≠ none then
        (if limit then min a0 s.cfg.ocCont else a0) - s.cfg.baseLoad
      else 0 := by
  have h : (!closed || s.prot.st == .lockout || s.pmon.vmin.isNone) =
      !decide (closed = true ∧ s.prot.st ≠ .lockout ∧ s.pmon.vmin ≠ none) := by
    cases closed <;> cases s.prot.st <;> cases s.pmon.vmin <;> rfl
  have hstage : stageA s.cfg (s.inputsWith limit closed lights) a0 =
      if (!closed || s.prot.st == .lockout || s.pmon.vmin.isNone) = true then 0
      else (if limit then min a0 s.cfg.ocCont else a0) - s.cfg.baseLoad := rfl
  rw [hstage, h]
  by_cases hc : closed = true ∧ s.prot.st ≠ .lockout ∧ s.pmon.vmin ≠ none
  · rw [if_pos hc, decide_eq_true hc]; rfl
  · rw [if_neg hc, decide_eq_false hc]; rfl

theorem ranked_floorsPass (c : Settings) (used : PerConsumer Nat) (a : Nat) :
    ranked c (fun k => min (c.floorOf k) (min (used.get k) (c.ceilOf k))) a (floorsPass c used a) :=
  ranked_servePass c _ _ _

theorem ranked_demandPass (c : Settings) (used first : PerConsumer Nat) (remaining : Nat) :
    ranked c (fun k => min (used.get k) (c.ceilOf k) - first.get k) remaining (demandPass c used first remaining) := by
  have hwant : (fun k => min (used.get k) (c.ceilOf k) - first.get k) =
      fun k => min (used.get k - first.get k) (c.ceilOf k - first.get k) :=
    funext fun k => (Nat.sub_min_sub_right ..).symm
  rw [hwant]
  exact ranked_servePass c _ _ _

/-- The sharing of a computation (R34, R35). -/
theorem computeBudget_passes (c : Settings) (i : BudgetInputs) :
    passesShared c (fun k => min (i.used.get k) (c.ceilOf k)) (computeBudget c i).a (computeBudget c i).grant.get
      (computeBudget c i).leftover := by
  have hgrant : (computeBudget c i).grant.get = fun k => (floorsPass c i.used (computeBudget c i).a).1.get k +
      (demandPass c i.used (floorsPass c i.used (computeBudget c i).a).1
        (floorsPass c i.used (computeBudget c i).a).2).1.get k := funext fun k => PerConsumer.get_build _ k
  rw [hgrant]
  exact passesShared_of_ranked c (ranked_floorsPass c _ _) (ranked_demandPass c _ _ _)

theorem computeBudget_shared (s : State) (limit closed : Bool) (lights : Nat) :
    budgetShared s limit closed lights (computeBudget s.cfg (s.inputsWith limit closed lights)) := by
  obtain ⟨hcap, hsum, hfloor, hrank, hleft⟩ := computeBudget_passes s.cfg (s.inputsWith limit closed lights)
  have hused := s.inputsWith_used limit closed lights
  have hdemand : (computeBudget s.cfg (s.inputsWith limit closed lights)).demand =
    (s.inputsWith limit closed lights).used := rfl
  have hkv : (computeBudget s.cfg (s.inputsWith limit closed lights)).kv = stageKv s.cfg s.pmon.vmin := rfl
  have hgranted : (computeBudget s.cfg (s.inputsWith limit closed lights)).granted =
      (computeBudget s.cfg (s.inputsWith limit closed lights)).grant.toList.sum := rfl
  unfold budgetShared
  rw [hdemand, hkv]
  refine ⟨fun v hv => ?_, fun hv => ?_, rfl, rfl, rfl, rfl, stageA_inputsWith s limit closed lights _, ?_, ?_, ?_, ?_,
    hcap, ?_, hfloor, hrank, hleft⟩
  · rw [hv]; exact stageKv_spec s.cfg v
  · rw [hv]; rfl
  · rw [hused]; rfl
  · rw [hused]
  · rw [hused]
  · rw [hused]
  · rw [hgranted, ← hsum]
    simp [PerConsumer.toList, PerConsumer.get, Nat.add_assoc]

/-! ### Q, LIMIT and the counts (R15, R16, R36, R37) -/

theorem qAfter_spec (c : Settings) (q : Nat) (i : Int) :
    (qAfter c q i : Int) =
      if (c.ocCont : Int) < i then min (q + (i - c.ocCont)) (2 * c.ocTripQ : Nat)
      else min (max 0 (q + (i - c.ocCont).tdiv 4)) (2 * c.ocTripQ : Nat) := by
  unfold qAfter clampInt
  dsimp only
  by_cases h : (c.ocCont : Int) < i
  · rw [if_pos h, if_pos (by omega)]
    omega
  · rw [if_neg h, if_neg (by omega)]
    omega

/-- SERVO_SHORT while the servo is short, and while it is not (R37). -/
theorem servoShortAfter_short (n : Nat) (active : Bool) : servoShortAfter n 0 active = (active || n == 3) := by
  unfold servoShortAfter
  cases n == 3 <;> simp

theorem servoShortAfter_clear (n : Nat) (active : Bool) : servoShortAfter 0 n active = (active && n != 3) := by
  unfold servoShortAfter bne
  cases n == 3 <;> simp

/-- An account kept from the counts of `s` is the one Safety.lean asks for. -/
theorem budgetAccounted_account {s t : State} {b : Bgt} {r : BudgetResult} (hb : t.bgt = b.account r)
    (hs : b.starved = s.bgt.starved) (hshort : b.shortCount = s.bgt.shortCount) (hclear : b.clearCount = s.bgt.clearCount)
    (hactive : b.servoShort = s.bgt.servoShort) : budgetAccounted s t r := by
  have hsc : t.bgt.shortCount = if r.grant.servo < r.demand.servo then min 3 (s.bgt.shortCount + 1) else 0 := by
    rw [hb, ← hshort]; exact if_congr decide_eq_true_iff rfl rfl
  have hcc : t.bgt.clearCount = if r.grant.servo < r.demand.servo then 0 else min 3 (s.bgt.clearCount + 1) := by
    rw [hb, ← hclear]; exact if_congr decide_eq_true_iff rfl rfl
  have hss : t.bgt.servoShort = servoShortAfter t.bgt.shortCount t.bgt.clearCount s.bgt.servoShort := by
    rw [hb, ← hactive]; rfl
  refine ⟨fun k => ?_, fun h => ?_, fun h => ?_⟩
  · rw [hb]
    simp [Bgt.account, starvedAfter, BudgetResult.short, hs]
  · rw [if_pos h] at hsc hcc
    exact ⟨hcc, hsc, by rw [hss, hcc, servoShortAfter_short]⟩
  · rw [if_neg h] at hsc hcc
    exact ⟨hsc, hcc, by rw [hss, hsc, servoShortAfter_clear]⟩

/-! ### O56 -/

/-- The state of a budget period before the computation: Q and LIMIT updated (R15, R16). -/
def State.periodBegun (s : State) : State :=
  (s.reach s.bgt.nextPeriod).withProt (s.prot.updateQ s.cfg (s.published .packCurrent))

theorem exec_budgetPeriod (s : State) : exec .budgetPeriod s = .next s.periodBegun.budgetCompute.settle := rfl

theorem exec_servoShort (s : State) :
    exec .servoShort s =
      .next (s.withBgt
        { s.bgt with servoShort := servoShortAfter s.bgt.shortCount s.bgt.clearCount s.bgt.servoShort }).settle := rfl

/-- The budget unit after a period: the computations, accounted (R22, R29, R36 to R38, R44). -/
def Bgt.computed (b : Bgt) (s : State) (limit : Bool) (now : Nat) : Bgt :=
  { b with
    rank := PerConsumer.build s.cfg.rankOf, floor := PerConsumer.build s.cfg.floorOf
    ceiling := PerConsumer.build s.cfg.ceilOf
    pub := computeBudget s.cfg (s.inputsWith limit (s.prot.sw == .closed) s.lgt.pubDemand)
    trial :=
      if s.rsc.run == .benchDry then some (computeBudget s.cfg (s.inputsWith limit true s.lgt.demand)) else none
    nextPeriod := now + stepPeriod }

theorem Prot.updateQ_frame (p : Prot) (c : Settings) (i : Option Int) :
    p.updateQ c i = { p with q := (p.updateQ c i).q, limit := (p.updateQ c i).limit } := by
  cases i <;> rfl

theorem State.periodBegun_prot (s : State) :
    s.periodBegun.prot = { s.prot with q := s.periodBegun.prot.q, limit := s.periodBegun.prot.limit } :=
  Prot.updateQ_frame _ _ _

/-- The computation reads PROT's LIMIT as the period has updated it, and everything else as it stood. -/
theorem State.periodBegun_bgt (s : State) :
    s.periodBegun.budgetCompute.bgt =
      let b := s.bgt.computed s s.periodBegun.prot.limit s.periodBegun.now
      if s.rsc.run == .benchDry then
        b.account (computeBudget s.cfg (s.inputsWith s.periodBegun.prot.limit true s.lgt.demand))
      else if s.prot.sw == .closed then b.account b.pub
      else b := by
  have hinputs (closed : Bool) (lights : Nat) :
      s.periodBegun.budgetInputs closed lights = s.inputsWith s.periodBegun.prot.limit closed lights := by
    unfold State.inputsWith State.budgetInputs
    rw [s.periodBegun_prot]
    rfl
  have hsw : s.periodBegun.prot.sw = s.prot.sw := by rw [s.periodBegun_prot]
  unfold State.budgetCompute
  dsimp only
  rw [hinputs, hinputs, hsw]
  rfl

/-- Accounted or not, the computations of a period are published (R29). -/
theorem State.periodBegun_published (s : State) :
    s.periodBegun.budgetCompute.bgt.pub =
        computeBudget s.cfg (s.inputsWith s.periodBegun.prot.limit (s.prot.sw == .closed) s.lgt.pubDemand) ∧
      s.periodBegun.budgetCompute.bgt.trial = (if s.rsc.run == .benchDry then
        some (computeBudget s.cfg (s.inputsWith s.periodBegun.prot.limit true s.lgt.demand)) else none) ∧
      s.periodBegun.budgetCompute.bgt.rank = PerConsumer.build s.cfg.rankOf ∧
      s.periodBegun.budgetCompute.bgt.floor = PerConsumer.build s.cfg.floorOf ∧
      s.periodBegun.budgetCompute.bgt.ceiling = PerConsumer.build s.cfg.ceilOf ∧
      s.periodBegun.budgetCompute.bgt.nextPeriod = s.periodBegun.now + stepPeriod := by
  rw [s.periodBegun_bgt]
  unfold Bgt.computed
  generalize (s.rsc.run == .benchDry) = dry
  generalize (s.prot.sw == .closed) = closed
  cases dry <;> cases closed <;> exact ⟨rfl, rfl, rfl, rfl, rfl, rfl⟩

theorem State.periodBegun_q (s : State) (i : Int) (hi : s.published .packCurrent = some i) :
    s.periodBegun.prot.q = qAfter s.cfg s.prot.q i ∧
      s.periodBegun.prot.limit = limitAfter s.cfg (qAfter s.cfg s.prot.q i) s.prot.limit := by
  unfold State.periodBegun
  rw [hi]
  exact ⟨rfl, rfl⟩

/-- Settles O56: Q and LIMIT by `qAfter_spec`, the two computations by `computeBudget_shared`, the counts by
`budgetAccounted_account`. -/
theorem budgetPeriodShares : Obligations.BudgetPeriodShares := by
  intro s
  refine ⟨⟨_, exec_budgetPeriod s, ?_⟩, _, exec_servoShort s, ?short, ?shortFrame⟩
  case short => simp [servoShortAfter]
  case shortFrame =>
    refine changesOnly_settle ?_ rfl rfl
    intro b hb _ _
    cases b <;> first | rfl | exact absurd (by simp) hb
  obtain ⟨hpub, htrial, hrank, hfloor, hceil, hnext⟩ := s.periodBegun_published
  have hbgt := s.periodBegun_bgt
  have hshared := computeBudget_shared s s.periodBegun.prot.limit
  have hprot : s.periodBegun.budgetCompute.settle.prot = s.periodBegun.prot := rfl
  simp only [hprot, State.settle_bgt]
  refine ⟨rfl, hnext, fun i hi => ?q, s.periodBegun_prot, fun hn => ?stale, ?pub, fun k => ?table, fun hdry => ?trial,
    fun hdry => ?noTrial, fun hdry hsw => ?counts, fun hdry hsw => ?kept, ?frame⟩
  case q =>
    obtain ⟨hq, hl⟩ := s.periodBegun_q i hi
    rw [hl, hq]
    exact ⟨qAfter_spec s.cfg s.prot.q i, rfl⟩
  case stale =>
    unfold State.periodBegun
    rw [hn]
    rfl
  case pub => rw [hpub]; exact hshared _ _
  case table =>
    rw [hrank, hfloor, hceil]
    simp
  case trial =>
    simp only [hdry, beq_self_eq_true, if_true] at hbgt htrial
    exact ⟨_, htrial, hshared _ _, budgetAccounted_account hbgt rfl rfl rfl rfl⟩
  case noTrial => rw [htrial, if_neg (by simpa using hdry)]
  case counts =>
    dsimp only at hbgt
    rw [if_neg (by simpa using hdry), if_pos (by simp [hsw])] at hbgt
    have hb : s.periodBegun.budgetCompute.settle.bgt = (s.bgt.computed s s.periodBegun.prot.limit s.periodBegun.now).account
        s.periodBegun.budgetCompute.bgt.pub := hbgt.trans (by rw [hpub]; rfl)
    exact budgetAccounted_account hb rfl rfl rfl rfl
  case kept =>
    dsimp only at hbgt
    rw [if_neg (by simpa using hdry), if_neg (by simpa using hsw)] at hbgt
    rw [hbgt]
    exact ⟨rfl, rfl, rfl, rfl⟩
  case frame =>
    refine changesOnly_settle ?_ rfl rfl
    intro b hb _ _
    cases b <;> first | rfl | exact absurd (by simp) hb

end Sys2Proof.Machine
end

section
/-! PROOFS. The commands that leave the budget unit: what each rule leaves of it (R35, R38). -/

namespace Sys2Proof.Machine

variable {s t u : State}

section
variable (s)

/-! ### The rules of the commands that leave the budget unit -/

@[simp] theorem State.receiveFrame_bgt (bytes : List Byte) : (s.receiveFrame bytes).bgt = s.bgt := by
  unfold State.receiveFrame State.handOn
  (repeat' split) <;> simp

@[simp] theorem State.linkByte_bgt (b : Byte) : (s.linkByte b).bgt = s.bgt := by
  unfold State.linkByte
  (repeat' split) <;> simp

@[simp] theorem State.presentPendant_bgt (p : Bool) : (s.presentPendant p).bgt = s.bgt := by
  unfold State.presentPendant
  (repeat' split) <;> simp

@[simp] theorem State.countForOrder_bgt (d : WinchDir) : (s.countForOrder d).bgt = s.bgt := by
  unfold State.countForOrder
  dsimp only
  (repeat' split) <;> simp

@[simp] theorem State.limitAtPulse_bgt (d : WinchDir) : (s.limitAtPulse d).bgt = s.bgt := by
  unfold State.limitAtPulse
  dsimp only
  (repeat' split) <;> simp

@[simp] theorem State.drumPulse_bgt : s.drumPulse.bgt = s.bgt := by
  unfold State.drumPulse
  split <;> simp

@[simp] theorem State.endStore_bgt (bytes : List Byte) : (s.endStore bytes).bgt = s.bgt := by
  unfold State.endStore
  dsimp only
  split <;> rfl

@[simp] theorem State.grantTo_bgt (f : Fn) (r : FnRecord) (st : Status) : (s.grantTo f r st).bgt = s.bgt := by
  simp [State.grantTo]

@[simp] theorem State.refuseGrant_bgt (f : Fn) (st : Status) : (s.refuseGrant f st).bgt = s.bgt := rfl

theorem State.grantRule_bgt (ps : List Byte) (rule : Fn → State → State) (h : ∀ f (w : State), (rule f w).bgt = w.bgt) :
    (s.grantRule ps rule).bgt = s.bgt := by
  unfold State.grantRule
  (repeat' split) <;> simp [h]

theorem State.claim_bgt (f : Fn) : (s.claim f).bgt = s.bgt := by
  unfold State.claim
  split <;> simp

theorem State.setValue_bgt (f : Fn) (v : Int) (q : Nat) : (s.setValue f v q).bgt = s.bgt := by
  unfold State.setValue
  dsimp only
  (repeat' split) <;> simp

theorem State.claimSet_bgt (f : Fn) (v : Int) : (s.claimSet f v).bgt = s.bgt := by
  unfold State.claimSet
  (repeat' split) <;> simp

theorem State.releaseFn_bgt (f : Fn) : (s.releaseFn f).bgt = s.bgt := by
  unfold State.releaseFn
  split <;> simp

theorem State.refresh_bgt : s.refresh.bgt = s.bgt := by
  unfold State.refresh
  split <;> rfl

theorem State.winchCommandRule_bgt (d : List Byte) (rule : State → State) (h : ∀ w : State, (rule w).bgt = w.bgt) :
    (s.winchCommandRule d rule).bgt = s.bgt := by
  unfold State.winchCommandRule
  split <;> simp [h]

theorem State.winchPost_bgt (ps : List Byte) : (s.winchPost ps).bgt = s.bgt := by
  unfold State.winchPost
  dsimp only
  (repeat' split) <;> rfl

theorem State.winchCancel_bgt (ps : List Byte) : (s.winchCancel ps).bgt = s.bgt := by
  unfold State.winchCancel
  split <;> simp

theorem State.winchReap_bgt : s.winchReap.bgt = s.bgt := by
  unfold State.winchReap
  split <;> rfl

theorem State.winchZero_bgt : s.winchZero.bgt = s.bgt := by
  unfold State.winchZero
  split <;> rfl

theorem State.cfgRead_bgt (ps : List Byte) : (s.cfgRead ps).bgt = s.bgt := by
  unfold State.cfgRead
  dsimp only
  split <;> rfl

theorem State.cfgWrite_bgt (ps : List Byte) : (s.cfgWrite ps).bgt = s.bgt := by
  unfold State.cfgWrite State.editConfig
  dsimp only
  (repeat' split) <;> simp

theorem State.cfgCheck_bgt : s.cfgCheck.bgt = s.bgt := by
  unfold State.cfgCheck
  split <;> rfl

theorem State.cfgStore_bgt : s.cfgStore.bgt = s.bgt := by
  unfold State.cfgStore
  (repeat' split) <;> rfl

theorem State.sceneWrite_bgt (ps : List Byte) : (s.sceneWrite ps).bgt = s.bgt := by
  unfold State.sceneWrite
  split <;> rfl

theorem State.benchStall_bgt : s.benchStall.bgt = s.bgt := by
  unfold State.benchStall
  split <;> rfl

theorem State.readRule_bgt (ps : List Byte) : (s.readRule ps).bgt = s.bgt := by
  unfold State.readRule
  split <;> rfl

theorem State.faultAck_bgt (ps : List Byte) : (s.faultAck ps).bgt = s.bgt := by
  unfold State.faultAck
  (repeat' split) <;> rfl

end

/-! ### The commands that leave the budget unit -/

/-- An outcome leaves the budget unit of `s`. -/
def leavesBudget (s : State) (o : Host.Outcome State Fault Refusal) : Prop := ∀ t, o = .next t → t.bgt = s.bgt

theorem leavesBudget_completed (h : u.bgt = s.bgt) : leavesBudget s (completed u) := by
  rintro _ ⟨⟩
  simpa using h

theorem leavesBudget_taken {ok ex : Bool} {al : State → List Byte} {owner : State → State}
    (h : ∀ w : State, (owner w).bgt = w.bgt) : leavesBudget s (completed (s.takeCommand ok ex al owner)) := by
  apply leavesBudget_completed
  obtain ⟨st, d, e⟩ | ⟨-, e⟩ := s.takeCommand_cases ok ex al owner <;> rw [e]
  · rfl
  · rw [h, State.wakeSource_bgt]

/-- Of the commands that leave the standing, all but the budget unit's own two leave the budget unit. -/
theorem quiet_leavesBudget (c : Instr) (hc : quiet c = true) (hperiod : c ≠ .budgetPeriod) (hshort : c ≠ .servoShort)
    (s : State) : leavesBudget s (exec c s) := by
  cases c
  all_goals try exact Bool.noConfusion hc
  case budgetPeriod => exact absurd rfl hperiod
  case servoShort => exact absurd rfl hshort
  case ocTripRelease | driveStep | servoFrame | lightFrameBoundary | radioFrame | framingError | pendantEdge
      | linkByteReceived => exact leavesBudget_completed (by simp)
  case winchStep => exact leavesBudget_completed (by simp [State.restartWinchTimer])
  case orderTimeout | orderStarved | retryPauseEnd | currentCheckStall | drumCheckStall =>
    simp only [exec, execOrderTimeout, execOrderStarved, execRetryPauseEnd, execCurrentCheckStall, execDrumCheckStall]
    (repeat' split) <;> exact leavesBudget_completed (by simp)
  case drumPulse | benchDrumPulse =>
    simp only [exec, execDrumPulse, execBenchDrumPulse]
    split <;> exact leavesBudget_completed (by simp)
  case linkGapTimeout | replyTimerExpiry | replySent =>
    simp only [exec, execLinkGapTimeout, execReplyTimerExpiry, execReplySent]
    split <;> exact leavesBudget_completed (by simp)
  case dlFreshnessExpiry | apLeaseExpiry | pendantSettleExpiry =>
    simp only [exec, execDlFreshnessExpiry, execApLeaseExpiry, execPendantSettleExpiry]
    (repeat' split) <;> exact leavesBudget_completed (by simp)
  case storeEnd | acpUnknownWrite =>
    simp only [exec, execStoreEnd, execAcpUnknownWrite]
    split <;> exact leavesBudget_completed (by simp)
  case status | readCause | faultNext | attnMask | runctlNoFlag => exact leavesBudget_taken fun _ => rfl
  case read => exact leavesBudget_taken fun w => w.readRule_bgt _
  case faultAck => exact leavesBudget_taken fun w => w.faultAck_bgt _
  case cfgRead => exact leavesBudget_taken fun w => w.cfgRead_bgt _
  case cfgWrite => exact leavesBudget_taken fun w => w.cfgWrite_bgt _
  case cfgCheck => exact leavesBudget_taken State.cfgCheck_bgt
  case cfgStore => exact leavesBudget_taken State.cfgStore_bgt
  case claim => exact leavesBudget_taken fun w => w.grantRule_bgt _ _ fun f v => v.claim_bgt f
  case set => exact leavesBudget_taken fun w => w.grantRule_bgt _ _ fun f v => v.setValue_bgt f _ _
  case claimSet => exact leavesBudget_taken fun w => w.grantRule_bgt _ _ fun f v => v.claimSet_bgt f _
  case release => exact leavesBudget_taken fun w => w.grantRule_bgt _ _ fun f v => v.releaseFn_bgt f
  case refresh => exact leavesBudget_taken State.refresh_bgt
  case winchPost => exact leavesBudget_taken fun w => w.winchCommandRule_bgt _ _ fun v => v.winchPost_bgt _
  case winchCancel => exact leavesBudget_taken fun w => w.winchCommandRule_bgt _ _ fun v => v.winchCancel_bgt _
  case winchReap => exact leavesBudget_taken fun w => w.winchCommandRule_bgt _ _ State.winchReap_bgt
  case winchResume => exact leavesBudget_taken fun w => w.winchCommandRule_bgt _ _ fun _ => rfl
  case winchZero => exact leavesBudget_taken fun w => w.winchCommandRule_bgt _ _ State.winchZero_bgt
  case sceneWrite => exact leavesBudget_taken fun w => w.sceneWrite_bgt _
  case benchStall => exact leavesBudget_taken State.benchStall_bgt

end Sys2Proof.Machine
end

section
/-! PROOFS. O7: every command keeps the grants within A, and A at 0 while the switch is not CLOSED (R35, R38). -/

namespace Sys2Proof.Machine

variable {s t u : State}

/-! ### The budget unit under its own operations -/

/-- Without DRIVE and WINCH a computation grants no more than with them. -/
theorem BudgetResult.granted_withoutMotors (r : BudgetResult) : r.withoutMotors.granted ≤ r.granted := by
  simp only [BudgetResult.granted, BudgetResult.withoutMotors, PerConsumer.toList, PerConsumer.set, List.sum_cons,
    List.sum_nil]
  omega

/-- A computation shares no more than A (R35). -/
theorem computeBudget_granted (c : Settings) (i : BudgetInputs) :
    (computeBudget c i).granted ≤ (computeBudget c i).a := by
  obtain ⟨-, hsum, -⟩ := computeBudget_passes c i
  simp only [BudgetResult.granted, PerConsumer.toList, List.sum_cons, List.sum_nil]
  simp only [PerConsumer.get] at hsum
  omega

/-- With the switch not CLOSED a computation finds no current (R33). -/
theorem computeBudget_opened (s : State) (limit : Bool) (lights : Nat) (h : s.prot.sw ≠ .closed) :
    (computeBudget s.cfg (s.inputsWith limit (s.prot.sw == .closed) lights)).a = 0 := by
  rw [beq_false_of_ne h]
  rfl

/-! ### States that keep the budget -/

/-- The switch and the budget unit are all the budget's condition reads. -/
theorem State.budgetOk.congr (hok : s.budgetOk) (hb : t.bgt = s.bgt) (hsw : t.prot.sw = s.prot.sw) : t.budgetOk := by
  unfold State.budgetOk at *
  rwa [hb, hsw]

/-- With the switch not CLOSED there is no A, so the switch may move on anywhere. -/
theorem State.budgetOk.moved (hok : s.budgetOk) (hb : t.bgt = s.bgt) (hsw : s.prot.sw ≠ .closed) : t.budgetOk := by
  obtain ⟨hpub, htrial, ha⟩ := hok
  unfold State.budgetOk
  rw [hb]
  exact ⟨hpub, htrial, fun _ => ha hsw⟩

/-- A trial computation that an event may have reduced, as R44 has it. -/
theorem trial_map_granted {trial : Option BudgetResult} {f : BudgetResult → BudgetResult}
    (hf : ∀ r : BudgetResult, r.granted ≤ r.a → (f r).granted ≤ (f r).a) (h : ∀ r, trial = some r → r.granted ≤ r.a) :
    ∀ r, trial.map f = some r → r.granted ≤ r.a := by
  intro r hr
  obtain ⟨r', hr', rfl⟩ := Option.map_eq_some_iff.1 hr
  exact hf r' (h r' hr')

section
variable (s)

theorem State.respond_budgetOk (st : Status) (d : List Byte) (h : s.budgetOk) : (s.respond st d).budgetOk :=
  h.congr rfl rfl

theorem State.raise_budgetOk (e : FaultEntry) (h : s.budgetOk) : (s.raise e).budgetOk := h.congr rfl rfl

/-! ### The switch (R38) -/

theorem State.openSwitch_budgetOk (h : s.budgetOk) : s.openSwitch.budgetOk := by
  cases hsw : s.prot.sw with
  | closed =>
    obtain ⟨-, htrial, -⟩ := h
    obtain ⟨hbgt, -⟩ := s.leaveClosed_spec
    rw [s.openSwitch_closed hsw]
    unfold State.budgetOk
    rw [hbgt]
    exact ⟨le_rfl, htrial, fun _ => rfl⟩
  | opened | precharging =>
    exact h.moved (by simp [State.openSwitch, hsw]) (by simp [hsw])

/-- Entry to CUTOFF takes the grants of DRIVE and WINCH back (R38). -/
theorem State.enterCutoff_budgetOk (c : CutCause) (h : s.budgetOk) : (s.enterCutoff c).budgetOk := by
  obtain ⟨hpub, htrial, ha⟩ := h
  unfold State.budgetOk
  rw [State.enterCutoff_bgt, State.enterCutoff_prot]
  have hmotors (r : BudgetResult) (hr : r.granted ≤ r.a) : r.withoutMotors.granted ≤ r.withoutMotors.a :=
    r.granted_withoutMotors.trans hr
  exact ⟨hmotors _ hpub, trial_map_granted hmotors htrial, ha⟩

/-! ### The bench and HALT -/

/-- Leaving BENCH-DRY discards the trial computation and leaves the published one (R44, R171). -/
theorem State.leaveBench_budgetOk (b : Bool) (h : s.budgetOk) : (s.leaveBench b).budgetOk := by
  have hsw := s.leaveBench_sw b
  unfold State.leaveBench at *
  split
  next => exact h
  next sv hsv =>
    simp only [hsv] at hsw
    split
    next hdry =>
      rw [if_pos hdry] at hsw
      obtain ⟨hpub, -, ha⟩ := h
      refine ⟨hpub, nofun, fun hne => ha (hsw ▸ hne)⟩
    next hdry =>
      rw [if_neg hdry] at hsw
      exact h.congr rfl hsw

theorem State.haltWith_budgetOk (b : Bool) (h : s.budgetOk) : (s.haltWith b).budgetOk := by
  have hbase : (s.haltBase b).budgetOk := State.openSwitch_budgetOk _ (s.leaveBench_budgetOk b h)
  exact hbase.congr (by simp [State.haltWith_eq, State.haltPassed]) (by simp [State.haltWith_eq, State.haltPassed])

theorem State.enterSleep_budgetOk (o : SleepOrigin) (h : s.budgetOk) : (s.enterSleep o).budgetOk :=
  (s.openSwitch_budgetOk h).congr (by simp [State.enterSleep]) (by simp [State.enterSleep])

/-! ### LOCKOUT and the hard trip -/

theorem State.lockoutBegun_budgetOk (h : s.budgetOk) : s.lockoutBegun.budgetOk :=
  h.congr (by simp [State.lockoutBegun]) (by simp [State.lockoutBegun])

/-- Entry to LOCKOUT opens the switch, or in BENCH-DRY ends the trial current (R38, R44, R170). -/
theorem State.enterLockout_budgetOk (h : s.budgetOk) : s.enterLockout.budgetOk := by
  have hbegun := s.lockoutBegun_budgetOk h
  rw [State.enterLockout_eq]
  split
  next =>
    obtain ⟨hpub, htrial, ha⟩ := hbegun
    exact ⟨hpub, trial_map_granted (fun r _ => Nat.zero_le _) htrial, ha⟩
  next => exact State.haltWith_budgetOk _ true hbegun
  next => exact State.haltWith_budgetOk _ false hbegun
  next => exact State.haltWith_budgetOk _ false hbegun
  next => exact (State.openSwitch_budgetOk _ hbegun).congr rfl rfl

theorem State.hardTrip_budgetOk (h : s.budgetOk) : s.hardTrip.budgetOk := by
  unfold State.hardTrip
  split
  · exact s.enterCutoff_budgetOk _ h
  · exact s.enterCutoff_budgetOk _ h
  · split
    · exact s.enterLockout_budgetOk h
    · exact h.congr rfl rfl
  · exact h

/-! ### Precharge and start -/

theorem State.prechargeFailed_budgetOk (h : s.budgetOk) : s.prechargeFailed.budgetOk := by
  unfold State.prechargeFailed
  split
  · exact s.haltWith_budgetOk false h
  · exact h.congr rfl rfl

theorem State.abortPrecharge_budgetOk (h : s.budgetOk) (hsw : s.prot.sw ≠ .closed) : s.abortPrecharge.budgetOk :=
  State.prechargeFailed_budgetOk _ (h.moved rfl hsw)

theorem State.failPrecharge_budgetOk (h : s.budgetOk) (hsw : s.prot.sw ≠ .closed) : s.failPrecharge.budgetOk :=
  State.prechargeFailed_budgetOk _ (h.moved rfl hsw)

theorem State.requestPrecharge_budgetOk (h : s.budgetOk) : s.requestPrecharge.budgetOk := by
  unfold State.requestPrecharge
  split
  next hopen =>
    have hsw : s.prot.sw ≠ .closed := by simp [eq_of_beq hopen]
    split
    · exact s.prechargeFailed_budgetOk h
    · dsimp only
      split
      · exact State.abortPrecharge_budgetOk _ (h.moved rfl hsw) nofun
      · exact h.moved rfl hsw
  next => exact h

theorem State.makeStart_budgetOk (h : s.budgetOk) : s.makeStart.budgetOk :=
  State.requestPrecharge_budgetOk _ (h.congr rfl rfl)

/-- The switch closes with nothing granted yet (R18). -/
theorem State.closeSwitch_budgetOk (h : s.budgetOk) (hsw : s.prot.sw ≠ .closed) : s.closeSwitch.budgetOk := by
  have hclosed : ((s.withProt { s.prot with sw := .closed, prechargeEnd := none }).prechargeSucceeded).budgetOk := by
    unfold State.prechargeSucceeded
    split <;> exact h.moved rfl hsw
  unfold State.closeSwitch
  dsimp only
  split
  · exact State.hardTrip_budgetOk _ hclosed
  · exact hclosed

/-! ### The dwell timers, the bench, LOAD and the wake -/

theorem State.protTransition_budgetOk (done : Dwell → Bool) (tapSeen : Bool) (h : s.budgetOk) :
    (s.protTransition done tapSeen).budgetOk := by
  unfold State.protTransition
  split
  · exact s.enterLockout_budgetOk h
  split
  · exact s.enterCutoff_budgetOk _ h
  (repeat' split) <;> exact h.congr rfl rfl

theorem State.completeDwell_budgetOk (k : Dwell) (h : s.budgetOk) : (s.completeDwell k).budgetOk := by
  unfold State.completeDwell
  split
  · exact State.protTransition_budgetOk _ _ _ (h.congr rfl rfl)
  · exact h

theorem State.protSample_budgetOk (publishes tapSeen : Bool) (h : s.budgetOk) :
    (s.protSample publishes tapSeen).budgetOk := by
  unfold State.protSample
  split
  · exact State.protTransition_budgetOk _ _ _ (h.congr rfl rfl)
  · exact s.protTransition_budgetOk _ _ h

theorem State.lockoutClear_budgetOk (h : s.budgetOk) : s.lockoutClear.budgetOk := by
  unfold State.lockoutClear
  split <;> exact h.congr rfl rfl

theorem State.injected_budgetOk (code : Nat) (v : Int) (ht : s.injected code v = some t) (h : s.budgetOk) :
    t.budgetOk := by
  unfold State.injected at ht
  (repeat' split at ht) <;> cases ht <;> exact h.congr rfl rfl

theorem State.benchInject_budgetOk (ps : List Byte) (h : s.budgetOk) : (s.benchInject ps).budgetOk := by
  unfold State.benchInject
  split
  · exact s.respond_budgetOk _ _ h
  split
  next ht => exact State.respond_budgetOk _ _ _ (s.injected_budgetOk _ _ ht h)
  next => exact s.respond_budgetOk _ _ h

theorem State.benchDryRule_budgetOk (h : s.budgetOk) : s.benchDryRule.budgetOk := by
  have hbench : (s.enterBench .benchDry).budgetOk := h.congr rfl rfl
  have hentered : s.enterDry.budgetOk := by
    unfold State.enterDry
    split
    · exact State.hardTrip_budgetOk _ hbench
    · exact hbench
  unfold State.benchDryRule
  split
  · exact State.respond_budgetOk _ _ _ hentered
  · exact s.respond_budgetOk _ _ h

theorem State.benchWetRule_budgetOk (h : s.budgetOk) : s.benchWetRule.budgetOk := by
  have hbench : (s.enterBench .benchWet).budgetOk := h.congr rfl rfl
  unfold State.benchWetRule
  split
  · exact s.respond_budgetOk _ _ h
  split
  · exact s.respond_budgetOk _ _ h
  split
  · exact s.respond_budgetOk _ _ h
  · exact State.respond_budgetOk _ _ _ (State.requestPrecharge_budgetOk _ hbench)

theorem State.sleepRule_budgetOk (h : s.budgetOk) : s.sleepRule.budgetOk := by
  unfold State.sleepRule
  split
  · exact State.respond_budgetOk _ _ _ (s.enterSleep_budgetOk _ h)
  · exact s.respond_budgetOk _ _ h
  · exact s.respond_budgetOk _ _ h

theorem State.loadRule_budgetOk (start : Bool) (h : s.budgetOk) : (s.loadRule start).budgetOk := by
  unfold State.loadRule
  split <;> exact h.congr rfl rfl

theorem State.startRule_budgetOk (h : s.budgetOk) : s.startRule.budgetOk := by
  unfold State.startRule
  split
  · exact s.respond_budgetOk _ _ h
  split
  · exact s.respond_budgetOk _ _ h
  split
  · exact s.respond_budgetOk _ _ h
  split
  · exact s.respond_budgetOk _ _ h
  · exact State.respond_budgetOk _ _ _ (s.makeStart_budgetOk h)

theorem State.endLoad_budgetOk (c : Settings) (valid : Bool) (h : s.budgetOk) : (s.endLoad c valid).budgetOk :=
  h.congr (by simp [State.endLoad]) (congrArg Standing.sw (s.applySettings_standing c))

theorem State.finishLoad_budgetOk (powerUp : Bool) (h : s.budgetOk) : (s.finishLoad powerUp).budgetOk := by
  unfold State.finishLoad
  split
  next c _ =>
    have hend := s.endLoad_budgetOk c true h
    have hstart : (s.endLoad c true).startAfterLoad.budgetOk := by
      unfold State.startAfterLoad
      split
      · exact hend
      · exact State.makeStart_budgetOk _ hend
    split_ifs <;> assumption
  next => exact State.raise_budgetOk _ _ (s.endLoad_budgetOk _ _ h)

theorem State.endWake_budgetOk (h : s.budgetOk) : s.endWake.budgetOk := by
  unfold State.endWake
  dsimp only
  split
  · exact State.makeStart_budgetOk _ (h.congr rfl rfl)
  · exact h.congr rfl rfl

/-- A budget period shares within the A it computes, published and trial (R29, R35, R44). -/
theorem State.periodBegun_budgetOk : s.periodBegun.budgetCompute.budgetOk := by
  obtain ⟨hpub, htrial, -⟩ := s.periodBegun_published
  have hprot : s.periodBegun.prot.sw = s.prot.sw := by rw [s.periodBegun_prot]
  have hsw : s.periodBegun.budgetCompute.prot.sw = s.prot.sw := hprot
  unfold State.budgetOk
  rw [hpub, htrial, hsw]
  refine ⟨computeBudget_granted .., fun r hr => ?_, computeBudget_opened s _ _⟩
  obtain ⟨-, hr⟩ := Option.ite_none_right_eq_some.1 hr
  cases hr
  exact computeBudget_granted ..

end

/-! ### Every command -/

/-- An outcome of `s` keeps the budget. -/
def keepsBudget (s : State) (o : Host.Outcome State Fault Refusal) : Prop := ∀ t, o = .next t → s.budgetOk → t.budgetOk

theorem keepsBudget_completed (h : s.budgetOk → u.budgetOk) : keepsBudget s (completed u) := by
  rintro _ ⟨⟩ hok
  exact (h hok).congr rfl rfl

theorem keepsBudget_taken {ok ex : Bool} {al : State → List Byte} {owner : State → State}
    (h : s.wakeSource.budgetOk → (owner s.wakeSource).budgetOk) :
    keepsBudget s (completed (s.takeCommand ok ex al owner)) := by
  apply keepsBudget_completed
  intro hok
  obtain ⟨st, d, e⟩ | ⟨-, e⟩ := s.takeCommand_cases ok ex al owner <;> rw [e]
  · exact hok.congr rfl rfl
  · exact h (hok.congr rfl rfl)

theorem exec_keepsBudget (c : Instr) (s : State) : keepsBudget s (exec c s) := by
  by_cases hperiod : c = .budgetPeriod
  · subst hperiod
    rw [exec_budgetPeriod]
    exact keepsBudget_completed fun _ => s.periodBegun_budgetOk
  by_cases hshort : c = .servoShort
  · subst hshort
    exact keepsBudget_completed id
  by_cases hc : quiet c = true
  · intro t h hok
    exact hok.congr (quiet_leavesBudget c hc hperiod hshort s t h)
      (congrArg Standing.sw (quiet_leavesStanding c hc s t h))
  cases c
  all_goals try exact absurd rfl hc
  case powerOnReset | brownOutReset | pinReset => exact keepsBudget_completed fun _ => ⟨le_rfl, nofun, fun _ => rfl⟩
  case reset => exact keepsBudget_taken fun _ => ⟨le_rfl, nofun, fun _ => rfl⟩
  case sampleSet => exact keepsBudget_completed fun hok => State.protSample_budgetOk _ _ _ (hok.congr rfl rfl)
  case warnEntryComplete | warnExitComplete | cutTimerComplete | critTimerComplete | rearmTimerComplete =>
    exact keepsBudget_completed (s.completeDwell_budgetOk _)
  case ocTripAssert =>
    simp only [exec, execOcTripAssert]
    split
    next => exact keepsBudget_completed id
    next =>
      split
      next => exact keepsBudget_completed fun hok => State.hardTrip_budgetOk _ (hok.congr rfl rfl)
      split
      next hsw =>
        exact keepsBudget_completed fun hok =>
          State.abortPrecharge_budgetOk _ (hok.congr rfl rfl) (by simp [eq_of_beq hsw])
      next => exact keepsBudget_completed fun hok => hok.congr rfl rfl
  case prechargeExpiry =>
    simp only [exec, execPrechargeExpiry]
    split
    next hsw =>
      have hne : (s.reach (s.prot.prechargeEnd.getD s.now)).prot.sw ≠ .closed := by simp [hsw]
      split
      next => exact keepsBudget_completed fun hok => State.closeSwitch_budgetOk _ (hok.congr rfl rfl) hne
      next => exact keepsBudget_completed fun hok => State.failPrecharge_budgetOk _ (hok.congr rfl rfl) hne
    next => exact keepsBudget_completed id
  case lockoutClear => exact keepsBudget_taken (State.lockoutClear_budgetOk _)
  case benchInject => exact keepsBudget_taken (State.benchInject_budgetOk _ _)
  case halt => exact keepsBudget_taken fun hok => (State.haltWith_budgetOk _ false hok).congr rfl rfl
  case sleep => exact keepsBudget_taken (State.sleepRule_budgetOk _)
  case benchDry => exact keepsBudget_taken (State.benchDryRule_budgetOk _)
  case benchWet => exact keepsBudget_taken (State.benchWetRule_budgetOk _)
  case load => exact keepsBudget_taken (State.loadRule_budgetOk _ _)
  case start => exact keepsBudget_taken (State.startRule_budgetOk _)
  case loadEnd =>
    simp only [exec, execLoadEnd]
    (repeat' split) <;> apply keepsBudget_completed
    · exact fun hok => State.finishLoad_budgetOk _ _ (hok.congr rfl rfl)
    · exact id
    · exact id
  case wakeTimerExpiry =>
    simp only [exec, execWakeTimerExpiry]
    (repeat' split) <;> apply keepsBudget_completed
    · exact fun hok => State.endWake_budgetOk _ (hok.congr rfl rfl)
    · exact id
    · exact id
  case armingTimerExpiry =>
    simp only [exec, execArmingTimerExpiry]
    (repeat' split) <;> exact keepsBudget_completed fun hok => hok.congr rfl rfl
  case idleSleepExpiry =>
    simp only [exec, execIdleSleepExpiry]
    (repeat' split) <;> apply keepsBudget_completed
    · exact fun hok => State.enterSleep_budgetOk _ _ (hok.congr rfl rfl)
    · exact id
    · exact id

/-- Settles O7: the operations of the switch and the protection entries take grants back, a period computes them within A,
and every other command leaves them. -/
theorem grantsWithinAvailable : Obligations.GrantsWithinAvailable := by
  intro s t hok h
  obtain rfl | ⟨c, rest, h⟩ := step_next h
  · exact hok.congr rfl rfl
  · exact exec_keepsBudget c (s.withPending rest) t h (hok.congr rfl rfl)

end Sys2Proof.Machine
end

section
/-! PROOFS. O57: the arithmetic of a drive step, and what the step makes of the drive controller (R68 to R77). -/

namespace Sys2Proof.Machine

/-! ### Signs and limits -/

/-- Two values that are not 0 have the same sign where both are positive or neither is. -/
theorem signInt_eq_iff {x y : Int} (hx : x ≠ 0) (hy : y ≠ 0) : signInt x = signInt y ↔ (0 < x ↔ 0 < y) := by
  unfold signInt
  split_ifs <;> grind

/-- The BRAKE signal, read off the two duties (R75). -/
theorem brakeSignal_iff (target applied : Int) (dragBrake : Bool) :
    brakeSignal target applied dragBrake = true ↔ dragBrake = true ∨
      (applied ≠ 0 ∧ (target = 0 ∨ (0 < target ↔ 0 < applied)) ∧ target.natAbs < applied.natAbs) := by
  have hsign (ha : applied ≠ 0) :
      (target = 0 ∨ signInt target = signInt applied) ↔ (target = 0 ∨ (0 < target ↔ 0 < applied)) := by
    by_cases ht : target = 0
    · simp [ht]
    · simp [ht, signInt_eq_iff ht ha]
  unfold brakeSignal
  simp only [Bool.or_eq_true, Bool.and_eq_true, bne_iff_ne, beq_iff_eq, decide_eq_true_eq, and_assoc]
  exact or_congr_right (and_congr_right fun ha => and_congr_left fun _ => hsign ha)

/-- An applied duty above the cap is clamped at once, its sign kept (R72). -/
theorem slewDuty_above {cap rate : Nat} {target applied : Int} (h : cap < applied.natAbs) :
    slewDuty cap rate target applied = if applied < 0 then -(cap : Int) else cap := by
  unfold slewDuty signInt
  rw [if_pos h]
  split_ifs <;> omega

/-- An applied duty within the cap moves toward the limited target by at most the rate (R72). -/
theorem slewDuty_within {cap rate : Nat} {target applied : Int} (h : applied.natAbs ≤ cap) :
    slewDuty cap rate target applied =
      if max (-(cap : Int)) (min cap target) < applied then max (max (-(cap : Int)) (min cap target)) (applied - rate)
      else min (max (-(cap : Int)) (min cap target)) (applied + rate) := by
  unfold slewDuty
  rw [if_neg (not_lt.2 h)]
  unfold clampInt signInt
  generalize max (-(cap : Int)) (min cap target) = goal
  dsimp only
  split_ifs <;> omega

/-! ### The step -/

section
variable (s : State)

theorem State.protDrives_iff : s.protDrives = true ↔ s.prot.st = .normal ∨ s.prot.st = .warn := by
  simp [State.protDrives]

/-- The target duty (R69). -/
theorem State.driveTarget_eq :
    s.driveTarget =
      if s.countedRunning = true ∧ (s.prot.st = .normal ∨ s.prot.st = .warn) ∧ s.cfg.driveEn = true then
        s.valueOf .throttle else 0 :=
  if_congr (by simp [State.protDrives_iff, and_assoc]) rfl rfl

theorem State.driveDemand_eq :
    s.driveDemand =
      if s.cfg.driveEn = true ∧ s.countedRunning = true then (s.valueOf .throttle).natAbs * s.cfg.driveRated / 1000
      else 0 :=
  if_congr (by simp) rfl rfl

theorem State.drivePwmReleased_iff : s.drivePwmReleased = true ↔
    s.rsc.run = .running ∧ (s.prot.st = .normal ∨ s.prot.st = .warn) ∧ s.prot.sw = .closed ∧ s.cfg.driveEn = true := by
  simp [State.drivePwmReleased, State.protDrives_iff, and_assoc]

theorem State.driveBrkReleased_iff : s.driveBrkReleased = true ↔
    (s.rsc.run = .running ∨ s.rsc.run = .arming) ∧ s.prot.st ≠ .lockout ∧ s.prot.sw = .closed ∧ s.cfg.driveEn = true := by
  simp [State.driveBrkReleased, and_assoc]

theorem RunState.bench_iff (run : RunState) : run.bench = true ↔ run = .benchDry ∨ run = .benchWet := by
  cases run <;> simp [RunState.bench]

/-- DRV_DIR after a direction (R73). -/
theorem dirLevelAfter_eq (dir : DriveDir) (level : Bool) :
    dirLevelAfter dir level = if dir = .forward then false else if dir = .backward then true else level := by
  cases dir <;> rfl

/-- No gear is asked for where the switch does not count as CLOSED or the gear asked for is engaged (R76). -/
theorem State.gearRequest_none (h : s.countedClosed = false ∨ Gear.ofValue (s.valueOf .gear) = s.drv.gear) :
    s.gearRequest = none := by
  unfold State.gearRequest
  rcases h with h | h <;> simp [h]

theorem State.gearRequest_some (hc : s.countedClosed = true) (hg : Gear.ofValue (s.valueOf .gear) ≠ s.drv.gear) :
    s.gearRequest = some (Gear.ofValue (s.valueOf .gear)) := by
  simp [State.gearRequest, hc, hg]

theorem State.shiftMade_iff (applied : Int) : s.shiftMade applied = true ↔
    s.gearRequest.isSome = true ∧ applied.natAbs ≤ s.cfg.gearShiftMax ∧ s.bgt.servoShort = false := by
  simp [State.shiftMade, and_assoc]

/-- The gear after a step (R76, R77). -/
theorem State.driveAfterStep_gear :
    let d := s.driveAfterStep
    let wanted := Gear.ofValue (s.valueOf .gear)
    let shifts := d.applied.natAbs ≤ s.cfg.gearShiftMax ∧ s.bgt.servoShort = false
    (s.countedClosed = false ∨ wanted = s.drv.gear → d.gear = s.drv.gear ∧ d.pendingGear = none) ∧
      (s.countedClosed = true → wanted ≠ s.drv.gear →
        (shifts → d.gear = wanted ∧ d.pendingGear = none) ∧
          (¬shifts → d.gear = s.drv.gear ∧ d.pendingGear = some wanted)) := by
  intro d wanted shifts
  have hgear : d.gear = if s.shiftMade d.applied then s.gearRequest.getD s.drv.gear else s.drv.gear := rfl
  have hpending : d.pendingGear = if s.shiftMade d.applied then none else s.gearRequest := rfl
  have hmade : s.shiftMade d.applied = true ↔ s.gearRequest.isSome = true ∧ shifts := s.shiftMade_iff d.applied
  rw [hgear, hpending]
  refine ⟨fun h => ?_, fun hc hg => ?_⟩
  · simp [s.gearRequest_none h]
  · have hreq := s.gearRequest_some hc hg
    have hmade' : s.shiftMade d.applied = true ↔ shifts := hmade.trans (by simp [hreq])
    exact ⟨fun h => by simp [hmade'.2 h, hreq, wanted], fun h => by simp [mt hmade'.1 h, hreq, wanted]⟩

/-- A drive step at its moment. -/
theorem exec_driveStep :
    exec .driveStep s =
      .next ((s.reach s.drv.nextStep).withDrv (s.reach s.drv.nextStep).driveAfterStep).settle := rfl

end

/-- Settles O57: the cap and the target formed, the duty by `slewDuty`, the signals by `brakeSignal_iff`, the gear by
`driveAfterStep_gear`. -/
theorem driveStepDrives : Obligations.DriveStepDrives := by
  intro s cap cap' target goal
  have htarget : (s.reach s.drv.nextStep).driveTarget = target := (s.reach s.drv.nextStep).driveTarget_eq
  have hdemand := (s.reach s.drv.nextStep).driveDemand_eq
  have hpwm := (s.reach s.drv.nextStep).drivePwmReleased_iff
  have hbrk := (s.reach s.drv.nextStep).driveBrkReleased_iff
  have hgear := (s.reach s.drv.nextStep).driveAfterStep_gear
  have happlied : (s.reach s.drv.nextStep).driveAfterStep.applied =
      slewDuty cap' s.cfg.rate (s.reach s.drv.nextStep).driveTarget s.drv.applied := rfl
  rw [htarget] at happlied
  refine ⟨_, exec_driveStep s, rfl, rfl, rfl, rfl, rfl, rfl, rfl, htarget, fun h => happlied.trans (slewDuty_above h),
    fun h => happlied.trans (slewDuty_within h), rfl, ?drag, ?brake, rfl, hdemand, ?pwm, ?dir, ?brk, hgear, ?frame⟩
  case drag =>
    rw [← htarget]
    exact (Bool.decide_and ..).symm
  case brake =>
    rw [← htarget]
    exact brakeSignal_iff _ _ _
  case pwm => exact if_congr hpwm rfl rfl
  case dir => exact if_congr s.rsc.run.bench_iff rfl (dirLevelAfter_eq _ _)
  case brk => exact if_congr (by rw [Bool.and_eq_true, hbrk]; rfl) rfl rfl
  case frame =>
    refine changesOnly_settle ?_ rfl rfl
    intro b hb _ _
    cases b <;> first | rfl | exact absurd (by simp) hb

end Sys2Proof.Machine
end

section
/-! PROOFS. The duty a winch step forms and the drive's reaction to it (R71, R75, R97), and the parts of a step that stand
still. -/

namespace Sys2Proof.Machine

/-! ### Magnitudes -/

theorem signInt_eq_sign (x : Int) : signInt x = x.sign := by
  unfold signInt
  rcases lt_trichotomy x 0 with h | rfl | h
  · simp [h, h.le, Int.sign_eq_neg_one_of_neg h]
  · rfl
  · simp [h, Int.sign_eq_one_of_pos h]

/-- A magnitude limited to a cap, as a range (R97). -/
theorem limitMagnitude_eq (cap : Nat) (x : Int) : limitMagnitude cap x = max (-(cap : Int)) (min cap x) := by
  unfold limitMagnitude signInt
  split_ifs <;> omega

/-- A value above the cap keeps its sign (R71). -/
theorem limitMagnitude_above {cap : Nat} {x : Int} (h : cap < x.natAbs) :
    limitMagnitude cap x = if x < 0 then -(cap : Int) else cap := by
  rw [limitMagnitude_eq]
  split_ifs <;> omega

/-! ### The drive follows the moving flag (R71) -/

/-- The drive after a rise of the moving flag with a duty above WINCH_DRIVE_CAP (R71). -/
theorem Drv.winchStarts_clamped {cap : Nat} {released : Bool} {d : Drv} (h : cap < d.applied.natAbs) :
    d.winchStarts cap released =
      let clamped : Int := if d.applied < 0 then -(cap : Int) else cap
      { d with
        interlock := true
        applied := clamped
        dir := if 0 < clamped then .forward else if clamped < 0 then .backward else .none
        brake := d.dragBrake || decide (clamped ≠ 0 ∧
          (d.target = 0 ∨ (d.target < 0 ↔ clamped < 0)) ∧ d.target.natAbs < cap)
        reverse := decide (clamped < 0)
        pwm := if released then cap else 0 } := by
  extract_lets clamped
  have hlimit : limitMagnitude cap d.applied = clamped := limitMagnitude_above h
  have habs : clamped.natAbs = cap := by simp only [clamped]; split_ifs <;> omega
  have hbrake : brakeSignal d.target clamped d.dragBrake = (d.dragBrake || decide (clamped ≠ 0 ∧
      (d.target = 0 ∨ (d.target < 0 ↔ clamped < 0)) ∧ d.target.natAbs < cap)) := by
    rw [Bool.eq_iff_iff, brakeSignal_iff, habs, Bool.or_eq_true, decide_eq_true_iff]
    grind
  unfold Drv.winchStarts
  rw [if_pos h, hlimit, habs, hbrake]
  rfl

/-- The drive has followed the winch where it has reacted to the moving flag as it stands at the end. -/
theorem driveFollows_of_onMoving {s t : State}
    (h : t.drv = s.drv.onMoving s.cfg.winchDriveCap s.drivePwmReleased s.wch.moving t.wch.moving) : driveFollows s t := by
  unfold driveFollows
  dsimp only
  refine ⟨fun hm => ?_, fun hs ht => ?_, fun hs ht => ⟨fun hle => ?_, fun hlt => ?_⟩⟩
  · simp [h, hm, Drv.onMoving]
  · simp [h, hs, ht, Drv.onMoving]
  · simp [h, hs, ht, Drv.onMoving, Drv.winchStarts, not_lt.2 hle]
  · have hstarts : t.drv = s.drv.winchStarts s.cfg.winchDriveCap s.drivePwmReleased := by
      simp [h, hs, ht, Drv.onMoving]
    rw [hstarts, Drv.winchStarts_clamped hlt]
    simp only [State.drivePwmReleased_iff]

section
variable (s : State)

/-! ### The duty formed (R97) -/

theorem State.winchMayDrive_iff : s.winchMayDrive = true ↔
    s.countedRunning = true ∧ (s.prot.st = .normal ∨ s.prot.st = .warn) ∧ s.countedClosed = true ∧
      s.cfg.winchEn = true := by
  simp [State.winchMayDrive, State.protDrives_iff, and_assoc]

theorem Wch.atLimit_iff (w : Wch) (c : Settings) : w.atLimit c = true ↔
    w.referenced = true ∧ ((c.lineMax * c.pulsesPerTurn : Nat) : Int) ≤ w.linePos := by
  simp [Wch.atLimit, Settings.lineLimit]

/-- The duty of a step: the speed commanded within the cap where the winch may drive and no line limit stands against it,
and 0 otherwise (R95, R97). -/
theorem State.winchDuty_eq (cap : Nat) :
    s.winchDuty cap =
      if s.winchMayDrive = true ∧ ¬(0 < s.winchCommand ∧ s.wch.atLimit s.cfg = true) then
        max (-(cap : Int)) (min cap s.winchCommand)
      else 0 := by
  unfold State.winchDuty
  simp only [limitMagnitude_eq]
  by_cases hmay : s.winchMayDrive = true <;> by_cases hlimit : s.wch.atLimit s.cfg = true <;> simp [hmay, hlimit]
  split_ifs <;> omega

/-- WCH_PWM carries a duty that R97 has let through, in RUNNING with the switch CLOSED (R98). -/
theorem State.winchReleased_pwm (d : Int) (h : d ≠ 0 → s.winchMayDrive = true) :
    (if s.winchReleased then d.natAbs else 0) = if s.rsc.run = .running ∧ s.prot.sw = .closed then d.natAbs else 0 := by
  by_cases hd : d = 0
  · simp [hd]
  · obtain ⟨-, hst, -, hen⟩ := s.winchMayDrive_iff.1 (h hd)
    exact if_congr (by simp [State.winchReleased, s.protDrives_iff.2 hst, hen]) rfl rfl

/-! ### The current check and the stall timers (R109) -/

/-- The current check's condition, as Safety.lean has it. -/
theorem State.estimateHigh_eq : s.estimateHigh = s.stallCurrent := by
  unfold State.estimateHigh State.winchEstimate State.stallCurrent
  cases s.published .packCurrent with
  | none => rfl
  | some pack =>
    cases s.published .servoCurrent with
    | none => rfl
    | some rail => exact decide_eq_decide.2 (by omega)

theorem State.stallFound_iff (current drum : Option Nat) :
    s.stallFound current drum = true ↔ s.stallDue s.now current drum := by
  simp only [State.stallFound, State.estimateHigh_eq, Option.any_eq_true, Bool.or_eq_true, Bool.and_eq_true,
    decide_eq_true_eq]
  exact Iff.rfl

/-! ### The parts of a step that have nothing to do -/

/-- No order starts at a step where the conditions of R104 fail or nothing is POSTED. -/
theorem State.startOrder_none (h : s.mayStartOrder = false ∨ s.wch.oldestPosted = none) : s.startOrder = s := by
  unfold State.startOrder
  rcases h with h | h <;> simp [h]

theorem State.orderChecks_none (h : s.wch.active = none) : s.orderChecks = s := by
  simp [State.orderChecks, h]

/-- With AP holding WINCH and no order ACTIVE a step stops the motor (R97, R105). -/
theorem State.driveWinch_none (hap : s.holderOf .winch = .ap) (h : s.wch.active = none) :
    s.driveWinch = s.finishWinchStep 0 := by
  have hcommand : s.winchCommand = 0 := by simp [State.winchCommand, hap, h]
  have hduty : s.winchDuty s.wch.speedCap = 0 := by simp [State.winchDuty_eq, hcommand]
  simp [State.driveWinch, State.stallChecks, hap, h, hduty]

/-- In a retry pause a step stops the motor, and no stall is looked for (R110). -/
theorem State.driveWinch_paused {i : Fin 4} {o : Order} {r : OrderRun} (hap : s.holderOf .winch = .ap)
    (h : s.wch.active = some (i, o, r)) (hp : r.pauseStart.isSome = true) : s.driveWinch = s.finishWinchStep 0 := by
  have hne : r.pauseStart.isNone = false := by simpa using hp
  have hcommand : s.winchCommand = 0 := by simp [State.winchCommand, hap, h, hne]
  have hduty : s.winchDuty s.wch.speedCap = 0 := by simp [State.winchDuty_eq, hcommand]
  simp [State.driveWinch, State.stallChecks, hap, h, hp, hduty]

/-- An order drives at its signed speed (R105). -/
theorem State.driveWinch_order {i : Fin 4} {o : Order} {r : OrderRun} (hap : s.holderOf .winch = .ap)
    (h : s.wch.active = some (i, o, r)) (hp : r.pauseStart = none) :
    s.driveWinch =
      (s.orderStallChecks i o r (s.winchDuty s.wch.speedCap)).1.finishWinchStep
        (s.orderStallChecks i o r (s.winchDuty s.wch.speedCap)).2 := by
  simp [State.driveWinch, State.stallChecks, hap, h, hp]

theorem State.driveWinch_direct (hap : s.holderOf .winch ≠ .ap) :
    s.driveWinch =
      (s.directStallChecks (s.winchDuty s.wch.speedCap)).1.finishWinchStep
        (s.directStallChecks (s.winchDuty s.wch.speedCap)).2 := by
  simp [State.driveWinch, State.stallChecks, hap]

/-! ### The end of a step (R96, steps 6 to 8) -/

/-- The demand a step publishes is the one of the state the motor is driven from (R26). -/
theorem State.finishWinchStep_demand (d : Int) : (s.finishWinchStep d).wch.demand = s.winchDemand := by
  have hset : (s.setWinchDuty d).winchDemand = s.winchDemand := rfl
  have hwritten (v : Int) : ((s.setWinchDuty d).writeHeldWinchValue v).winchDemand = (s.setWinchDuty d).winchDemand := by
    by_cases hap : (s.setWinchDuty d).holderOf .winch = .ap
    · have hap' : ((s.setWinchDuty d).writeHeldWinchValue v).holderOf .winch = .ap := by simpa using hap
      unfold State.winchDemand State.winchAsked
      simp only [hap, hap', State.writeHeldWinchValue_wch]
      rfl
    · rw [State.writeHeldWinchValue_other _ _ hap]
  exact (hwritten _).trans hset

end

/-! ### The ACTIVE order (R101) -/

/-- The order of a slot is the ACTIVE one where no other slot is. -/
theorem Wch.active_of_only {w : Wch} {i : Fin 4} {o : Order} {r : OrderRun} (ho : w.slots.get i = some o)
    (hr : o.phase = .active r) (hone : ∀ j, w.activeAt j → j = i) : w.active = some (i, o, r) := by
  have hact : o.isActive = true := by simp [Order.isActive, Order.run?, hr]
  cases ha : w.active with
  | none => exact absurd ⟨o, ho, hact⟩ (w.active_eq_none_iff.1 ha i)
  | some a =>
    obtain ⟨j, p, q⟩ := a
    obtain rfl := hone j (w.activeAt_of_active ha)
    obtain ⟨hp, hq, -⟩ := w.active_spec j p q ha
    obtain rfl := Option.some.inj (ho.symm.trans hp)
    rw [hr] at hq
    cases hq
    rfl

/-- Where no slot but one is ACTIVE, none but that one is with its record replaced. -/
theorem Wch.activeAt_set {w w' : Wch} {i : Fin 4} {p : Option Order} (hone : ∀ j, w.activeAt j → j = i)
    (h : w'.slots = w.slots.set i p) (j : Fin 4) (hj : w'.activeAt j) : j = i := by
  by_contra hne
  unfold Wch.activeAt at hj hone
  rw [h, PerSlot.get_set_other _ _ _ _ hne] at hj
  exact hne (hone j hj)

/-- Nothing is POSTED where no slot holds a POSTED order (R104). -/
theorem Wch.oldestPosted_none {w : Wch} (h : ∀ i o, w.slots.get i = some o → o.phase ≠ .posted) :
    w.oldestPosted = none := by
  refine List.findSome?_eq_none_iff.2 fun i _ => ?_
  cases ho : w.slots.get i with
  | none => rfl
  | some o => simp [h i o ho]

end Sys2Proof.Machine
end

section
/-! PROOFS. A winch step under way: what its first five parts may move, and what its end makes of the motor, the grant
table and an order that has ended (R96 to R98, R105, R106). -/

namespace Sys2Proof.Machine

/-- The record put into a slot last is the one there. -/
theorem PerSlot.set_set {α : Type} (r : PerSlot α) (i : Fin 4) (a b : α) : (r.set i a).set i b = r.set i b := by
  refine PerSlot.ext_get _ _ fun j => ?_
  by_cases hj : j = i
  · simp [hj]
  · simp [PerSlot.get_set_other _ _ _ _ hj]

theorem PerSlot.set_get {α : Type} (r : PerSlot α) (i : Fin 4) : r.set i (r.get i) = r := by
  refine PerSlot.ext_get _ _ fun j => ?_
  by_cases hj : j = i
  · simp [hj]
  · simp [PerSlot.get_set_other _ _ _ _ hj]

/-- What the parts of a winch step before its end (R96, steps 1 to 5) may move, beside the speed cap: the moment of the
step and the next one, the direct stall hold and timers, the slots and the stall arm. -/
structure StepMarks where
  now : Nat
  nextStep : Nat
  stallHold : Bool
  stalledSign : Option Int
  directCurrent : Option Nat
  directDrum : Option Nat
  slots : PerSlot (Option Order)
  stallArm : Bool

/-- A winch step under way from `s`, its speed cap formed (R40). -/
def State.atStep (s : State) (m : StepMarks) : State :=
  (s.withNow m.now).withWch
    { s.wch with
      nextStep := m.nextStep, speedCap := s.winchSpeedCap, stallHold := m.stallHold, stalledSign := m.stalledSign
      directCurrent := m.directCurrent, directDrum := m.directDrum, slots := m.slots, stallArm := m.stallArm }

/-- The moment a winch step begins from `s`: the clock there, and the time of the next step. -/
def State.stepBegins (s : State) (now next : Nat) : State := (s.withNow now).withWch { s.wch with nextStep := next }

/-- The direct stall hold outlives a step: it is present, and the WINCH value is not 0 nor of the opposite sign (R111). -/
def State.holdStays (s : State) : Bool :=
  s.wch.stallHold && s.valueOf .winch != 0 && s.wch.stalledSign != some (-(s.valueOf .winch).sign)

/-- The marks once the direct stall hold has been judged (R111). -/
def State.firstMarks (s : State) (now next : Nat) : StepMarks :=
  { now := now, nextStep := next, stallHold := s.holdStays
    stalledSign := if s.wch.stallHold && !s.holdStays then none else s.wch.stalledSign
    directCurrent := s.wch.directCurrent, directDrum := s.wch.directDrum, slots := s.wch.slots
    stallArm := s.wch.stallArm }

/-- A record put into a slot. -/
def StepMarks.put (m : StepMarks) (i : Fin 4) (o : Order) : StepMarks := { m with slots := m.slots.set i (some o) }

/-- The direct stall timers judged, or the direct stall made present (R109, R111). -/
def StepMarks.direct (m : StepMarks) (hold : Bool) (sign : Option Int) (current drum : Option Nat) : StepMarks :=
  { m with stallHold := hold, stalledSign := sign, directCurrent := current, directDrum := drum }

theorem StepMarks.put_slots {m : StepMarks} {slots : PerSlot (Option Order)} {i : Fin 4} {x : Option Order}
    (h : m.slots = slots.set i x) (o : Order) : (m.put i o).slots = slots.set i (some o) := by
  rw [StepMarks.put, h, PerSlot.set_set]

section
variable (s : State) (m : StepMarks)

@[simp] theorem State.atStep_now : (s.atStep m).now = m.now := rfl
@[simp] theorem State.atStep_cfg : (s.atStep m).cfg = s.cfg := rfl
@[simp] theorem State.atStep_holderOf (f : Fn) : (s.atStep m).holderOf f = s.holderOf f := rfl
@[simp] theorem State.atStep_valueOf (f : Fn) : (s.atStep m).valueOf f = s.valueOf f := rfl
@[simp] theorem State.atStep_slots : (s.atStep m).wch.slots = m.slots := rfl
@[simp] theorem State.atStep_stallHold : (s.atStep m).wch.stallHold = m.stallHold := rfl
@[simp] theorem State.atStep_speedCap : (s.atStep m).wch.speedCap = s.winchSpeedCap := rfl
@[simp] theorem State.atStep_mayDrive : (s.atStep m).winchMayDrive = s.winchMayDrive := rfl
@[simp] theorem State.atStep_atLimit : (s.atStep m).wch.atLimit s.cfg = s.wch.atLimit s.cfg := rfl

/-- An order put into a slot at a step under way is a step under way with that slot's record. -/
theorem State.atStep_putRun (i : Fin 4) (o : Order) (r : OrderRun) :
    (s.atStep m).withWch ((s.atStep m).wch.putRun i o r) =
      s.atStep (m.put i { o with phase := .active r }) := rfl

theorem State.atStep_active_congr {m : StepMarks} (h : m.slots = s.wch.slots) : (s.atStep m).wch.active = s.wch.active :=
  Wch.active_congr h

/-! ### The beginning of a step (R96, step 1; R111) -/

/-- A step begins with the speed cap formed and the direct stall hold judged. -/
theorem State.stepBegins_releaseHold (now next : Nat) :
    (s.stepBegins now next).formSpeedCap.releaseHold = s.atStep (s.firstMarks now next) := by
  have hends : (s.wch.stallHold && (s.valueOf .winch == 0 || s.wch.stalledSign == some (-signInt (s.valueOf .winch)))) =
      (s.wch.stallHold && !s.holdStays) := by
    unfold State.holdStays bne
    rw [signInt_eq_sign]
    cases s.wch.stallHold <;> simp
  have hrelease : (s.stepBegins now next).formSpeedCap.releaseHold =
      if s.wch.stallHold && (s.valueOf .winch == 0 || s.wch.stalledSign == some (-signInt (s.valueOf .winch))) then
        s.atStep { s.firstMarks now next with stallHold := false, stalledSign := none }
      else
        s.atStep { s.firstMarks now next with stallHold := s.wch.stallHold, stalledSign := s.wch.stalledSign } := rfl
  rw [hrelease, hends]
  unfold State.firstMarks
  cases hh : s.wch.stallHold
  · simp [hh, State.holdStays]
  · cases s.holdStays <;> simp

/-- The rest of a step's work, from there. -/
theorem State.stepBegins_winchWork (now next : Nat) :
    (s.stepBegins now next).winchWork = (s.atStep (s.firstMarks now next)).startOrder.orderChecks.driveWinch := by
  rw [State.winchWork, s.stepBegins_releaseHold]

theorem exec_winchStep :
    exec .winchStep s = .next
      (s.stepBegins (max s.now s.wch.nextStep) (max s.now s.wch.nextStep + stepPeriod)).winchWork.settle := rfl

/-! ### The end of a step: the motor driven (R97, R98, R105) -/

/-- The motor driven at the end of a step with the duty formed. -/
theorem winchDriven_finish {d value : Int} {lets : Prop} (hmay : lets → s.winchMayDrive = true)
    (hd : lets → d = max (-(s.winchSpeedCap : Int)) (min s.winchSpeedCap value)) (hd' : ¬lets → d = 0) :
    winchDriven s ((s.atStep m).finishWinchStep d).settle lets value := by
  have hdrives : d ≠ 0 → s.winchMayDrive = true := fun h => hmay (not_not.1 fun hn => h (hd' hn))
  refine ⟨rfl, hd, hd', ?_, s.winchReleased_pwm d hdrives, rfl, driveFollows_of_onMoving rfl⟩
  exact Bool.eq_iff_iff.2 (bne_iff_ne.trans decide_eq_true_iff.symm)

/-- A motor that stands. -/
theorem winchDriven_finish_zero (value : Int) :
    winchDriven s ((s.atStep m).finishWinchStep 0).settle False value :=
  winchDriven_finish s m nofun nofun fun _ => rfl

/-- Under AP the end of a step writes the WINCH value, and no order has ended before it. -/
theorem changesOnly_finish (d : Int) :
    changesOnly [.now, .grt, .wch, .drv] s ((s.atStep m).finishWinchStep d).settle := by
  refine changesOnly_settle ?_ rfl rfl
  intro b hb _ _
  cases b <;> first | rfl | exact absurd (by simp) hb

/-- Under direct drive it writes no value. -/
theorem changesOnly_finish_direct (d : Int) (hap : s.holderOf .winch ≠ .ap) :
    changesOnly [.now, .wch, .drv] s ((s.atStep m).finishWinchStep d).settle := by
  have hgrt (v : Int) : (((s.atStep m).setWinchDuty d).writeHeldWinchValue v).grt = s.grt := by
    rw [State.writeHeldWinchValue_other ((s.atStep m).setWinchDuty d) v hap]
    rfl
  refine changesOnly_settle ?_ rfl rfl
  intro b hb _ _
  cases b <;> first | exact hgrt _ | rfl | exact absurd (by simp) hb

/-- The end of a step leaves the queue, the speed cap and the port. -/
theorem State.finishWinchStep_kept (v : State) (d : Int) :
    (v.finishWinchStep d).wch.slots = v.wch.slots ∧ (v.finishWinchStep d).wch.runFlag = v.wch.runFlag ∧
      (v.finishWinchStep d).wch.postList = v.wch.postList ∧ (v.finishWinchStep d).wch.speedCap = v.wch.speedCap ∧
      (v.finishWinchStep d).wch.stallArm = v.wch.stallArm ∧ (v.finishWinchStep d).acp = v.acp :=
  ⟨rfl, rfl, rfl, rfl, rfl, rfl⟩

theorem State.finishWinchStep_drv (v : State) (d : Int) :
    (v.finishWinchStep d).drv = v.drv.onMoving v.cfg.winchDriveCap v.drivePwmReleased v.wch.moving (d != 0) := rfl

/-- The motor at rest after a step with a duty of 0. -/
theorem State.finishWinchStep_rest (v : State) : (v.finishWinchStep 0).wch.atRest :=
  ⟨rfl, rfl, State.setWinchDuty_zero_pwm v⟩

/-- The WINCH value written at the end of a step under AP (R105). -/
theorem State.finishWinchStep_fns (v : State) (d : Int) (hap : v.holderOf .winch = .ap) (f : Fn) :
    (v.finishWinchStep d).grt.fns.get f =
      if f = .winch then { v.grt.fns.get f with value := v.orderedValue } else v.grt.fns.get f := by
  have h := State.writeHeldWinchValue_get (v.setWinchDuty d) v.orderedValue f
  have hap' : (v.setWinchDuty d).holderOf .winch = .ap := hap
  simp only [hap', and_true] at h
  exact h

/-- With AP holding WINCH and no order ACTIVE nothing is asked for (R26, R105). -/
theorem State.winchDemand_none {v : State} (hap : v.holderOf .winch = .ap) (h : v.wch.active = none) :
    v.winchDemand = 0 ∧ v.orderedValue = 0 := by
  simp [State.winchDemand, State.winchAsked, State.orderedValue, hap, h]

/-- What a step writes for an ACTIVE order, whose speed the record put into its slot keeps (R26, R105). -/
theorem orderAsked_finish {i : Fin 4} {o p : Order} {r : OrderRun} (d : Int) (hap : s.holderOf .winch = .ap)
    (ha : (s.atStep m).wch.active = some (i, p, r)) (hkind : p.kind = o.kind) (hspeed : p.speed = o.speed) :
    orderAsked s ((s.atStep m).finishWinchStep d).settle o := by
  have hsigned : p.signedSpeed = o.signedSpeed := by simp [Order.signedSpeed, hkind, hspeed]
  have hordered : (s.atStep m).orderedValue = o.signedSpeed := by simp [State.orderedValue, ha, hsigned]
  have hdemand : (s.atStep m).winchDemand = if s.cfg.winchEn then s.cfg.winchRated * o.speed / 1000 else 0 := by
    simp [State.winchDemand, State.winchAsked, ha, hspeed]
  refine ⟨(State.finishWinchStep_demand _ d).trans hdemand, fun f => ?_, rfl, rfl, rfl, changesOnly_finish s m d⟩
  have h := (s.atStep m).finishWinchStep_fns d hap f
  rw [hordered] at h
  exact h

/-! ### The end of a step: an order ended (R106) -/

/-- The winch after the end of an order that was ACTIVE. -/
theorem State.endOrder_wch {i : Fin 4} {o : Order} (result : OrderResult) (h : o.isActive = true) :
    (s.endOrder i o result).wch =
      { s.wch with
        slots := s.wch.slots.set i (some (o.ended result)), runFlag := s.wch.runFlag && result == .ok
        duty := 0, moving := false, pwm := 0 } := by
  simp [State.endOrder, h, Wch.putOrder, Order.ended, State.setWinchDuty]

/-- The drive after it (R71). -/
theorem State.endOrder_drv {i : Fin 4} {o : Order} (result : OrderResult) (h : o.isActive = true) :
    (s.endOrder i o result).drv = s.drv.onMoving s.cfg.winchDriveCap s.drivePwmReleased s.wch.moving false := by
  simp [State.endOrder, h, Wch.putOrder, Drv.onMoving]

theorem State.endOrder_holderOf (i : Fin 4) (o : Order) (result : OrderResult) (f : Fn) :
    (s.endOrder i o result).holderOf f = s.holderOf f := by
  rw [← s.writeHeldWinchValue_holder 0 f]
  exact congrArg (fun g : Grt => (g.fns.get f).holder) (s.endOrder_grt i o result)

/-- The fault of a result is latched through the end of the step (R106, R151). -/
theorem State.endOrder_latches {i : Fin 4} {o : Order} {result : OrderResult} {e : FaultEntry}
    (h : ∀ v : State, v.raiseResult result = v.raise e) :
    ((s.endOrder i o result).finishWinchStep 0).settle.faultLatched e = true := by
  have hraised : (s.endOrder i o result).faultLatched e = true := by
    unfold State.endOrder
    dsimp only
    rw [h, State.raise_faultLatched]
    simp
  have hkept : ((s.endOrder i o result).finishWinchStep 0).faultLatched e = (s.endOrder i o result).faultLatched e := rfl
  rw [State.settle_faultLatched, hkept, hraised, Bool.true_or]

/-- Where only one order is ACTIVE, none is after its end. -/
theorem State.endOrder_active_none {i : Fin 4} {o : Order} (result : OrderResult)
    (hone : ∀ j, s.wch.activeAt j → j = i) (hi : s.wch.activeAt i) : (s.endOrder i o result).wch.active = none := by
  obtain ⟨hslots, -⟩ := s.endOrder_queue i o result
  exact (Wch.active_eq_none_iff _).2
    (Wch.not_activeAt_ended (fun a b ha hb => (hone a ha).trans (hone b hb).symm) hi result hslots)

variable {s m} in
/-- A step under way that has put an ACTIVE record into the slot of the only ACTIVE order. -/
theorem State.atStep_active {i : Fin 4} {p : Order} {r : OrderRun} (hone : ∀ j, s.wch.activeAt j → j = i)
    (hp : p.phase = .active r) (hm : m.slots = s.wch.slots.set i (some p)) :
    (s.atStep m).wch.active = some (i, p, r) ∧ ∀ j, (s.atStep m).wch.activeAt j → j = i :=
  have hone' : ∀ j, (s.atStep m).wch.activeAt j → j = i := Wch.activeAt_set hone hm
  ⟨Wch.active_of_only (by simp [hm]) hp hone', hone'⟩

variable {s m} in
/-- A step that has ended the order of slot `i`, and stops the motor (R106). -/
theorem orderEnded_finish {i : Fin 4} {o p : Order} {r : OrderRun} (result : OrderResult) (hap : s.holderOf .winch = .ap)
    (hone : ∀ j, s.wch.activeAt j → j = i) (hp : p.phase = .active r) (hended : p.ended result = o.ended result)
    (hm : m.slots = s.wch.slots.set i (some p)) :
    orderEnded s (((s.atStep m).endOrder i p result).finishWinchStep 0).settle i o result := by
  obtain ⟨hactive, hone'⟩ := State.atStep_active hone hp hm
  have hisActive : p.isActive = true := by simp [Order.isActive, Order.run?, hp]
  have hwch := (s.atStep m).endOrder_wch (i := i) result hisActive
  have hdrv := (s.atStep m).endOrder_drv (i := i) result hisActive
  have hnone := (s.atStep m).endOrder_active_none result hone' ((s.atStep m).wch.activeAt_of_active hactive) (o := p)
  have hap' : ((s.atStep m).endOrder i p result).holderOf .winch = .ap := by
    rw [State.endOrder_holderOf]; exact hap
  obtain ⟨hdone, -⟩ := (s.atStep m).endOrder_acp i p result
  obtain ⟨hdemand, hordered⟩ := State.winchDemand_none hap' hnone
  have hvalue := State.finishWinchStep_fns _ 0 hap' .winch
  obtain ⟨hslots, hflag, hpost, hcap, -, hacp⟩ := ((s.atStep m).endOrder i p result).finishWinchStep_kept 0
  obtain ⟨hduty, hmoving, hpwm⟩ := ((s.atStep m).endOrder i p result).finishWinchStep_rest
  rw [hordered, if_pos rfl] at hvalue
  unfold orderEnded State.valueOf
  rw [State.settle_wch, State.settle_grt, hslots, hflag, hpost, hcap, hwch, State.finishWinchStep_demand, hdemand, hvalue,
    hended]
  refine ⟨?slots, rfl, rfl, hduty, hmoving, hpwm, rfl, rfl, ?done, rfl, driveFollows_of_onMoving ?drive, ?frame⟩
  case slots =>
    rw [State.atStep_slots, hm, PerSlot.set_set]
    cases result <;> rfl
  case done => rw [State.settle_acp, hacp]; exact hdone
  case drive =>
    rw [State.settle_drv, State.settle_wch, State.finishWinchStep_drv, hmoving, hwch, hdrv]
    rfl
  case frame =>
    refine unchangedBut_settle ?_ (by simp) (by simp)
    intro b hb _ _
    cases b <;> simp at hb <;> simp [State.agree] <;> rfl

end

end Sys2Proof.Machine
end

section
/-! PROOFS. O46: the stall checks of a winch step, and an ACTIVE order carried by it (R96, R97, R105, R109, R110). -/

namespace Sys2Proof.Machine

/-- What an ACTIVE order carries once its stall timers have been judged with a duty (R109). -/
def OrderRun.judged (r : OrderRun) (s : State) (duty : Int) : OrderRun :=
  { r with
    currentTimer := timerAfter (duty != 0 && s.stallCurrent) s.now r.currentTimer
    drumTimer := timerAfter (duty != 0) s.now r.drumTimer }

/-- What it carries into a retry pause (R110). -/
def OrderRun.paused (r : OrderRun) (now : Nat) : OrderRun :=
  { r with pauseStart := some now, currentTimer := none, drumTimer := none, armed := false }

/-- The stall arm after a stall of an order that carries `r`: clear where it acted (R169). -/
def StepMarks.armSpent (m : StepMarks) (r : OrderRun) : StepMarks := { m with stallArm := m.stallArm && !r.armed }

section
variable (s : State)

/-! ### The stall checks (R96, step 5) -/

/-- A step that finds no stall of the ACTIVE order, or forms a duty of 0, goes on with its stall timers judged (R109). -/
theorem State.orderStallChecks_carries (i : Fin 4) (o : Order) {r : OrderRun} {d : Int}
    (h : d ≠ 0 → ¬(s.armedStall r = true ∨ s.stallDue s.now r.currentTimer r.drumTimer)) :
    s.orderStallChecks i o r d = (s.withWch (s.wch.putRun i o (r.judged s d)), d) := by
  unfold State.orderStallChecks OrderRun.judged
  by_cases hd : d = 0
  · simp [hd, timerAfter]
  · obtain ⟨harmed, hdue⟩ := not_or.1 (h hd)
    have hfound : s.stallFound r.currentTimer r.drumTimer = false := by simpa [← s.stallFound_iff] using hdue
    simp [hd, harmed, hfound, timerAfter, State.currentTimerAfter, State.estimateHigh_eq]

/-- A stall arm that does not act on the order stays as it is (R169). -/
theorem stallArm_kept {arm armed : Bool} (h : ¬(arm = true ∧ armed = true)) : (arm && !armed) = arm := by
  cases arm <;> cases armed <;> simp_all

/-- A stall of the ACTIVE order takes the stall arm with it where the arm acted (R169), and stops the motor (R110). -/
theorem State.orderStallChecks_stalls (i : Fin 4) (o : Order) {r : OrderRun} {d : Int} (hd : d ≠ 0)
    (h : s.armedStall r = true ∨ s.stallDue s.now r.currentTimer r.drumTimer) :
    s.orderStallChecks i o r d =
      ((s.withWch { s.wch with stallArm := s.wch.stallArm && !r.armed }).orderStalls i o r, 0) := by
  unfold State.orderStallChecks
  rw [if_neg (by simpa using hd)]
  by_cases harmed : s.armedStall r = true
  · obtain ⟨harm, hr⟩ : s.wch.stallArm = true ∧ r.armed = true := by simpa [State.armedStall] using harmed
    simp [harmed, hr]
  · have hkeeps : (s.wch.stallArm && !r.armed) = s.wch.stallArm :=
      stallArm_kept (by simpa [State.armedStall] using harmed)
    have hfound := (s.stallFound_iff _ _).2 (h.resolve_left harmed)
    rw [hkeeps, if_neg harmed, if_pos hfound]
    rfl

theorem State.directStallChecks_carries {d : Int}
    (h : d ≠ 0 → ¬s.stallDue s.now s.wch.directCurrent s.wch.directDrum) :
    s.directStallChecks d =
      (s.withWch
        { s.wch with
          directCurrent := timerAfter (d != 0 && s.stallCurrent) s.now s.wch.directCurrent
          directDrum := timerAfter (d != 0) s.now s.wch.directDrum }, d) := by
  unfold State.directStallChecks
  by_cases hd : d = 0
  · simp [hd, timerAfter]
  · have hfound : s.stallFound s.wch.directCurrent s.wch.directDrum = false := by
      simpa [← s.stallFound_iff] using h hd
    simp [hd, hfound, timerAfter, State.currentTimerAfter, State.estimateHigh_eq]

theorem State.directStallChecks_stalls {d : Int} (hd : d ≠ 0)
    (h : s.stallDue s.now s.wch.directCurrent s.wch.directDrum) : s.directStallChecks d = (s.directStalls, 0) := by
  unfold State.directStallChecks
  rw [if_neg (by simpa using hd), if_pos ((s.stallFound_iff _ _).2 h)]

/-! ### An ACTIVE order (R105, R109, R110) -/

variable {s} {m : StepMarks} {i : Fin 4} {o : Order} {r : OrderRun}

/-- R97 lets an order drive, in the terms of the model. -/
theorem State.winchOpen_iff : s.winchOpen o ↔
    s.winchMayDrive = true ∧ ¬(0 < o.signedSpeed ∧ s.wch.atLimit s.cfg = true) := by
  rw [State.winchMayDrive_iff, Wch.atLimit_iff]
  simp only [State.winchOpen, and_assoc]

theorem Order.signedSpeed_eq_zero (o : Order) : o.signedSpeed = 0 ↔ o.speed = 0 := by
  unfold Order.signedSpeed
  split <;> omega

theorem clamped_ne_zero (cap : Nat) (x : Int) : max (-(cap : Int)) (min cap x) ≠ 0 ↔ cap ≠ 0 ∧ x ≠ 0 := by
  constructor <;> intro h <;> omega

/-- The duty a step forms for an ACTIVE order out of a retry pause: its speed within the cap where R97 lets it drive, and
then not 0 where neither cap nor speed is. -/
theorem State.atStep_duty (hap : s.holderOf .winch = .ap) (ha : (s.atStep m).wch.active = some (i, o, r))
    (hp : r.pauseStart = none) :
    (s.winchOpen o → (s.atStep m).winchDuty s.winchSpeedCap =
        max (-(s.winchSpeedCap : Int)) (min s.winchSpeedCap o.signedSpeed)) ∧
      (¬s.winchOpen o → (s.atStep m).winchDuty s.winchSpeedCap = 0) ∧
      ((s.atStep m).winchDuty s.winchSpeedCap ≠ 0 ↔ s.winchOpen o ∧ s.winchSpeedCap ≠ 0 ∧ o.speed ≠ 0) := by
  have hcommand : (s.atStep m).winchCommand = o.signedSpeed := by simp [State.winchCommand, hap, ha, hp]
  have hspeed : o.signedSpeed ≠ 0 ↔ o.speed ≠ 0 := not_congr o.signedSpeed_eq_zero
  rw [State.winchDuty_eq, hcommand, State.atStep_cfg, State.atStep_atLimit, State.atStep_mayDrive, State.winchOpen_iff]
  split_ifs with hopen
  · exact ⟨fun _ => rfl, fun hn => absurd hopen hn, by rw [clamped_ne_zero, hspeed, and_iff_right hopen]⟩
  · exact ⟨fun hy => absurd hy hopen, fun _ => rfl, ⟨fun h => absurd rfl h, fun h => absurd h.1 hopen⟩⟩

/-- The last stall of an order ends it, and an earlier one begins a retry pause (R110). -/
theorem State.orderStalls_last (s : State) (i : Fin 4) {p : Order} (r : OrderRun)
    (h : p.noRetry = true ∨ s.cfg.winchRetries ≤ p.retriesUsed) : s.orderStalls i p r = s.endOrder i p .stall := by
  refine if_neg ?_
  rw [Bool.and_eq_true, decide_eq_true_iff, Bool.not_eq_true']
  rintro ⟨hno, hlt⟩
  rcases h with h | h
  · simp [h] at hno
  · omega

theorem State.orderStalls_retries (s : State) (i : Fin 4) {p : Order} (r : OrderRun)
    (h : ¬(p.noRetry = true ∨ s.cfg.winchRetries ≤ p.retriesUsed)) :
    s.orderStalls i p r =
      s.withWch (s.wch.putRun i { p with retriesUsed := p.retriesUsed + 1 } (r.paused s.now)) := by
  obtain ⟨hno, hlt⟩ := not_or.1 h
  refine if_pos ?_
  rw [Bool.and_eq_true, decide_eq_true_iff, Bool.not_eq_true']
  exact ⟨by simpa using hno, not_le.1 hlt⟩

theorem State.orderStalls_stallArm (s : State) (i : Fin 4) {p : Order} (hp : p.isActive = true) (r : OrderRun) :
    (s.orderStalls i p r).wch.stallArm = s.wch.stallArm := by
  unfold State.orderStalls
  split
  · rfl
  · rw [State.endOrder_wch _ _ hp]

/-- A stall handled at a step that formed a duty (R110): a retry pause, or the end of the order. -/
theorem orderStalled_finish (hap : s.holderOf .winch = .ap) (hone : ∀ j, s.wch.activeAt j → j = i)
    (hm : m.slots = s.wch.slots.set i (some { o with phase := .active r }))
    (hdrives : s.winchOpen o ∧ s.winchSpeedCap ≠ 0 ∧ o.speed ≠ 0) :
    orderStalled s (((s.atStep m).orderStalls i { o with phase := .active r } r).finishWinchStep 0).settle i o r := by
  unfold orderStalled
  extract_lets cap drives
  have hd : drives := hdrives
  by_cases hlast : o.noRetry = true ∨ s.cfg.winchRetries ≤ o.retriesUsed
  · have hends : (s.atStep m).orderStalls i { o with phase := .active r } r =
        (s.atStep m).endOrder i { o with phase := .active r } .stall := State.orderStalls_last _ i r hlast
    rw [hends]
    exact ⟨fun _ _ => ⟨orderEnded_finish .stall hap hone rfl rfl hm, State.endOrder_latches _ fun _ => rfl⟩,
      fun hn => absurd ⟨hd, hlast⟩ hn⟩
  · have hpauses := State.orderStalls_retries (s.atStep m) i (p := { o with phase := .active r }) r hlast
    rw [State.atStep_putRun, State.atStep_now] at hpauses
    have hslots := StepMarks.put_slots hm
      { o with retriesUsed := o.retriesUsed + 1, phase := .active (r.paused m.now) }
    obtain ⟨hactive, -⟩ := State.atStep_active hone rfl hslots
    obtain ⟨hcap, -, hduty, hmoving, hpwm, -, hfollows⟩ := winchDriven_finish_zero s _ o.signedSpeed
    obtain ⟨hdemand, hfns, -, hflag, -, hframe⟩ := orderAsked_finish s _ (o := o) 0 hap hactive rfl rfl
    have hzero := hduty id
    rw [hpauses]
    refine ⟨fun _ hl => absurd hl hlast, fun _ => ⟨fun _ => hslots, fun hn => absurd hd hn, hflag, hzero, ?_, ?_, hdemand,
      hcap, ?_, hfollows, hframe⟩⟩
    · rw [hmoving, hzero]; rfl
    · rw [hpwm, hzero]; simp
    · exact congrArg FnRecord.value (hfns .winch)

/-- Steps 4 to 8 of a winch step carry the order whose record, with `r`, has been put into its slot (R96). -/
theorem orderCarried_driveWinch (hap : s.holderOf .winch = .ap) (hone : ∀ j, s.wch.activeAt j → j = i)
    (hm : m.slots = s.wch.slots.set i (some { o with phase := .active r })) (harm : m.stallArm = s.wch.stallArm)
    (hp : r.pauseStart = none) : orderCarried s (s.atStep m).driveWinch.settle i o r := by
  obtain ⟨hactive, -⟩ := State.atStep_active hone (p := { o with phase := .active r }) rfl hm
  obtain ⟨hopen, hclosed, hdrives⟩ := State.atStep_duty hap hactive hp
  have harmed : (s.atStep m).armedStall r = true ↔ s.wch.stallArm = true ∧ r.armed = true := by
    simp [State.armedStall, State.atStep, harm]
  have hdriven := State.driveWinch_order (s.atStep m) hap hactive hp
  rw [State.atStep_speedCap] at hdriven
  by_cases hstall : (s.atStep m).winchDuty s.winchSpeedCap ≠ 0 ∧
      ((s.atStep m).armedStall r = true ∨ s.stallDue m.now r.currentTimer r.drumTimer)
  · have hfinal : (s.atStep m).driveWinch =
        ((s.atStep (m.armSpent r)).orderStalls i { o with phase := .active r } r).finishWinchStep 0 := by
      rw [hdriven, State.orderStallChecks_stalls _ i _ hstall.1 hstall.2]
      rfl
    have harm' : ((s.atStep (m.armSpent r)).orderStalls i { o with phase := .active r } r).wch.stallArm =
        (m.stallArm && !r.armed) := State.orderStalls_stallArm _ i rfl r
    have hnow : ((s.atStep (m.armSpent r)).orderStalls i { o with phase := .active r } r).now = m.now :=
      State.orderStalls_now ..
    rw [hfinal]
    unfold orderCarried
    extract_lets cap drives armed stalls
    have hd : drives := hdrives.1 hstall.1
    refine ⟨fun ⟨_, ha⟩ => ?_, fun hn => ?_, fun _ => orderStalled_finish hap hone hm hd, fun hn => absurd ⟨hd, ?_⟩ hn⟩
    · exact harm'.trans (by simp [ha.2])
    · rw [harm] at harm'
      exact harm'.trans (stallArm_kept fun ha => hn ⟨hd, ha⟩)
    · rw [State.settle_now, State.finishWinchStep_now, hnow]
      exact hstall.2.imp harmed.1 id
  · have hcarries := State.orderStallChecks_carries (s.atStep m) i { o with phase := .active r }
      fun hd h => hstall ⟨hd, h⟩
    rw [State.atStep_putRun] at hcarries
    have hslots := StepMarks.put_slots hm
      { o with phase := .active (r.judged (s.atStep m) ((s.atStep m).winchDuty s.winchSpeedCap)) }
    obtain ⟨hactive', -⟩ := State.atStep_active hone rfl hslots
    rw [hdriven, hcarries]
    unfold orderCarried
    extract_lets cap drives armed stalls
    have hn : ¬stalls := fun ⟨hd, h⟩ => hstall ⟨hdrives.2 hd, h.imp harmed.2 id⟩
    refine ⟨fun ⟨hd, ha⟩ => absurd ⟨hdrives.2 hd, .inl (harmed.2 ha)⟩ hstall, fun _ => harm, fun h => absurd h hn,
      fun _ => ⟨winchDriven_finish s _ (fun h => (State.winchOpen_iff.1 h).1) hopen hclosed,
        orderAsked_finish s _ _ hap hactive' rfl rfl, hslots⟩⟩

end

end Sys2Proof.Machine
end

section
/-! PROOFS. O46: the winch step as a whole, with an order ACTIVE, with none, and under direct drive (R96). -/

namespace Sys2Proof.Machine

section
variable (s : State)

/-! ### The time of the next step -/

@[simp] theorem State.endOrder_nextStep (i : Fin 4) (o : Order) (result : OrderResult) :
    (s.endOrder i o result).wch.nextStep = s.wch.nextStep := by
  unfold State.endOrder
  cases o.isActive <;> simp [State.setWinchDuty, Wch.putOrder]

theorem State.releaseHold_nextStep : s.releaseHold.wch.nextStep = s.wch.nextStep := by
  unfold State.releaseHold
  split <;> rfl

theorem State.startOrder_nextStep : s.startOrder.wch.nextStep = s.wch.nextStep := by
  unfold State.startOrder State.activate
  (repeat' split) <;> simp [Wch.putRun, Wch.putOrder]

theorem State.orderChecks_nextStep : s.orderChecks.wch.nextStep = s.wch.nextStep := by
  unfold State.orderChecks
  (repeat' split) <;> simp [Wch.putRun, Wch.putOrder]

theorem State.orderStalls_nextStep (i : Fin 4) (o : Order) (r : OrderRun) :
    (s.orderStalls i o r).wch.nextStep = s.wch.nextStep := by
  unfold State.orderStalls
  split <;> simp [Wch.putRun, Wch.putOrder]

theorem State.stallChecks_nextStep (d : Int) : (s.stallChecks d).1.wch.nextStep = s.wch.nextStep := by
  unfold State.stallChecks State.orderStallChecks State.directStallChecks State.directStalls
  (repeat' split) <;> simp [State.orderStalls_nextStep, Wch.putRun, Wch.putOrder]

/-- The work of a step leaves the time of the next one. -/
theorem State.winchWork_nextStep : s.winchWork.wch.nextStep = s.wch.nextStep := by
  have hbegun : s.formSpeedCap.releaseHold.wch.nextStep = s.wch.nextStep := State.releaseHold_nextStep s.formSpeedCap
  refine (State.finishWinchStep_spec _ _).2.2.2.trans ?_
  rw [State.stallChecks_nextStep, State.orderChecks_nextStep, State.startOrder_nextStep, hbegun]

/-- A step falls at its moment, and the next one a period later. -/
theorem State.winchWork_times (now next : Nat) :
    (s.stepBegins now next).winchWork.settle.now = now ∧
      (s.stepBegins now next).winchWork.settle.wch.nextStep = next :=
  ⟨by rw [State.settle_now, State.winchWork_now]; rfl, by rw [State.settle_wch, State.winchWork_nextStep]; rfl⟩

end

variable {s : State} {i : Fin 4} {o : Order} {r : OrderRun}

/-! ### No order (R97, R104) -/

/-- With AP holding WINCH, no order ACTIVE and none that may start, a step stops the motor. -/
theorem State.winchWork_idle (hap : s.holderOf .winch = .ap) (hnone : s.wch.active = none)
    (hidle : s.wch.oldestPosted = none ∨ s.wch.runFlag = false ∨ s.winchMayDrive = false) (now next : Nat) :
    (s.stepBegins now next).winchWork = (s.atStep (s.firstMarks now next)).finishWinchStep 0 := by
  have hactive : (s.atStep (s.firstMarks now next)).wch.active = none := hnone
  have hstart : (s.atStep (s.firstMarks now next)).startOrder = s.atStep (s.firstMarks now next) := by
    refine State.startOrder_none _ (hidle.symm.imp (fun h => ?_) id)
    have hflag : (s.atStep (s.firstMarks now next)).wch.runFlag = s.wch.runFlag := rfl
    rcases h with h | h <;> simp [State.mayStartOrder, hflag, h]
  rw [State.stepBegins_winchWork, hstart, State.orderChecks_none _ hactive]
  exact State.driveWinch_none _ hap hactive

/-! ### An ACTIVE order (R108, R110, R112) -/

/-- A timeout ends the ACTIVE order before anything else does (R96, R108). -/
theorem State.orderChecks_timeout (ha : s.wch.active = some (i, o, r)) (h : orderDeadline o r ≤ s.now) :
    s.orderChecks = s.endOrder i o o.kind.timeoutResult := by
  simp [State.orderChecks, ha, h]

theorem State.orderChecks_starved (ha : s.wch.active = some (i, o, r)) (h : s.now < orderDeadline o r)
    (hst : s.winchStarves = true) : s.orderChecks = s.endOrder i o .starved := by
  simp [State.orderChecks, ha, not_le.2 h, hst]

/-- A retry pause that is over ends (R110). -/
theorem State.orderChecks_resumes (ha : s.wch.active = some (i, o, r)) (h : s.now < orderDeadline o r)
    (hst : s.winchStarves = false) {start : Nat} (hp : r.pauseStart = some start) (hover : s.pauseEnd start ≤ s.now) :
    s.orderChecks = s.withWch (s.wch.putRun i o r.resumed) := by
  simp [State.orderChecks, ha, not_le.2 h, hst, hp, hover]

theorem State.orderChecks_passes (ha : s.wch.active = some (i, o, r)) (h : s.now < orderDeadline o r)
    (hst : s.winchStarves = false) (hp : ∀ start, r.pauseStart = some start → s.now < s.pauseEnd start) :
    s.orderChecks = s := by
  cases hstart : r.pauseStart with
  | none => simp [State.orderChecks, ha, not_le.2 h, hst, hstart]
  | some start => simp [State.orderChecks, ha, not_le.2 h, hst, hstart, hp start hstart]

/-- After a check that ends the order a step stops the motor. -/
theorem State.driveWinch_ended (result : OrderResult) (hap : s.holderOf .winch = .ap)
    (ha : s.wch.active = some (i, o, r)) (hone : ∀ j, s.wch.activeAt j → j = i) :
    (s.endOrder i o result).driveWinch = (s.endOrder i o result).finishWinchStep 0 :=
  State.driveWinch_none _ ((s.endOrder_holderOf i o result .winch).trans hap)
    (s.endOrder_active_none result hone (s.wch.activeAt_of_active ha))

/-- A step takes the ACTIVE order through its checks, and drives it or keeps it in its pause (R96, steps 3 to 8). -/
theorem orderStepped_winchWork (hap : s.holderOf .winch = .ap) (ha : s.wch.active = some (i, o, r))
    (hone : ∀ j, s.wch.activeAt j → j = i) (now next : Nat) :
    orderStepped s (s.stepBegins now next).winchWork.settle i o r := by
  obtain ⟨hslot, hphase, hactiveSlot⟩ := s.wch.active_spec i o r ha
  have hstart : (s.atStep (s.firstMarks now next)).startOrder = s.atStep (s.firstMarks now next) := by
    refine State.startOrder_none _ (.inl ?_)
    have h : (s.atStep (s.firstMarks now next)).wch.activeSlot = some i := hactiveSlot
    simp [State.mayStartOrder, h]
  have hactive : (s.atStep (s.firstMarks now next)).wch.active = some (i, o, r) := ha
  have hended (result : OrderResult) :=
    State.driveWinch_ended (s := s.atStep (s.firstMarks now next)) result hap hactive hone
  have hrecord : { o with phase := .active r } = o := by rw [← hphase]
  have hm : (s.firstMarks now next).slots = s.wch.slots.set i (some o) := by
    rw [← hslot, PerSlot.set_get]; rfl
  unfold orderStepped
  extract_lets deadline timedOut
  rw [(s.winchWork_times now next).1, s.stepBegins_winchWork, hstart]
  have hstarves : (s.atStep (s.firstMarks now next)).winchStarves =
      decide (s.cfg.starveT ≤ s.bgt.starved.get .winch) := rfl
  refine ⟨fun hdue => ?timeout, fun hdue hst => ?starved, fun hdue hst => ?goesOn⟩
  case timeout =>
    have htimedOut : o.kind.timeoutResult = timedOut := by
      unfold OrderKind.timeoutResult
      cases hk : o.kind <;> simp [OrderKind.counted, timedOut, hk]
    rw [State.orderChecks_timeout hactive hdue, hended, htimedOut]
    exact orderEnded_finish _ hap hone hphase rfl hm
  case starved =>
    rw [State.orderChecks_starved hactive hdue (hstarves.trans (decide_eq_true hst)), hended]
    exact ⟨orderEnded_finish _ hap hone hphase rfl hm, State.endOrder_latches _ fun _ => rfl⟩
  case goesOn =>
    have hfed := hstarves.trans (decide_eq_false (not_le.2 hst))
    refine ⟨fun hp => ?_, fun start hp => ⟨fun hover => ?_, fun hpaused => ?_⟩⟩
    · rw [State.orderChecks_passes hactive hdue hfed (by simp [hp])]
      exact orderCarried_driveWinch hap hone (by rw [hrecord]; exact hm) rfl hp
    · rw [State.orderChecks_resumes hactive hdue hfed hp hover, State.atStep_putRun]
      exact orderCarried_driveWinch hap hone rfl rfl rfl
    · rw [State.orderChecks_passes hactive hdue hfed (by rintro _ h; cases hp.symm.trans h; exact hpaused),
        State.driveWinch_paused (s.atStep (s.firstMarks now next)) hap hactive (by simp [hp])]
      exact ⟨winchDriven_finish_zero _ _ _, orderAsked_finish _ _ _ hap hactive rfl rfl, rfl, rfl⟩

end Sys2Proof.Machine
end

section
/-! PROOFS. O46: the winch step under direct drive (R97, R109, R111), and the winch step as a command. -/

namespace Sys2Proof.Machine

/-! ### Direct drive -/

/-- R97 lets direct drive run: the release conditions, no direct stall hold that outlives the step, no line limit against
the WINCH value (R95, R111). -/
def State.directOpen (s : State) : Prop :=
  s.winchMayDrive = true ∧ s.holdStays = false ∧ ¬(0 < s.valueOf .winch ∧ s.wch.atLimit s.cfg = true)

theorem State.holdStays_iff (s : State) : s.holdStays = true ↔
    s.wch.stallHold = true ∧ s.valueOf .winch ≠ 0 ∧ s.wch.stalledSign ≠ some (-(s.valueOf .winch).sign) := by
  simp [State.holdStays, and_assoc]

theorem State.directOpen_iff (s : State) : s.directOpen ↔
    s.countedRunning = true ∧ (s.prot.st = .normal ∨ s.prot.st = .warn) ∧ s.countedClosed = true ∧
      s.cfg.winchEn = true ∧
      ¬(s.wch.stallHold = true ∧ s.valueOf .winch ≠ 0 ∧ s.wch.stalledSign ≠ some (-(s.valueOf .winch).sign)) ∧
      ¬(0 < s.valueOf .winch ∧ s.wch.referenced = true ∧
        ((s.cfg.lineMax * s.cfg.pulsesPerTurn : Nat) : Int) ≤ s.wch.linePos) := by
  rw [State.directOpen, State.winchMayDrive_iff, Wch.atLimit_iff, ← s.holdStays_iff, Bool.not_eq_true]
  simp only [and_assoc]

section
variable {s : State} {m : StepMarks}

/-- While the direct stall hold stays, a step forms no duty (R111). -/
theorem State.atStep_duty_held (hap : s.holderOf .winch ≠ .ap) (hm : m.stallHold = true) (cap : Nat) :
    (s.atStep m).winchDuty cap = 0 := by
  have hcommand : (s.atStep m).winchCommand = 0 := by simp [State.winchCommand, hap, hm]
  simp [State.winchDuty_eq, hcommand]

/-- The duty a step forms under direct drive under a cap: the WINCH value within it, where R97 lets it, and then not 0
where neither cap nor value is. -/
theorem State.atStep_duty_direct (hap : s.holderOf .winch ≠ .ap) (hm : m.stallHold = s.holdStays) (cap : Nat) :
    (s.directOpen → (s.atStep m).winchDuty cap = max (-(cap : Int)) (min cap (s.valueOf .winch))) ∧
      (¬s.directOpen → (s.atStep m).winchDuty cap = 0) ∧
      ((s.atStep m).winchDuty cap ≠ 0 ↔ s.directOpen ∧ cap ≠ 0 ∧ s.valueOf .winch ≠ 0) := by
  have hclosed : ¬s.directOpen → (s.atStep m).winchDuty cap = 0 := by
    intro hn
    cases hstays : s.holdStays with
    | true => exact State.atStep_duty_held hap (hm.trans hstays) cap
    | false =>
      have hcommand : (s.atStep m).winchCommand = s.valueOf .winch := by simp [State.winchCommand, hap, hm, hstays]
      rw [State.winchDuty_eq, hcommand, State.atStep_cfg, State.atStep_atLimit, State.atStep_mayDrive]
      exact if_neg fun ⟨hmay, hlimit⟩ => hn ⟨hmay, hstays, hlimit⟩
  have hopen : s.directOpen → (s.atStep m).winchDuty cap = max (-(cap : Int)) (min cap (s.valueOf .winch)) := by
    rintro ⟨hmay, hstays, hlimit⟩
    have hcommand : (s.atStep m).winchCommand = s.valueOf .winch := by simp [State.winchCommand, hap, hm, hstays]
    rw [State.winchDuty_eq, hcommand, State.atStep_cfg, State.atStep_atLimit, State.atStep_mayDrive]
    exact if_pos ⟨hmay, hlimit⟩
  refine ⟨hopen, hclosed, ?_⟩
  by_cases h : s.directOpen
  · rw [hopen h, clamped_ne_zero, and_iff_right h]
  · simp [hclosed h, h]

/-- Under direct drive the demand asks for the WINCH value where R97 would drive it under a cap of 1000 (R26). -/
theorem State.atStep_demand_direct (hap : s.holderOf .winch ≠ .ap) (hnone : (s.atStep m).wch.active = none) :
    (m.stallHold = true → (s.atStep m).winchDemand = 0) ∧
      (m.stallHold = s.holdStays → ¬s.directOpen → (s.atStep m).winchDemand = 0) ∧
      (m.stallHold = s.holdStays → s.directOpen →
        (s.atStep m).winchDemand = s.cfg.winchRated * (s.valueOf .winch).natAbs / 1000) := by
  have hdemand : (s.atStep m).winchDemand = if s.cfg.winchEn then
      s.cfg.winchRated * (if (s.atStep m).winchDuty 1000 ≠ 0 then (s.valueOf .winch).natAbs else 0) / 1000 else 0 := by
    simp [State.winchDemand, State.winchAsked, hnone, hap]
  refine ⟨fun h => ?_, fun h hn => ?_, fun h hopen => ?_⟩
  · simp [hdemand, State.atStep_duty_held hap h]
  · obtain ⟨-, hzero, -⟩ := State.atStep_duty_direct hap h 1000
    simp [hdemand, hzero hn]
  · obtain ⟨-, -, hne⟩ := State.atStep_duty_direct hap h 1000
    obtain ⟨-, -, -, hen⟩ := s.winchMayDrive_iff.1 hopen.1
    by_cases hv : s.valueOf .winch = 0
    · simp [hdemand, hv]
    · rw [hdemand, if_pos hen, if_pos (hne.2 ⟨hopen, by omega, hv⟩)]

/-- A stall found under direct drive makes the hold present and stops the motor (R111). -/
theorem directStalled_finish (hap : s.holderOf .winch ≠ .ap) (hnone : s.wch.active = none)
    (hslots : m.slots = s.wch.slots) (hopen : s.directOpen) (hcap : s.winchSpeedCap ≠ 0) (hvalue : s.valueOf .winch ≠ 0) :
    directStalled s ((s.atStep m).directStalls.finishWinchStep 0).settle := by
  have hstalls : (s.atStep m).directStalls =
      s.atStep (m.direct true (some (signInt (s.valueOf .winch))) none none) := rfl
  rw [hstalls]
  obtain ⟨-, -, hduty, hmoving, hpwm, -, hfollows⟩ := winchDriven_finish_zero s (m.direct true _ none none) 0
  have hzero := hduty id
  obtain ⟨hdemand, -⟩ := State.atStep_demand_direct (m := m.direct true _ none none) hap
    ((State.atStep_active_congr s hslots).trans hnone)
  unfold directStalled
  extract_lets cap drives
  have hdrives : drives := by
    obtain ⟨hmay, -, hlimit⟩ := hopen
    obtain ⟨h1, h2, h3, h4⟩ := s.winchMayDrive_iff.1 hmay
    rw [Wch.atLimit_iff] at hlimit
    exact ⟨h1, h2, h3, h4, hcap, hvalue, hlimit⟩
  refine ⟨rfl, rfl, hzero, by rw [hmoving, hzero]; rfl, by rw [hpwm, hzero]; simp, fun _ => ⟨rfl, ?_, ?_, rfl, ?_⟩,
    fun hn => absurd hdrives hn, hslots, hfollows, changesOnly_finish_direct s _ 0 hap⟩
  · exact congrArg some (signInt_eq_sign _)
  · exact (State.finishWinchStep_demand _ 0).trans (hdemand rfl)
  · rw [State.settle_faultLatched]
    exact Bool.or_eq_true_iff.2 (.inr rfl)

end

/-- A step under direct drive (R96, R97, R109, R111). -/
theorem directStepped_winchWork {s : State} (hap : s.holderOf .winch ≠ .ap) (hnone : s.wch.active = none)
    (now next : Nat) : directStepped s (s.stepBegins now next).winchWork.settle := by
  let m := s.firstMarks now next
  have hactive : (s.atStep m).wch.active = none := hnone
  have hstart : (s.atStep m).startOrder = s.atStep m :=
    State.startOrder_none _ (.inl (by simp [State.mayStartOrder, hap]))
  obtain ⟨hopen, hclosed, hdrives⟩ := State.atStep_duty_direct (m := m) hap rfl s.winchSpeedCap
  have hwork : (s.stepBegins now next).winchWork =
      ((s.atStep m).directStallChecks ((s.atStep m).winchDuty s.winchSpeedCap)).1.finishWinchStep
        ((s.atStep m).directStallChecks ((s.atStep m).winchDuty s.winchSpeedCap)).2 := by
    rw [State.stepBegins_winchWork, hstart, State.orderChecks_none _ hactive]
    exact State.driveWinch_direct _ hap
  by_cases hstall : (s.atStep m).winchDuty s.winchSpeedCap ≠ 0 ∧ s.stallDue now s.wch.directCurrent s.wch.directDrum
  · obtain ⟨hlets, hcap, hvalue⟩ := hdrives.1 hstall.1
    have hfinal : (s.stepBegins now next).winchWork = (s.atStep m).directStalls.finishWinchStep 0 := by
      rw [hwork, State.directStallChecks_stalls _ hstall.1 hstall.2]
    rw [hfinal]
    exact ⟨rfl, rfl, fun _ => directStalled_finish hap hnone rfl hlets hcap hvalue,
      fun hn => absurd ⟨⟨s.directOpen_iff.1 hlets, hcap, hvalue⟩, hstall.2⟩ hn⟩
  · have hcarries := State.directStallChecks_carries (s.atStep m) fun hd h => hstall ⟨hd, h⟩
    have hfinal : (s.stepBegins now next).winchWork =
        (s.atStep (m.direct m.stallHold m.stalledSign
          (timerAfter ((s.atStep m).winchDuty s.winchSpeedCap != 0 && s.stallCurrent) now s.wch.directCurrent)
          (timerAfter ((s.atStep m).winchDuty s.winchSpeedCap != 0) now s.wch.directDrum))).finishWinchStep
          ((s.atStep m).winchDuty s.winchSpeedCap) := by
      rw [hwork, hcarries]
      rfl
    obtain ⟨-, hzero, hasked⟩ := State.atStep_demand_direct (m := m.direct m.stallHold _ _ _) hap hactive
    rw [hfinal]
    unfold directStepped
    extract_lets cap value held open' drives stalls
    have hopen' : s.directOpen ↔ open' := s.directOpen_iff
    have hheld : s.holdStays = decide held := Bool.eq_iff_iff.2 (s.holdStays_iff.trans decide_eq_true_iff.symm)
    have hn : ¬stalls := by
      rintro ⟨⟨hlets, hcap, hvalue⟩, hdue⟩
      exact hstall ⟨hdrives.2 ⟨hopen'.2 hlets, hcap, hvalue⟩, hdue⟩
    refine ⟨rfl, rfl, fun h => absurd h hn, fun _ => ⟨?driven, ?demand, hheld, hheld, ?sign, rfl, rfl, rfl,
      changesOnly_finish_direct s _ _ hap⟩⟩
    case driven =>
      exact winchDriven_finish s _ (fun h => (hopen'.2 h).1) (fun h => hopen (hopen'.2 h))
        fun h => hclosed (mt hopen'.1 h)
    case demand =>
      refine (State.finishWinchStep_demand _ _).trans ?_
      by_cases h : s.directOpen
      · rw [if_pos (hopen'.1 h)]; exact hasked rfl h
      · rw [if_neg (mt hopen'.2 h)]; exact hzero rfl h
    case sign => exact if_congr (by simp [hheld]) rfl rfl

/-! ### O46 -/

/-- With AP holding WINCH and no order ACTIVE, none starts where nothing is POSTED, the run flag is clear or R97 does not
let the winch drive (R104). -/
theorem State.idle_of_notStarted {s : State}
    (h : (∀ i o, s.wch.slots.get i = some o → o.phase ≠ .posted) ∨ s.wch.runFlag = false ∨
      ¬(s.countedRunning = true ∧ (s.prot.st = .normal ∨ s.prot.st = .warn) ∧ s.countedClosed = true ∧
        s.cfg.winchEn = true)) :
    s.wch.oldestPosted = none ∨ s.wch.runFlag = false ∨ s.winchMayDrive = false := by
  rw [← s.winchMayDrive_iff, Bool.not_eq_true] at h
  exact h.imp_left Wch.oldestPosted_none

/-- A step at which AP holds WINCH and no order is ACTIVE or starts (R97, R105). -/
theorem winchWork_stands {s : State} (hap : s.holderOf .winch = .ap) (hnone : s.wch.active = none)
    (hidle : s.wch.oldestPosted = none ∨ s.wch.runFlag = false ∨ s.winchMayDrive = false) (now next : Nat) :
    let t := (s.stepBegins now next).winchWork.settle
    winchDriven s t False 0 ∧ t.wch.demand = 0 ∧ t.wch.slots = s.wch.slots ∧
      (∀ f, t.grt.fns.get f = if f = .winch then { s.grt.fns.get f with value := 0 } else s.grt.fns.get f) ∧
      changesOnly [.now, .grt, .wch, .drv] s t := by
  rw [State.winchWork_idle hap hnone hidle]
  obtain ⟨hdemand, hordered⟩ := State.winchDemand_none (v := s.atStep (s.firstMarks now next)) hap hnone
  refine ⟨winchDriven_finish_zero _ _ _, (State.finishWinchStep_demand _ 0).trans hdemand, rfl, fun f => ?_,
    changesOnly_finish _ _ _⟩
  have hfns := State.finishWinchStep_fns (s.atStep (s.firstMarks now next)) 0 hap f
  rw [hordered] at hfns
  exact hfns

/-- Settles O46: direct drive by `directStepped_winchWork`, no order by `winchWork_stands`, an ACTIVE order by
`orderStepped_winchWork`. -/
theorem winchStepFormsTheDuty : Obligations.WinchStepFormsTheDuty := by
  intro s
  obtain ⟨hnow, hnext⟩ := s.winchWork_times (max s.now s.wch.nextStep) (max s.now s.wch.nextStep + stepPeriod)
  have htimes := hnext.trans (congrArg (· + stepPeriod) hnow.symm)
  refine ⟨fun hap hnone => ?_, fun hap hnone hidle => ?_, fun i o r hap ha hone => ?_⟩
  · exact ⟨_, exec_winchStep s, hnow, htimes, directStepped_winchWork hap hnone _ _⟩
  · exact ⟨_, exec_winchStep s, hnow, htimes, winchWork_stands hap hnone (State.idle_of_notStarted hidle) _ _⟩
  · exact ⟨_, exec_winchStep s, hnow, htimes, orderStepped_winchWork hap ha hone _ _⟩

end Sys2Proof.Machine
end

section
/-! PROOFS. What the invariants of chapter 3 read of a state, its tenure, and the operations and rules that leave it. -/

namespace Sys2Proof.Machine

/-- What the invariants of chapter 3 read of a state: the holder and the seq of each function (R45, R47), the radio link
state and the last decoded values (R49, R51), and the working copy. -/
structure Tenure where
  holder : Fn → Holder
  seq : Fn → Nat
  link : LinkState
  lastDecoded : Fn → Option Int
  cfg : Settings

/-- The tenure of a grant table under a working copy. -/
def Grt.tenure (g : Grt) (c : Settings) : Tenure :=
  { holder := fun f => (g.fns.get f).holder, seq := fun f => (g.fns.get f).seq, link := g.link,
    lastDecoded := fun f => g.lastDecoded.get f, cfg := c }

/-- The tenure of a state. -/
def State.tenure (s : State) : Tenure := s.grt.tenure s.cfg

variable {s t u : State}

theorem State.tenure_eq (hg : t.grt = s.grt) (hr : t.rsc = s.rsc) : t.tenure = s.tenure := by
  simp [State.tenure, State.cfg, hg, hr]

section
variable (s)

/-! ### Operations that leave the tenure -/

@[simp] theorem State.withNow_tenure (x : Nat) : (s.withNow x).tenure = s.tenure := rfl
@[simp] theorem State.withLines_tenure (x : Lines) : (s.withLines x).tenure = s.tenure := rfl
@[simp] theorem State.withPmon_tenure (x : Pmon) : (s.withPmon x).tenure = s.tenure := rfl
@[simp] theorem State.withProt_tenure (x : Prot) : (s.withProt x).tenure = s.tenure := rfl
@[simp] theorem State.withBgt_tenure (x : Bgt) : (s.withBgt x).tenure = s.tenure := rfl
@[simp] theorem State.withDrv_tenure (x : Drv) : (s.withDrv x).tenure = s.tenure := rfl
@[simp] theorem State.withStr_tenure (x : Str) : (s.withStr x).tenure = s.tenure := rfl
@[simp] theorem State.withWch_tenure (x : Wch) : (s.withWch x).tenure = s.tenure := rfl
@[simp] theorem State.withLgt_tenure (x : Lgt) : (s.withLgt x).tenure = s.tenure := rfl
@[simp] theorem State.withDlr_tenure (x : Dlr) : (s.withDlr x).tenure = s.tenure := rfl
@[simp] theorem State.withPnd_tenure (x : Pnd) : (s.withPnd x).tenure = s.tenure := rfl
@[simp] theorem State.withAcp_tenure (x : Acp) : (s.withAcp x).tenure = s.tenure := rfl
@[simp] theorem State.withPending_tenure (x : List Instr) : (s.withPending x).tenure = s.tenure := rfl
@[simp] theorem State.reach_tenure (x : Nat) : (s.reach x).tenure = s.tenure := rfl
@[simp] theorem State.settle_tenure : s.settle.tenure = s.tenure := rfl
@[simp] theorem State.wakeSource_tenure : s.wakeSource.tenure = s.tenure := rfl
@[simp] theorem State.raise_tenure (e : FaultEntry) : (s.raise e).tenure = s.tenure := rfl
@[simp] theorem State.respond_tenure (st : Status) (d : List Byte) : (s.respond st d).tenure = s.tenure := rfl
@[simp] theorem State.setWinchDuty_tenure (d : Int) : (s.setWinchDuty d).tenure = s.tenure := rfl
@[simp] theorem State.refuseGrant_tenure (f : Fn) (st : Status) : (s.refuseGrant f st).tenure = s.tenure := rfl
@[simp] theorem State.runctl_tenure (st : Status) : (s.runctl st).tenure = s.tenure := rfl

/-- The winch controller's writes touch a value alone (R105). -/
theorem State.writeHeldWinchValue_grt_tenure (v : Int) (c : Settings) :
    (s.writeHeldWinchValue v).grt.tenure c = s.grt.tenure c := by
  have hget (f : Fn) : ((s.writeHeldWinchValue v).grt.fns.get f).holder = (s.grt.fns.get f).holder ∧
      ((s.writeHeldWinchValue v).grt.fns.get f).seq = (s.grt.fns.get f).seq := by
    rw [State.writeHeldWinchValue_get]
    split <;> exact ⟨rfl, rfl⟩
  simp [Grt.tenure, hget]

@[simp] theorem State.writeHeldWinchValue_tenure (v : Int) : (s.writeHeldWinchValue v).tenure = s.tenure :=
  s.writeHeldWinchValue_grt_tenure v s.cfg

theorem State.preempt_grt_tenure (c : Settings) : s.preempt.grt.tenure c = s.grt.tenure c := by
  rw [State.preempt_grt]
  split
  · exact s.writeHeldWinchValue_grt_tenure 0 c
  · rfl

@[simp] theorem State.endOrder_tenure (i : Fin 4) (o : Order) (r : OrderResult) :
    (s.endOrder i o r).tenure = s.tenure := by
  have hcfg : (s.endOrder i o r).cfg = s.cfg := by simp [State.cfg]
  rw [State.tenure, State.endOrder_grt, hcfg, State.writeHeldWinchValue_grt_tenure, State.tenure]

@[simp] theorem State.endActive_tenure (r : OrderResult) : (s.endActive r).tenure = s.tenure := by
  unfold State.endActive
  split <;> simp

@[simp] theorem State.preempt_tenure : s.preempt.tenure = s.tenure := State.endActive_tenure s _

@[simp] theorem State.openSwitch_tenure : s.openSwitch.tenure = s.tenure := State.tenure_eq (by simp) (by simp)

@[simp] theorem State.leaveBench_tenure (b : Bool) : (s.leaveBench b).tenure = s.tenure := by
  simp [State.tenure]

@[simp] theorem State.enterCutoff_tenure (c : CutCause) : (s.enterCutoff c).tenure = s.tenure := by
  simp [State.enterCutoff]

@[simp] theorem State.lockoutBegun_tenure : s.lockoutBegun.tenure = s.tenure := by
  simp [State.lockoutBegun]

@[simp] theorem State.enterArming_tenure : s.enterArming.tenure = s.tenure := rfl

/-- A new grant table brings its own tenure. -/
@[simp] theorem State.commitGrants_tenure (g : Grt) : (s.commitGrants g).tenure = g.tenure s.cfg := by
  simp [State.tenure, State.cfg]

/-! ### The winch step and the drum pulses -/

theorem State.activate_tenure (i : Fin 4) (o : Order) : (s.activate i o).tenure = s.tenure := by
  unfold State.activate
  dsimp only
  split <;> simp [Wch.putRun, Wch.putOrder]

theorem State.startOrder_tenure : s.startOrder.tenure = s.tenure := by
  unfold State.startOrder
  (repeat' split) <;> simp [State.activate_tenure]

theorem State.orderChecks_tenure : s.orderChecks.tenure = s.tenure := by
  unfold State.orderChecks
  (repeat' split) <;> simp

theorem State.orderStalls_tenure (i : Fin 4) (o : Order) (r : OrderRun) : (s.orderStalls i o r).tenure = s.tenure := by
  unfold State.orderStalls
  split <;> simp

theorem State.stallChecks_tenure (d : Int) : (s.stallChecks d).1.tenure = s.tenure := by
  unfold State.stallChecks State.orderStallChecks State.directStallChecks State.directStalls
  (repeat' split) <;> simp [State.orderStalls_tenure]

theorem State.finishWinchStep_tenure (d : Int) : (s.finishWinchStep d).tenure = s.tenure := by
  simp [State.finishWinchStep]

theorem State.releaseHold_tenure : s.releaseHold.tenure = s.tenure := by
  unfold State.releaseHold
  split <;> simp

@[simp] theorem State.winchWork_tenure : s.winchWork.tenure = s.tenure := by
  simp [State.winchWork, State.driveWinch, State.finishWinchStep_tenure, State.stallChecks_tenure,
    State.orderChecks_tenure, State.startOrder_tenure, State.releaseHold_tenure, State.formSpeedCap]

theorem State.countForOrder_tenure (d : WinchDir) : (s.countForOrder d).tenure = s.tenure := by
  unfold State.countForOrder
  dsimp only
  (repeat' split) <;> simp

theorem State.limitAtPulse_tenure (d : WinchDir) : (s.limitAtPulse d).tenure = s.tenure := by
  unfold State.limitAtPulse
  dsimp only
  (repeat' split) <;> simp

@[simp] theorem State.drumPulse_tenure : s.drumPulse.tenure = s.tenure := by
  unfold State.drumPulse
  split <;> simp [State.countForOrder_tenure, State.limitAtPulse_tenure]

/-! ### The rules of the commands that leave the tenure -/

theorem State.endStore_tenure (bytes : List Byte) : (s.endStore bytes).tenure = s.tenure := by
  unfold State.endStore
  dsimp only
  split <;> rfl

/-- A record of the same holder and seq leaves the tenure (R47). -/
theorem Grt.put_tenure {g : Grt} {f : Fn} {r : FnRecord} (c : Settings) (hh : r.holder = (g.fns.get f).holder)
    (hs : r.seq = (g.fns.get f).seq) : (g.put f r).tenure c = g.tenure c := by
  have hget (k : Fn) : ((g.fns.set f r).get k).holder = (g.fns.get k).holder ∧
      ((g.fns.set f r).get k).seq = (g.fns.get k).seq := by
    by_cases hk : k = f
    · subst hk
      simp [hh, hs]
    · simp [PerFn.get_set_other _ _ _ _ hk]
  simp [Grt.tenure, Grt.put, hget]

/-- A SET writes a record's value and lease, of which the tenure holds neither (R57). -/
theorem State.setValue_tenure (f : Fn) (v : Int) (q : Nat) : (s.setValue f v q).tenure = s.tenure := by
  unfold State.setValue
  dsimp only
  (repeat' split)
  · rfl
  · rfl
  · rfl
  · rw [State.grantTo, State.respond_tenure, State.commitGrants_tenure]
    exact Grt.put_tenure s.cfg rfl rfl

/-- A REFRESH writes leases alone (R60). -/
theorem State.refresh_tenure : s.refresh.tenure = s.tenure := by
  unfold State.refresh
  split
  · rfl
  · have hget (f : Fn) : (s.refreshed.fns.get f).holder = (s.grt.fns.get f).holder ∧
        (s.refreshed.fns.get f).seq = (s.grt.fns.get f).seq := by
      simp only [State.refreshed, PerFn.get_build]
      split <;> exact ⟨rfl, rfl⟩
    have htable : s.refreshed.tenure s.cfg = s.tenure := by
      simp only [State.tenure, Grt.tenure, hget]
      rfl
    exact htable

theorem State.winchCommandRule_tenure (d : List Byte) (rule : State → State)
    (h : ∀ w : State, (rule w).tenure = w.tenure) : (s.winchCommandRule d rule).tenure = s.tenure := by
  unfold State.winchCommandRule
  split <;> simp [h]

theorem State.winchPost_tenure (ps : List Byte) : (s.winchPost ps).tenure = s.tenure := by
  unfold State.winchPost
  dsimp only
  (repeat' split) <;> rfl

theorem State.winchCancel_tenure (ps : List Byte) : (s.winchCancel ps).tenure = s.tenure := by
  unfold State.winchCancel
  split <;> simp

theorem State.winchReap_tenure : s.winchReap.tenure = s.tenure := by
  unfold State.winchReap
  split <;> rfl

theorem State.winchZero_tenure : s.winchZero.tenure = s.tenure := by
  unfold State.winchZero
  split <;> rfl

theorem State.cfgRead_tenure (ps : List Byte) : (s.cfgRead ps).tenure = s.tenure := by
  unfold State.cfgRead
  dsimp only
  split <;> rfl

theorem State.cfgCheck_tenure : s.cfgCheck.tenure = s.tenure := by
  unfold State.cfgCheck
  split <;> rfl

theorem State.cfgStore_tenure : s.cfgStore.tenure = s.tenure := by
  unfold State.cfgStore
  (repeat' split) <;> rfl

theorem State.benchStall_tenure : s.benchStall.tenure = s.tenure := by
  unfold State.benchStall
  split <;> rfl

theorem State.readRule_tenure (ps : List Byte) : (s.readRule ps).tenure = s.tenure := by
  unfold State.readRule
  split <;> rfl

theorem State.faultAck_tenure (ps : List Byte) : (s.faultAck ps).tenure = s.tenure := by
  unfold State.faultAck
  (repeat' split) <;> rfl

theorem State.lockoutClear_tenure : s.lockoutClear.tenure = s.tenure := by
  unfold State.lockoutClear
  split <;> rfl

theorem State.loadRule_tenure (start : Bool) : (s.loadRule start).tenure = s.tenure := by
  unfold State.loadRule
  split <;> rfl

theorem State.injected_tenure (code : Nat) (v : Int) (h : s.injected code v = some t) : t.tenure = s.tenure := by
  unfold State.injected at h
  (repeat' split at h) <;> cases h <;> rfl

theorem State.benchInject_tenure (ps : List Byte) : (s.benchInject ps).tenure = s.tenure := by
  unfold State.benchInject
  split
  · rfl
  split
  next h => exact (State.respond_tenure _ _ _).trans (s.injected_tenure _ _ h)
  next => rfl

end

/-! ### The commands that leave the tenure -/

/-- The commands that leave the tenure, whatever the state: no passage of a function and no change of the working copy
can come of them. -/
def passive : Instr → Bool
  | .powerOnReset _ | .brownOutReset _ | .pinReset _ | .reset _ | .sampleSet _
  | .warnEntryComplete | .warnExitComplete | .cutTimerComplete | .critTimerComplete | .rearmTimerComplete
  | .ocTripAssert | .prechargeExpiry | .radioFrame _ | .linkByteReceived _ | .dlFreshnessExpiry | .apLeaseExpiry _
  | .pendantSettleExpiry _ | .wakeTimerExpiry | .idleSleepExpiry | .loadEnd | .halt _ | .sleep _ | .benchDry _
  | .benchWet _ | .start _ | .cfgWrite _ | .claim _ | .claimSet _ | .release _ | .sceneWrite _ => false
  | _ => true

/-- An outcome leaves the tenure of `s`. -/
def leavesTenure (s : State) (o : Host.Outcome State Fault Refusal) : Prop := ∀ t, o = .next t → t.tenure = s.tenure

theorem leavesTenure_completed (h : u.tenure = s.tenure) : leavesTenure s (completed u) := by
  rintro _ ⟨⟩
  simpa using h

theorem leavesTenure_taken {ok ex : Bool} {al : State → List Byte} {owner : State → State}
    (h : ∀ w : State, (owner w).tenure = w.tenure) : leavesTenure s (completed (s.takeCommand ok ex al owner)) := by
  apply leavesTenure_completed
  obtain ⟨st, d, e⟩ | ⟨-, e⟩ := s.takeCommand_cases ok ex al owner <;> rw [e]
  · rfl
  · rw [h, State.wakeSource_tenure]

theorem State.grantRule_tenure (s : State) (ps : List Byte) (rule : Fn → State → State)
    (h : ∀ f (w : State), (rule f w).tenure = w.tenure) : (s.grantRule ps rule).tenure = s.tenure := by
  unfold State.grantRule
  (repeat' split) <;> simp [h]

theorem passive_leavesTenure (c : Instr) (hc : passive c = true) (s : State) : leavesTenure s (exec c s) := by
  cases c
  all_goals try exact Bool.noConfusion hc
  case ocTripRelease | servoShort | driveStep | servoFrame | lightFrameBoundary | framingError | pendantEdge =>
    exact leavesTenure_completed rfl
  case budgetPeriod => exact leavesTenure_completed rfl
  case winchStep => exact leavesTenure_completed (by simp [State.restartWinchTimer])
  case orderTimeout | orderStarved | retryPauseEnd | currentCheckStall | drumCheckStall =>
    simp only [exec, execOrderTimeout, execOrderStarved, execRetryPauseEnd, execCurrentCheckStall, execDrumCheckStall]
    (repeat' split) <;> exact leavesTenure_completed (by simp)
  case drumPulse | benchDrumPulse =>
    simp only [exec, execDrumPulse, execBenchDrumPulse]
    split <;> exact leavesTenure_completed (by simp)
  case linkGapTimeout | replyTimerExpiry | replySent | armingTimerExpiry =>
    simp only [exec, execLinkGapTimeout, execReplyTimerExpiry, execReplySent, execArmingTimerExpiry]
    (repeat' split) <;> exact leavesTenure_completed rfl
  case storeEnd | acpUnknownWrite =>
    simp only [exec, execStoreEnd, execAcpUnknownWrite]
    split <;> exact leavesTenure_completed (by simp [State.endStore_tenure])
  case status | readCause | faultNext | attnMask | runctlNoFlag => exact leavesTenure_taken fun _ => rfl
  case read => exact leavesTenure_taken fun w => w.readRule_tenure _
  case faultAck => exact leavesTenure_taken fun w => w.faultAck_tenure _
  case lockoutClear => exact leavesTenure_taken State.lockoutClear_tenure
  case load => exact leavesTenure_taken fun w => w.loadRule_tenure _
  case cfgRead => exact leavesTenure_taken fun w => w.cfgRead_tenure _
  case cfgCheck => exact leavesTenure_taken State.cfgCheck_tenure
  case cfgStore => exact leavesTenure_taken State.cfgStore_tenure
  case set => exact leavesTenure_taken fun w => w.grantRule_tenure _ _ fun f v => v.setValue_tenure f _ _
  case refresh => exact leavesTenure_taken State.refresh_tenure
  case winchPost => exact leavesTenure_taken fun w => w.winchCommandRule_tenure _ _ fun v => v.winchPost_tenure _
  case winchCancel => exact leavesTenure_taken fun w => w.winchCommandRule_tenure _ _ fun v => v.winchCancel_tenure _
  case winchReap => exact leavesTenure_taken fun w => w.winchCommandRule_tenure _ _ State.winchReap_tenure
  case winchResume => exact leavesTenure_taken fun w => w.winchCommandRule_tenure _ _ fun _ => rfl
  case winchZero => exact leavesTenure_taken fun w => w.winchCommandRule_tenure _ _ State.winchZero_tenure
  case benchInject => exact leavesTenure_taken fun w => w.benchInject_tenure _
  case benchStall => exact leavesTenure_taken State.benchStall_tenure

end Sys2Proof.Machine
end

section
/-! PROOFS. The conditions of O9, O10 and O13 on tenures, and the passages that keep them: to FS, from holder to holder, at
a fresh frame, and at a change of the working copy (R45 to R48, R50 to R53, R56, R59, R61, R62, R64, R65). -/

namespace Sys2Proof.Machine

namespace Tenure

/-- R45 on a tenure. -/
def holdersOk (a : Tenure) : Prop := ∀ f, a.cfg.allows f (a.holder f) = true

/-- R52 on a tenure. -/
def radioOk (a : Tenure) : Prop :=
  (∀ f v, f.proportional = true → a.link = .fresh → a.lastDecoded f = some v → outsideBand a.cfg f v = true →
    a.holder f ≠ .ap) ∧
  (∀ f, a.cfg.dlChannel f = 0 → a.lastDecoded f = none)

/-- From `a` to `b` a working copy of 350 bytes stays one, and with it R45 and R52 stay true. -/
def upholds (a b : Tenure) : Prop :=
  a.cfg.bytes.length = 350 → b.cfg.bytes.length = 350 ∧ (a.holdersOk → b.holdersOk) ∧ (a.radioOk → b.radioOk)

/-- From `a` to `b` each seq counts the change of its holder, if there is one (R47). -/
def counts (a b : Tenure) : Prop :=
  ∀ f, (b.holder f = a.holder f ∧ b.seq f = a.seq f) ∨ (b.holder f ≠ a.holder f ∧ b.seq f = (a.seq f + 1) % 16)

/-- From `a` to `b` everything stated of a step holds. -/
def keeps (a b : Tenure) : Prop := a.counts b ∧ a.upholds b

variable {a b c : Tenure}

theorem upholds.rfl : a.upholds a := fun h => ⟨h, id, id⟩

theorem keeps.rfl : a.keeps a := ⟨fun _ => .inl ⟨.refl _, .refl _⟩, .rfl⟩

/-- Every function passes to FS (R64). -/
def parked (a : Tenure) : Tenure :=
  { a with holder := fun _ => .fs, seq := fun f => if a.holder f == .fs then a.seq f else (a.seq f + 1) % 16 }

/-- Nothing passes, or every function passes to FS. -/
def parks (a b : Tenure) : Prop := b = a ∨ b = a.parked

theorem parks.rfl : a.parks a := .inl (.refl _)

theorem parks_parked : a.parks a.parked := .inr (.refl _)

/-- The second passage to FS of two finds nothing to move. -/
theorem parks.trans (h : a.parks b) (h' : b.parks c) : a.parks c := by
  obtain rfl | rfl := h <;> obtain rfl | rfl := h'
  · exact .rfl
  · exact parks_parked
  · exact parks_parked
  · exact .inr (by simp [parked])

/-- With every function at FS R45 and R52 hold of any link state and last decoded values that a channel stands behind. -/
theorem upholds_of_fs (hcfg : a.cfg.bytes.length = 350 → b.cfg.bytes.length = 350) (hfs : ∀ f, b.holder f = .fs)
    (hlast : a.radioOk → ∀ f, b.cfg.dlChannel f = 0 → b.lastDecoded f = none) : a.upholds b :=
  fun h => ⟨hcfg h, fun _ f => by rw [hfs f]; exact .refl _,
    fun hr => ⟨fun f _ _ _ _ _ => by rw [hfs f]; exact nofun, hlast hr⟩⟩

theorem counts_of_fs (hfs : ∀ f, b.holder f = .fs)
    (hseq : ∀ f, b.seq f = if a.holder f == .fs then a.seq f else (a.seq f + 1) % 16) : a.counts b := by
  intro f
  rw [hfs f, hseq f]
  by_cases h : a.holder f = .fs
  · exact .inl ⟨h.symm, by simp [h]⟩
  · exact .inr ⟨Ne.symm h, by simp [h]⟩

theorem parks.keeps (h : a.parks b) : a.keeps b := by
  obtain rfl | rfl := h
  · exact .rfl
  · exact ⟨counts_of_fs (fun _ => .refl _) fun _ => .refl _, upholds_of_fs id (fun _ => .refl _) And.right⟩

/-- Every function passes to FS, the radio link is as before any frame (R161, R64). -/
def slept (a : Tenure) : Tenure := { a.parked with link := .never, lastDecoded := fun _ => none }

theorem keeps_slept : a.keeps a.slept :=
  ⟨counts_of_fs (fun _ => .refl _) fun _ => .refl _, upholds_of_fs id (fun _ => .refl _) fun _ _ _ => .refl _⟩

/-- A change of holders alone, each to a holder allowed, under which no function comes to AP against the radio. -/
theorem keeps_of_passages (hcfg : b.cfg = a.cfg)
    (hpass : ∀ f, (b.holder f = a.holder f ∧ b.seq f = a.seq f) ∨
      (b.holder f ≠ a.holder f ∧ b.seq f = (a.seq f + 1) % 16 ∧ a.cfg.allows f (b.holder f) = true))
    (hradio : a.radioOk → b.radioOk) : a.keeps b := by
  refine ⟨fun f => (hpass f).imp id fun ⟨hne, hseq, _⟩ => ⟨hne, hseq⟩,
    fun h => ⟨hcfg ▸ h, fun hok f => ?_, hradio⟩⟩
  rw [hcfg]
  obtain ⟨hh, -⟩ | ⟨-, -, hallow⟩ := hpass f
  · rw [hh]
    exact hok f
  · exact hallow

/-- With the radio's side of the table as it was, R52 stays true where no function comes to AP that the radio steers. -/
theorem radioOk_of_kept (hcfg : b.cfg = a.cfg) (hlink : b.link = a.link) (hlast : b.lastDecoded = a.lastDecoded)
    (hap : ∀ f, b.holder f = .ap → a.holder f = .ap ∨
      ¬(f.proportional = true ∧ a.link = .fresh ∧ ∃ v, a.lastDecoded f = some v ∧ outsideBand a.cfg f v = true))
    (hok : a.radioOk) : b.radioOk := by
  obtain ⟨hsteer, hchannel⟩ := hok
  unfold radioOk
  rw [hcfg, hlink, hlast]
  refine ⟨fun f v hp hfresh hv hout hb => ?_, hchannel⟩
  obtain ha | hnot := hap f hb
  · exact hsteer f v hp hfresh hv hout ha
  · exact hnot ⟨hp, hfresh, v, hv, hout⟩

end Tenure

theorem State.tenure_holdersOk {s : State} : s.tenure.holdersOk ↔ s.holdersOk := Iff.rfl

theorem State.tenure_radioOk {s : State} : s.tenure.radioOk ↔ s.radioOk := Iff.rfl

/-! ### The passage of one record -/

/-- From `r` to `r'` a record of `f` stays with its holder, or passes to another that is allowed, its seq advanced by one
(R45, R47). -/
def FnRecord.passes (c : Settings) (f : Fn) (r r' : FnRecord) : Prop :=
  (r'.holder = r.holder ∧ r'.seq = r.seq) ∨
    (r'.holder ≠ r.holder ∧ r'.seq = (r.seq + 1) % 16 ∧ c.allows f r'.holder = true)

namespace FnRecord

variable {c : Settings} {f : Fn} {r : FnRecord}

theorem passes_rfl : r.passes c f r := .inl ⟨rfl, rfl⟩

theorem passes_moveTo {h : Holder} {v : Int} {lease : Option Nat} (hne : h ≠ r.holder) (hallow : c.allows f h = true) :
    r.passes c f (r.moveTo h v lease) := .inr ⟨hne, rfl, hallow⟩

theorem passes_toFs (keep : Bool) : r.passes c f (r.toFs c f keep) := by
  by_cases h : r.holder = .fs
  · exact .inl ⟨h.symm, by simp [toFs, h]⟩
  · exact .inr ⟨Ne.symm h, by simp [toFs, h], rfl⟩

end FnRecord

theorem Settings.allows_of_default {c : Settings} {f : Fn} {h : Holder} (hd : c.defaultHolder f = some h) :
    c.allows f h = true := by
  unfold Settings.defaultHolder at hd
  split at hd
  next hallow => cases hd; exact hallow
  next => exact nomatch hd

theorem Settings.allows_dl_proportional {c : Settings} {f : Fn} (h : f.proportional = true) : c.allows f .dl = true := by
  simp [Settings.allows, h]

/-! ### A fresh frame (R51 to R53) -/

theorem overrides_allows {c : Settings} {f : Fn} {last : Option Int} {v : Int} (h : overrides c f last v = true) :
    c.allows f .dl = true := (Bool.and_eq_true_iff.1 h).1

theorem returns_allows {c : Settings} {f : Fn} {r : FnRecord} {v : Int} (h : returns c f r v = true) :
    c.allows f .dl = true := Settings.allows_of_default (eq_of_beq (Bool.and_eq_true_iff.1 h).1)

theorem FnRecord.passes_atFrame {c : Settings} {f : Fn} {r : FnRecord} (last : Option Int) (v : Int) :
    r.passes c f (r.atFrame c f last v) := by
  unfold FnRecord.atFrame
  cases hh : r.holder with
  | dl => exact .inl ⟨hh.symm, rfl⟩
  | pd => exact passes_rfl
  | ap =>
    dsimp only
    split
    next h => exact passes_moveTo (by simp [hh]) (overrides_allows h)
    next => exact passes_rfl
  | fs =>
    dsimp only
    split
    next h => exact passes_moveTo (by simp [hh]) ((Bool.or_eq_true_iff.1 h).elim overrides_allows returns_allows)
    next => exact passes_rfl

/-- A stick outside its band is taken from AP (R52). -/
theorem FnRecord.atFrame_not_ap {c : Settings} {f : Fn} {r : FnRecord} (last : Option Int) {v : Int}
    (hp : f.proportional = true) (hout : outsideBand c f v = true) : (r.atFrame c f last v).holder ≠ .ap := by
  have hover : overrides c f last v = true := by simp [overrides, Settings.allows_dl_proportional hp, hp, hout]
  unfold FnRecord.atFrame
  cases hh : r.holder <;> simp [hover, hh, FnRecord.moveTo]

/-- A frame decodes nothing for a function without a channel (R139). -/
theorem decodeFrame_none {c : Settings} {raw : List Nat} {f : Fn} (h : (decodeFrame c raw).get f = none) :
    c.dlChannel f = 0 := by
  simpa [decodeFrame] using h

theorem decodeFrame_some {c : Settings} {raw : List Nat} {f : Fn} (h : c.dlChannel f = 0) :
    (decodeFrame c raw).get f = none := by
  simp [decodeFrame, h]

theorem Grt.freshFrame_keeps (g : Grt) (c : Settings) (raw : List Nat) (now : Nat) :
    (g.tenure c).keeps ((g.freshFrame c (decodeFrame c raw) now).tenure c) := by
  have hget (f : Fn) :
      (g.freshFrame c (decodeFrame c raw) now).fns.get f = g.recordAtFrame c (decodeFrame c raw) f :=
    PerFn.get_build _ f
  refine Tenure.keeps_of_passages rfl (fun f => ?_) fun ⟨_, hchannel⟩ =>
    ⟨fun f v hp _ hv hout => ?_, fun f hf => ?_⟩
  · simp only [Grt.tenure, hget, Grt.recordAtFrame]
    split
    · exact FnRecord.passes_atFrame _ _
    · exact FnRecord.passes_rfl
  · have hv' : ((decodeFrame c raw).get f).orElse (fun _ => g.lastDecoded.get f) = some v := by
      simpa [Grt.tenure, Grt.freshFrame] using hv
    simp only [Grt.tenure, hget, Grt.recordAtFrame]
    cases hd : (decodeFrame c raw).get f with
    | some w =>
      obtain rfl : w = v := by simpa [hd] using hv'
      exact FnRecord.atFrame_not_ap _ hp hout
    | none =>
      have hnone : g.lastDecoded.get f = none := hchannel f (decodeFrame_none hd)
      simp [hd, hnone] at hv'
  · have hnone : g.lastDecoded.get f = none := hchannel f hf
    have hd : (decodeFrame c raw).get f = none := decodeFrame_some hf
    simp [Grt.tenure, Grt.freshFrame, hd, hnone]

/-! ### The expiries, the pendant and the grant commands -/

/-- The freshness expiry passes records of DL to FS and the link is fresh no longer (R50). -/
theorem Grt.freshnessExpired_keeps (g : Grt) (c : Settings) : (g.tenure c).keeps ((g.freshnessExpired c).tenure c) := by
  refine Tenure.keeps_of_passages rfl (fun f => ?_) fun ⟨_, hchannel⟩ =>
    ⟨fun _ _ _ hfresh => (nomatch hfresh), hchannel⟩
  simp only [Grt.tenure, Grt.freshnessExpired, PerFn.get_build]
  split
  · exact FnRecord.passes_toFs _
  · exact FnRecord.passes_rfl

/-- One record replaced by one it passes to, which does not bring the function to AP against the radio. -/
theorem Grt.put_keeps {g : Grt} {c : Settings} {f : Fn} {r : FnRecord} (hpass : (g.fns.get f).passes c f r)
    (hap : r.holder = .ap → (g.fns.get f).holder = .ap ∨
      ¬(f.proportional = true ∧ g.link = .fresh ∧ ∃ v, g.lastDecoded.get f = some v ∧ outsideBand c f v = true)) :
    (g.tenure c).keeps ((g.put f r).tenure c) := by
  refine Tenure.keeps_of_passages rfl (fun k => ?_) (Tenure.radioOk_of_kept rfl rfl rfl fun k hk => ?_) <;>
    by_cases hkf : k = f
  · subst hkf
    simpa [Grt.tenure, Grt.put, FnRecord.passes] using hpass
  · exact .inl (by simp [Grt.tenure, Grt.put, PerFn.get_set_other _ _ _ _ hkf])
  · subst hkf
    exact hap (by simpa [Grt.tenure, Grt.put] using hk)
  · exact .inl (by simpa [Grt.tenure, Grt.put, PerFn.get_set_other _ _ _ _ hkf] using hk)

/-- A record given up goes to DL, which is its default holder, or to FS (R59, R62). -/
theorem Grt.givenUp_cases (g : Grt) (c : Settings) (f : Fn) :
    (∃ v, g.givenUp c f = (g.fns.get f).moveTo .dl v none ∧ c.allows f .dl = true) ∨
      g.givenUp c f = (g.fns.get f).toFs c f false := by
  unfold Grt.givenUp
  split
  next v _ =>
    split
    next h => exact .inl ⟨v, rfl, Settings.allows_of_default (eq_of_beq (Bool.and_eq_true_iff.1 h).1)⟩
    next => exact .inr rfl
  next => exact .inr rfl

theorem Grt.givenUp_keeps {g : Grt} {c : Settings} {f : Fn} (h : (g.fns.get f).holder ≠ .dl) :
    (g.tenure c).keeps ((g.put f (g.givenUp c f)).tenure c) := by
  obtain ⟨v, e, hallow⟩ | e := g.givenUp_cases c f <;> rw [e]
  · exact Grt.put_keeps (FnRecord.passes_moveTo h.symm hallow) nofun
  · exact Grt.put_keeps (FnRecord.passes_toFs _) nofun

/-- A function joining the lost set leaves the tenure (R63). -/
theorem Grt.lose_tenure (g : Grt) (f : Fn) (c : Settings) : (g.lose f).tenure c = g.tenure c := rfl

theorem Grt.pendantPressed_keeps (g : Grt) (c : Settings) (v : Int) :
    (g.tenure c).keeps ((g.pendantPressed c v).tenure c) := by
  unfold Grt.pendantPressed
  dsimp only
  split
  next => exact .rfl
  next hallow =>
    split
    next => exact Grt.put_keeps (.inl ⟨rfl, rfl⟩) .inl
    next hpd =>
      have hmoved : (g.tenure c).keeps ((g.put .winch ((g.fns.get .winch).moveTo .pd v none)).tenure c) :=
        Grt.put_keeps (FnRecord.passes_moveTo (Ne.symm (by simpa using hpd)) (by simpa using hallow)) nofun
      split
      next => rwa [Grt.lose_tenure]
      next => exact hmoved

theorem Grt.pendantChange_keeps (g : Grt) (c : Settings) (i o : Bool) :
    (g.tenure c).keeps ((g.pendantChange c i o).tenure c) := by
  unfold Grt.pendantChange Grt.pendantReleased
  split
  next => exact g.pendantPressed_keeps c _
  next =>
    split
    next h => exact Grt.givenUp_keeps (by simp [eq_of_beq h])
    next => exact .rfl

/-- What CLAIM asks before it takes a function (R56). -/
theorem State.claimRefusal_none {s : State} {f : Fn} (h : s.claimRefusal f = none) :
    s.cfg.allows f .ap = true ∧ s.holderOf f ≠ .pd ∧
      ¬(f.proportional = true ∧ s.grt.link = .fresh ∧
        ∃ v, s.grt.lastDecoded.get f = some v ∧ outsideBand s.cfg f v = true) := by
  unfold State.claimRefusal at h
  split at h
  next => exact nomatch h
  split at h
  next => exact nomatch h
  split at h
  next => exact nomatch h
  next hallow hpd hout =>
    simp only [Bool.and_eq_true, beq_iff_eq, Option.any_eq_true, and_assoc] at hout
    exact ⟨by simpa using hallow, by simpa using hpd, hout⟩

/-- A claimed record, its value written or not, is a passage to AP that the radio does not stand against (R56, R58). -/
theorem State.claimed_keeps {s : State} {f : Fn} {r : FnRecord} (h : s.claimRefusal f = none)
    (hh : r.holder = (s.claimed f).holder) (hs : r.seq = (s.claimed f).seq) :
    s.tenure.keeps ((s.grt.put f r).tenure s.cfg) := by
  obtain ⟨hallow, -, hradio⟩ := State.claimRefusal_none h
  refine Grt.put_keeps ?_ fun _ => .inr hradio
  unfold FnRecord.passes
  rw [hh, hs]
  unfold State.claimed
  dsimp only
  split
  next => exact FnRecord.passes_rfl
  next hap => exact FnRecord.passes_moveTo (Ne.symm (by simpa using hap)) hallow

/-! ### A change of the working copy (R65, R122) -/

/-- R65 on one record: the holder after it is allowed by the new copy, and a new holder has its seq. -/
theorem Grt.reexamineFn_passes (g : Grt) (old new : Settings) (f : Fn) :
    (g.fns.get f).passes new f (g.reexamineFn old new f) ∧ new.allows f (g.reexamineFn old new f).holder = true := by
  unfold Grt.reexamineFn
  dsimp only
  split
  next => exact ⟨FnRecord.passes_toFs _, rfl⟩
  split
  next => exact ⟨FnRecord.passes_toFs _, rfl⟩
  next hkept =>
    have hallow : new.allows f (g.fns.get f).holder = true := by
      by_contra hnot
      exact hkept (by simp [hnot])
    split
    next v _ =>
      split
      next h =>
        simp only [Bool.and_eq_true, beq_iff_eq] at h
        obtain ⟨⟨⟨⟨-, hp⟩, hap⟩, -⟩, -⟩ := h
        have hdl : new.allows f .dl = true := Settings.allows_dl_proportional hp
        exact ⟨FnRecord.passes_moveTo (by simp [hap]) hdl, hdl⟩
      next => exact ⟨FnRecord.passes_rfl, hallow⟩
    next => exact ⟨FnRecord.passes_rfl, hallow⟩

/-- R65 leaves no stick with AP that the new band has outside. -/
theorem Grt.reexamineFn_not_ap {g : Grt} {old new : Settings} {f : Fn} {v : Int} (hp : f.proportional = true)
    (hfresh : g.link = .fresh) (hsame : old.dlChannel f = new.dlChannel f) (hv : g.lastDecoded.get f = some v)
    (hout : outsideBand new f v = true) : (g.reexamineFn old new f).holder ≠ .ap := by
  unfold Grt.reexamineFn
  simp only [hp, hfresh, hsame, hv, hout]
  split
  next => exact nofun
  split
  next => exact nofun
  split
  next => exact nofun
  next hap => simpa using hap

theorem Grt.reexamine_keeps (g : Grt) (old new : Settings)
    (hnew : old.bytes.length = 350 → new.bytes.length = 350) :
    (g.tenure old).keeps ((g.reexamine old new).tenure new) := by
  have hget (f : Fn) : (g.reexamine old new).fns.get f = g.reexamineFn old new f := PerFn.get_build _ f
  have hlast (f : Fn) : (g.reexamine old new).lastDecoded.get f =
      if old.dlChannel f ≠ new.dlChannel f then none else g.lastDecoded.get f := by
    simp [Grt.reexamine]
  refine ⟨fun f => ?_, fun hlen => ⟨hnew hlen, fun _ f => ?_,
    fun ⟨_, hchannel⟩ => ⟨fun f v hp hfresh hv hout => ?_, fun f hf => ?_⟩⟩⟩
  · simp only [Grt.tenure, hget]
    exact (g.reexamineFn_passes old new f).1.imp id fun ⟨hne, hseq, _⟩ => ⟨hne, hseq⟩
  · simp only [Grt.tenure, hget]
    exact (g.reexamineFn_passes old new f).2
  · simp only [Grt.tenure, hget, hlast] at hv ⊢
    obtain ⟨hsame, hv⟩ := Option.ite_none_left_eq_some.1 hv
    exact Grt.reexamineFn_not_ap hp hfresh (not_ne_iff.1 hsame) hv hout
  · simp only [Grt.tenure, hlast]
    split
    next => rfl
    next hsame => exact hchannel f ((not_ne_iff.1 hsame).trans hf)

end Sys2Proof.Machine
end

section
/-! PROOFS. O9, O10 and O13: the stop events pass every function to FS or none, a new working copy re-examines the table,
and every command keeps the holders allowed, the radio's right and the count of seq. -/

namespace Sys2Proof.Machine

variable {s t u : State}

section
variable (s)

/-! ### Stop events pass every function to FS or none -/

theorem Grt.allToFs_tenure (g : Grt) (c c' : Settings) : (g.allToFs c).tenure c' = (g.tenure c').parked := by
  simp only [Grt.tenure, Tenure.parked, Grt.allToFs, FnRecord.toFs, PerFn.get_build]
  rfl

@[simp] theorem State.haltWith_tenure (b : Bool) : (s.haltWith b).tenure = s.tenure.parked := by
  have hcfg : (s.haltWith b).cfg = s.cfg := by
    simp [State.cfg, State.haltWith_eq, State.haltPassed, State.haltBase]
  rw [State.tenure, State.haltWith_grt, hcfg, Grt.allToFs_tenure]
  rfl

@[simp] theorem State.halt_tenure : s.halt.tenure = s.tenure.parked := s.haltWith_tenure false

theorem State.enterSleep_tenure (o : SleepOrigin) : (s.enterSleep o).tenure = s.tenure.slept := by
  have htenure : (s.enterSleep o).tenure =
      { (s.openSwitch.grt.allToFs s.openSwitch.cfg).tenure s.cfg with link := .never, lastDecoded := fun _ => none } := by
    simp [State.enterSleep, State.tenure, State.cfg, Grt.tenure]
  rw [htenure, Grt.allToFs_tenure, State.openSwitch_grt]
  rfl

theorem State.prechargeFailed_parks : s.tenure.parks s.prechargeFailed.tenure := by
  unfold State.prechargeFailed
  split
  · rw [State.halt_tenure]
    exact Tenure.parks_parked
  · exact .rfl

theorem State.abortPrecharge_parks : s.tenure.parks s.abortPrecharge.tenure :=
  State.prechargeFailed_parks _

theorem State.failPrecharge_parks : s.tenure.parks s.failPrecharge.tenure :=
  State.prechargeFailed_parks _

theorem State.requestPrecharge_parks : s.tenure.parks s.requestPrecharge.tenure := by
  unfold State.requestPrecharge
  split
  next =>
    split
    next => exact s.prechargeFailed_parks
    dsimp only
    split
    next => exact State.abortPrecharge_parks _
    next => exact .rfl
  next => exact .rfl

theorem State.makeStart_parks : s.tenure.parks s.makeStart.tenure := State.requestPrecharge_parks _

theorem State.enterLockout_parks : s.tenure.parks s.enterLockout.tenure := by
  have hbegun : s.lockoutBegun.tenure = s.tenure := s.lockoutBegun_tenure
  rw [State.enterLockout_eq, ← hbegun]
  split
  next => exact .rfl
  next => rw [State.haltWith_tenure]; exact Tenure.parks_parked
  next => rw [State.halt_tenure]; exact Tenure.parks_parked
  next => rw [State.halt_tenure]; exact Tenure.parks_parked
  next => exact .inl (State.openSwitch_tenure _)

theorem State.hardTrip_parks : s.tenure.parks s.hardTrip.tenure := by
  unfold State.hardTrip
  split
  · exact .inl (s.enterCutoff_tenure _)
  · exact .inl (s.enterCutoff_tenure _)
  · split
    · exact s.enterLockout_parks
    · exact .rfl
  · exact .rfl

theorem State.closeSwitch_parks : s.tenure.parks s.closeSwitch.tenure := by
  have hclosed : ((s.withProt { s.prot with sw := .closed, prechargeEnd := none }).prechargeSucceeded).tenure =
      s.tenure := by
    unfold State.prechargeSucceeded
    split <;> rfl
  unfold State.closeSwitch
  dsimp only
  rw [← hclosed]
  split
  · exact State.hardTrip_parks _
  · exact .rfl

theorem State.protTransition_parks (done : Dwell → Bool) (tapSeen : Bool) :
    s.tenure.parks (s.protTransition done tapSeen).tenure := by
  unfold State.protTransition
  split
  · exact s.enterLockout_parks
  split
  · exact .inl (s.enterCutoff_tenure _)
  (repeat' split) <;> exact .rfl

theorem State.completeDwell_parks (k : Dwell) : s.tenure.parks (s.completeDwell k).tenure := by
  unfold State.completeDwell
  split
  · exact State.protTransition_parks (s.reach _) _ _
  · exact .rfl

theorem State.protSample_parks (publishes tapSeen : Bool) : s.tenure.parks (s.protSample publishes tapSeen).tenure := by
  unfold State.protSample
  split
  · exact State.protTransition_parks
      (s.withProt { s.prot with dwell := s.dwellsAfter, throttleRested := s.valueOf .throttle == 0 }) _ _
  · exact s.protTransition_parks _ _

theorem State.enterBench_tenure (run : RunState) : (s.enterBench run).tenure = s.tenure := rfl

theorem State.enterDry_parks : s.tenure.parks s.enterDry.tenure := by
  unfold State.enterDry
  rw [← s.enterBench_tenure .benchDry]
  split
  · exact State.hardTrip_parks _
  · exact .rfl

theorem State.benchDryRule_parks : s.tenure.parks s.benchDryRule.tenure := by
  unfold State.benchDryRule
  split
  · rw [State.runctl_tenure]
    exact s.enterDry_parks
  · exact .rfl

theorem State.benchWetRule_parks : s.tenure.parks s.benchWetRule.tenure := by
  unfold State.benchWetRule
  split
  next => exact .rfl
  split
  next => exact .rfl
  split
  next => exact .rfl
  next => exact State.requestPrecharge_parks (s.enterBench _)

theorem State.startRule_parks : s.tenure.parks s.startRule.tenure := by
  unfold State.startRule
  split
  next => exact .rfl
  split
  next => exact .rfl
  split
  next => exact .rfl
  split
  next => exact .rfl
  next => exact s.makeStart_parks

theorem State.endWake_parks : s.tenure.parks s.endWake.tenure := by
  unfold State.endWake
  dsimp only
  split
  · exact State.makeStart_parks (s.withRsc _)
  · exact .rfl

theorem State.sleepRule_keeps_tenure : s.tenure.keeps s.sleepRule.tenure := by
  unfold State.sleepRule
  split <;> rw [State.runctl_tenure]
  · rw [State.enterSleep_tenure]
    exact Tenure.keeps_slept
  · exact .rfl
  · exact .rfl

/-! ### A start out of HALTED passes nothing (R159) -/

theorem State.prechargeFailed_tenure (h : s.rsc.run ≠ .benchWet) : s.prechargeFailed.tenure = s.tenure := by
  unfold State.prechargeFailed
  rw [if_neg (by simpa using h)]
  rfl

theorem State.makeStart_tenure (h : s.rsc.run ≠ .benchWet) : s.makeStart.tenure = s.tenure := by
  unfold State.makeStart State.requestPrecharge
  split
  next =>
    split
    next => exact State.prechargeFailed_tenure (s.withRsc _) h
    dsimp only
    split
    next => exact State.prechargeFailed_tenure _ h
    next => rfl
  next => rfl

/-! ### The working copy replaced (R65) -/

/-- A replaced working copy re-examines the table, which a preemption before it has left with its tenure (R65, R113). -/
theorem State.applySettings_eq (c : Settings) :
    ∃ v : State, v.cfg = c ∧ v.grt.tenure s.cfg = s.tenure ∧
      s.applySettings c = v.commitGrants (v.grt.reexamine s.cfg c) := by
  unfold State.applySettings
  dsimp only
  split
  · refine ⟨_, ?_, ?_, rfl⟩
    · simp [State.cfg]
    · rw [State.preempt_grt_tenure]
      rfl
  · exact ⟨_, by rfl, by rfl, rfl⟩

/-- The table after a replaced working copy is the re-examined one (R65). -/
theorem State.applySettings_keeps (c : Settings) (hc : s.cfg.bytes.length = 350 → c.bytes.length = 350) :
    s.tenure.keeps (s.applySettings c).tenure := by
  obtain ⟨v, hcfg, hgrt, e⟩ := s.applySettings_eq c
  rw [e, State.commitGrants_tenure, hcfg, ← hgrt]
  exact v.grt.reexamine_keeps s.cfg c hc

theorem State.endLoad_keeps_tenure (c : Settings) (valid : Bool) (hc : s.cfg.bytes.length = 350 → c.bytes.length = 350) :
    s.tenure.keeps (s.endLoad c valid).tenure := s.applySettings_keeps c hc

/-- An image that passes holds 350 bytes of settings before its CRC (R158). -/
theorem StoreImage.passing_length {image : StoreImage} {c : Settings} (h : image.passing = some c) :
    c.bytes.length = 350 := by
  unfold StoreImage.passing at h
  split at h
  next bytes =>
    obtain ⟨hok, he⟩ := Option.ite_none_right_eq_some.1 h
    obtain rfl := Option.some.inj he
    simp only [Bool.and_eq_true, beq_iff_eq] at hok
    obtain ⟨⟨hlen, -⟩, -⟩ := hok
    simp [hlen]
  next => exact nomatch h

theorem State.startAfterLoad_tenure (h : s.rsc.run ≠ .benchWet) : s.startAfterLoad.tenure = s.tenure := by
  unfold State.startAfterLoad
  split
  · rfl
  · exact s.makeStart_tenure h

theorem State.finishLoad_keeps_tenure (powerUp : Bool) : s.tenure.keeps (s.finishLoad powerUp).tenure := by
  unfold State.finishLoad
  split
  next c hc =>
    have hend := s.endLoad_keeps_tenure c true fun _ => StoreImage.passing_length hc
    have hstart : (s.endLoad c true).startAfterLoad.tenure = (s.endLoad c true).tenure :=
      State.startAfterLoad_tenure _ nofun
    rw [← hstart] at hend
    split_ifs
    all_goals first | exact hend | rwa [hstart] at hend
  next =>
    rw [State.raise_tenure]
    exact s.endLoad_keeps_tenure _ _ fun _ => factorySettings_length

/-- Bytes written inside the working copy leave its length (R163). -/
theorem Settings.write_length {c : Settings} {offset : Nat} {data : List Byte}
    (h : offset + data.length ≤ c.bytes.length) : (c.write offset data).bytes.length = c.bytes.length := by
  simp only [Settings.write, List.length_append, List.length_take, List.length_drop]
  omega

/-- Bytes before those written stay. -/
theorem Settings.write_at_before {c : Settings} {offset k : Nat} (data : List Byte) (hk : k < offset)
    (h : offset ≤ c.bytes.length) : (c.write offset data).at k = c.at k := by
  have hget : (c.write offset data).bytes[k]? = c.bytes[k]? := by
    simp only [Settings.write, List.append_assoc]
    rw [List.getElem?_append_left (by simp; omega), List.getElem?_take_of_lt hk]
  simp [Settings.at, List.getD_eq_getElem?_getD, hget]

theorem State.editConfig_tenure (c : Settings) : (s.editConfig c).tenure = (s.applySettings c).tenure := rfl

theorem State.cfgWrite_keeps_tenure (ps : List Byte) : s.tenure.keeps (s.cfgWrite ps).tenure := by
  unfold State.cfgWrite
  dsimp only
  split
  next => exact .rfl
  split
  next => exact .rfl
  next hrange =>
    split
    next => exact .rfl
    next =>
      simp only [Bool.not_eq_true', Bool.not_eq_false, Bool.and_eq_true, decide_eq_true_eq] at hrange
      obtain ⟨-, hend⟩ := hrange
      rw [State.respond_tenure, State.editConfig_tenure]
      refine s.applySettings_keeps _ fun hlen => ?_
      exact (Settings.write_length (hlen ▸ hend)).trans hlen

/-- The function records stand before the scene table, so a scene entry written leaves them (R46, R120). -/
theorem Tenure.keeps_write {a : Tenure} {offset : Nat} {data : List Byte} (hlow : 57 ≤ offset)
    (hend : offset + data.length ≤ 350) : a.keeps { a with cfg := a.cfg.write offset data } := by
  refine ⟨fun _ => .inl ⟨rfl, rfl⟩, fun hlen => ?_⟩
  have hat (k : Nat) (hk : k < 57) : (a.cfg.write offset data).at k = a.cfg.at k :=
    Settings.write_at_before data (hk.trans_le hlow) (by omega)
  have hfirst (f : Fn) : f.recordAt < 57 := by cases f <;> decide
  have hsecond (f : Fn) : f.recordAt + 1 < 57 := by cases f <;> decide
  have hallow (f : Fn) (h : Holder) : (a.cfg.write offset data).allows f h = a.cfg.allows f h := by
    cases h <;> simp [Settings.allows, Settings.storedDl, Settings.storedAp, Settings.storedPd, hat _ (hfirst f)]
  have hband (f : Fn) (v : Int) : outsideBand (a.cfg.write offset data) f v = outsideBand a.cfg f v := by
    unfold outsideBand Settings.neutralBand
    rw [hat _ (hfirst f)]
  have hchannel (f : Fn) : (a.cfg.write offset data).dlChannel f = a.cfg.dlChannel f := by
    simp [Settings.dlChannel, hat _ (hsecond f)]
  refine ⟨(Settings.write_length (hlen ▸ hend)).trans hlen, fun hok f => ?_,
    fun ⟨hsteer, hlast⟩ => ⟨fun f v => ?_, fun f => ?_⟩⟩
  · exact (hallow f _).trans (hok f)
  · simpa [hband] using hsteer f v
  · simpa [hchannel] using hlast f

theorem State.sceneWrite_keeps_tenure {ps : List Byte} (hps : ps.length = 5) :
    s.tenure.keeps (s.sceneWrite ps).tenure := by
  unfold State.sceneWrite
  split
  next h =>
    simp only [sceneWriteOk, Bool.and_eq_true, decide_eq_true_eq] at h
    obtain ⟨⟨⟨⟨hscene, houtput⟩, -⟩, -⟩, -⟩ := h
    refine Tenure.keeps_write (a := s.tenure) ?_ ?_
    · simp only [sceneAt]
      omega
    · simp only [sceneAt, List.length_take, List.length_drop, hps]
      omega
  next => exact .rfl

/-! ### The radio, the pendant and the grant commands -/

theorem State.receiveFrame_keeps_tenure (bytes : List Byte) : s.tenure.keeps (s.receiveFrame bytes).tenure := by
  unfold State.receiveFrame State.handOn
  split
  next =>
    split
    next => exact .rfl
    split
    next =>
      rw [State.commitGrants_tenure]
      exact s.grt.freshFrame_keeps s.cfg _ _
    next => exact .rfl
  next => exact .rfl

theorem State.linkByte_keeps_tenure (b : Byte) : s.tenure.keeps (s.linkByte b).tenure := by
  unfold State.linkByte
  split
  next => split <;> exact .rfl
  next =>
    split
    next => exact State.receiveFrame_keeps_tenure (s.withDlr _) _
    next => exact .rfl

theorem State.presentPendant_keeps_tenure (pressed : Bool) : s.tenure.keeps (s.presentPendant pressed).tenure := by
  unfold State.presentPendant
  split
  next => split <;> exact .rfl
  next =>
    rw [State.commitGrants_tenure]
    exact s.grt.pendantChange_keeps s.cfg _ _

theorem State.grantTo_tenure (f : Fn) (r : FnRecord) (st : Status) :
    (s.grantTo f r st).tenure = (s.grt.put f r).tenure s.cfg := by
  rw [State.grantTo, State.respond_tenure, State.commitGrants_tenure]

theorem State.grantRule_keeps_tenure (ps : List Byte) (rule : Fn → State → State)
    (h : ∀ f, s.tenure.keeps (rule f s).tenure) : s.tenure.keeps (s.grantRule ps rule).tenure := by
  unfold State.grantRule
  split
  next => exact .rfl
  next =>
    split
    next => exact .rfl
    next => exact h _

theorem State.claim_keeps_tenure (f : Fn) : s.tenure.keeps (s.claim f).tenure := by
  unfold State.claim
  split
  next => exact .rfl
  next h =>
    rw [State.grantTo_tenure]
    exact State.claimed_keeps h rfl rfl

theorem State.claimSet_keeps_tenure (f : Fn) (v : Int) : s.tenure.keeps (s.claimSet f v).tenure := by
  unfold State.claimSet
  split
  next => exact .rfl
  split
  next => exact .rfl
  split
  next => exact .rfl
  next h =>
    rw [State.grantTo_tenure]
    exact State.claimed_keeps h rfl rfl

theorem State.releaseFn_keeps_tenure (f : Fn) : s.tenure.keeps (s.releaseFn f).tenure := by
  unfold State.releaseFn
  split
  next => exact .rfl
  next h =>
    have hap : s.holderOf f = .ap := by simpa using h
    rw [State.grantTo_tenure]
    exact Grt.givenUp_keeps fun hdl => nomatch hap.symm.trans hdl

end

/-! ### Every command -/

/-- An outcome keeps from `s` what O9, O10 and O13 state of a step. -/
def keepsTenure (s : State) (o : Host.Outcome State Fault Refusal) : Prop := ∀ t, o = .next t → s.tenure.keeps t.tenure

theorem keepsTenure_completed (h : s.tenure.keeps u.tenure) : keepsTenure s (completed u) := by
  rintro _ ⟨⟩
  exact h

theorem keepsTenure_taken {ok ex : Bool} {al : State → List Byte} {owner : State → State}
    (h : ok = true → s.wakeSource.tenure.keeps (owner s.wakeSource).tenure) :
    keepsTenure s (completed (s.takeCommand ok ex al owner)) := by
  apply keepsTenure_completed
  obtain ⟨st, d, e⟩ | ⟨hok, e⟩ := s.takeCommand_cases ok ex al owner <;> rw [e]
  · exact .rfl
  · exact h hok

/-- The resets, whose effect on seq is their own (R67). -/
def resets : Instr → Bool
  | .powerOnReset _ | .brownOutReset _ | .pinReset _ | .reset _ => true
  | _ => false

theorem exec_keepsTenure (c : Instr) (hreset : resets c = false) (s : State) : keepsTenure s (exec c s) := by
  by_cases hc : passive c = true
  · intro t h
    rw [passive_leavesTenure c hc s t h]
    exact .rfl
  cases c
  all_goals try exact absurd rfl hc
  case powerOnReset | brownOutReset | pinReset | reset => exact Bool.noConfusion hreset
  case sampleSet raw =>
    exact keepsTenure_completed (State.protSample_parks ((s.reach s.pmon.nextSample).monitorSample raw) _ _).keeps
  case warnEntryComplete | warnExitComplete | cutTimerComplete | critTimerComplete | rearmTimerComplete =>
    exact keepsTenure_completed (s.completeDwell_parks _).keeps
  case ocTripAssert =>
    simp only [exec, execOcTripAssert]
    split
    next => exact keepsTenure_completed .rfl
    next =>
      split
      next => exact keepsTenure_completed (State.hardTrip_parks (s.withLines _)).keeps
      split
      next => exact keepsTenure_completed (State.abortPrecharge_parks (s.withLines _)).keeps
      next => exact keepsTenure_completed .rfl
  case prechargeExpiry =>
    simp only [exec, execPrechargeExpiry]
    split
    next =>
      split
      next => exact keepsTenure_completed (State.closeSwitch_parks (s.reach _)).keeps
      next => exact keepsTenure_completed (State.failPrecharge_parks (s.reach _)).keeps
    next => exact keepsTenure_completed .rfl
  case radioFrame => exact keepsTenure_completed (State.receiveFrame_keeps_tenure (s.withDlr _) _)
  case linkByteReceived => exact keepsTenure_completed (s.linkByte_keeps_tenure _)
  case dlFreshnessExpiry =>
    simp only [exec, execDlFreshnessExpiry]
    split
    next =>
      refine keepsTenure_completed ?_
      rw [State.commitGrants_tenure]
      exact s.grt.freshnessExpired_keeps s.cfg
    next => exact keepsTenure_completed .rfl
  case apLeaseExpiry f =>
    simp only [exec, execApLeaseExpiry]
    split
    next =>
      refine keepsTenure_completed ?_
      rw [State.commitGrants_tenure]
      exact Grt.put_keeps (g := s.grt) (c := s.cfg) (FnRecord.passes_toFs _) nofun
    next => exact keepsTenure_completed .rfl
  case pendantSettleExpiry line =>
    simp only [exec, execPendantSettleExpiry]
    split
    next => exact keepsTenure_completed .rfl
    next t _ =>
      split
      next => exact keepsTenure_completed .rfl
      next => exact keepsTenure_completed (State.presentPendant_keeps_tenure ((s.reach t).withPnd _) _)
  case wakeTimerExpiry =>
    simp only [exec, execWakeTimerExpiry]
    (repeat' split) <;> apply keepsTenure_completed
    · exact (State.endWake_parks (s.reach _)).keeps
    · exact .rfl
    · exact .rfl
  case idleSleepExpiry =>
    simp only [exec, execIdleSleepExpiry]
    (repeat' split) <;> apply keepsTenure_completed
    · rw [State.enterSleep_tenure]
      exact Tenure.keeps_slept
    · exact .rfl
    · exact .rfl
  case loadEnd =>
    simp only [exec, execLoadEnd]
    (repeat' split) <;> apply keepsTenure_completed
    · exact State.finishLoad_keeps_tenure (s.reach _) _
    · exact .rfl
    · exact .rfl
  case halt =>
    refine keepsTenure_taken fun _ => ?_
    rw [State.runctl_tenure, State.halt_tenure]
    exact Tenure.parks_parked.keeps
  case sleep => exact keepsTenure_taken fun _ => State.sleepRule_keeps_tenure _
  case benchDry => exact keepsTenure_taken fun _ => (State.benchDryRule_parks _).keeps
  case benchWet => exact keepsTenure_taken fun _ => (State.benchWetRule_parks _).keeps
  case start => exact keepsTenure_taken fun _ => (State.startRule_parks _).keeps
  case cfgWrite => exact keepsTenure_taken fun _ => State.cfgWrite_keeps_tenure _ _
  case sceneWrite =>
    exact keepsTenure_taken fun hlen => State.sceneWrite_keeps_tenure s.wakeSource (by simpa using hlen)
  case claim => exact keepsTenure_taken fun _ => State.grantRule_keeps_tenure _ _ _ fun f => State.claim_keeps_tenure _ f
  case claimSet =>
    exact keepsTenure_taken fun _ => State.grantRule_keeps_tenure _ _ _ fun f => State.claimSet_keeps_tenure _ f _
  case release =>
    exact keepsTenure_taken fun _ => State.grantRule_keeps_tenure _ _ _ fun f => State.releaseFn_keeps_tenure _ f

/-! ### The resets -/

/-- A full reset begins the table and the working copy anew (R67). -/
theorem State.fullReset_upholds (s : State) (kind : FullResetKind) (strap : Bool) :
    s.tenure.upholds (s.fullReset kind strap).tenure :=
  Tenure.upholds_of_fs (fun _ => factorySettings_length) (State.powerOn_holder _ _ _ _ _ _)
    fun _ f _ => by simp [State.tenure, Grt.tenure, State.fullReset, State.powerOn, Grt.powerOn]

/-- A soft reset passes every function to FS, discards the last decoded values and keeps the working copy (R67, R165). -/
theorem State.softReset_upholds (s : State) (strap : Bool) : s.tenure.upholds (s.softReset strap).tenure := by
  have hcfg : (s.softReset strap).cfg = s.cfg := s.leaveBench_cfg false
  refine Tenure.upholds_of_fs (fun h => ?_) (fun f => ?_) fun _ f _ => ?_
  · exact (congrArg (fun c => c.bytes.length) hcfg).trans h
  · simp [State.tenure, Grt.tenure, State.softReset, Grt.softReset, FnRecord.failsafe]
  · simp [State.tenure, Grt.tenure, State.softReset, Grt.softReset, Grt.powerOn]

theorem exec_upholds (c : Instr) (s t : State) (h : exec c s = .next t) : s.tenure.upholds t.tenure := by
  cases hreset : resets c
  · exact (exec_keepsTenure c hreset s t h).2
  cases c
  all_goals try exact Bool.noConfusion hreset
  case powerOnReset | brownOutReset | pinReset =>
    cases h
    rw [State.settle_tenure]
    exact s.fullReset_upholds _ _
  case reset ps =>
    cases h
    rw [State.settle_tenure]
    obtain ⟨_, _, e⟩ | ⟨-, e⟩ := s.takeCommand_cases _ false noData (State.softReset · ps.strap) <;> rw [e]
    · exact .rfl
    · exact s.wakeSource.softReset_upholds _

/-- A step moves the tenure as its front command does, or leaves it (log 1). -/
theorem step_upholds (h : step s = .next t) : s.tenure.upholds t.tenure := by
  obtain rfl | ⟨c, rest, h⟩ := step_next h
  · exact .rfl
  · exact exec_upholds c (s.withPending rest) t h

/-- Settles O9: no step brings THROTTLE or STEER to AP against the radio, a frame, a new band and a claim included. -/
theorem radioKeepsTheWheel : Obligations.RadioKeepsTheWheel := by
  intro s t hcfg hradio h
  obtain ⟨-, -, hkeep⟩ := step_upholds h hcfg
  exact State.tenure_radioOk.1 (hkeep (State.tenure_radioOk.2 hradio))

/-- Settles O10: a function passes to FS or to a holder its allowed set names, and every write of the working copy stays
within its 350 bytes. -/
theorem holdersStayAllowed : Obligations.HoldersStayAllowed := by
  intro s t hcfg hok h
  obtain ⟨hlen, hkeep, -⟩ := step_upholds h hcfg
  exact ⟨hlen, State.tenure_holdersOk.1 (hkeep (State.tenure_holdersOk.2 hok))⟩

/-- Settles O13: out of the resets a command changes a function's holder at most once, and its seq with it. -/
theorem seqCountsHolderChanges : Obligations.SeqCountsHolderChanges := by
  intro c s t f hfull hsoft h
  have hreset : resets c = false := by
    cases c
    case powerOnReset b | brownOutReset b | pinReset b =>
      obtain ⟨hpower, hbrown, hpin⟩ := hfull b
      contradiction
    case reset ps => exact absurd rfl (hsoft ps)
    all_goals rfl
  exact (exec_keepsTenure c hreset s t h).1 f

end Sys2Proof.Machine
end

section
/-! PROOFS. What a new grant table sets off in the other blocks (R11, R71, R100, R113, R123, R160): `commitGrants` meets the
relation `followsTable` of Safety.lean. -/

namespace Sys2Proof.Machine

section
variable (s : State)

/-! ### A change of WINCH's holder -/

theorem Drv.onMoving_self (cap : Nat) (released moving : Bool) (d : Drv) : d.onMoving cap released moving moving = d := by
  simp [Drv.onMoving]

/-- A preemption moves the drive as the winch's moving flag does (R71, R106). -/
theorem State.preempt_drv_onMoving :
    s.preempt.drv = s.drv.onMoving s.cfg.winchDriveCap s.drivePwmReleased s.wch.moving s.preempt.wch.moving := by
  cases ha : s.wch.active with
  | none => rw [s.preempt_none ha, Drv.onMoving_self]
  | some a =>
    obtain ⟨i, o, r⟩ := a
    obtain ⟨hwch, -⟩ := s.preempt_some i o r ha
    rw [hwch, State.preempt_drv, ha]
    cases hm : s.wch.moving <;> simp [Drv.onMoving]

/-- A change of WINCH's holder moves the drive as the winch's moving flag does (R71, R100). -/
theorem State.winchHandover_drv_onMoving (old new : Holder) :
    (s.winchHandover old new).drv =
      s.drv.onMoving s.cfg.winchDriveCap s.drivePwmReleased s.wch.moving (s.winchHandover old new).wch.moving := by
  have hpreempt := (s.withWch s.wch.clearDirect).preempt_drv_onMoving
  unfold State.winchHandover
  by_cases hsame : old = new
  · simp [hsame, Drv.onMoving_self]
  by_cases hold : old = .ap
  · subst hold
    have hnew : new ≠ .ap := Ne.symm hsame
    simp only [beq_false_of_ne hsame, beq_false_of_ne hnew, beq_self_eq_true, Bool.false_eq_true, if_true, if_false]
    exact hpreempt
  by_cases hnew : new = .ap
  · simp [hold, hnew, State.setWinchDuty_drv]
    rfl
  · simp [hold, hnew, hsame, Wch.clearDirect, Drv.onMoving_self]

/-- The winch after a change of its holder: the direct stall ended, and the motor stopped by a passage to AP or by a
preemption (R100, R113). -/
theorem State.winchHandover_wch_eq {old new : Holder} (h : old ≠ new) :
    (s.winchHandover old new).wch =
      { s.wch with
        stallHold := false, stalledSign := none, directCurrent := none, directDrum := none
        slots := (s.winchHandover old new).wch.slots, runFlag := (s.winchHandover old new).wch.runFlag
        duty := if new == .ap || (old == .ap && s.wch.active.isSome) then 0 else s.wch.duty
        moving := if new == .ap || (old == .ap && s.wch.active.isSome) then false else s.wch.moving
        pwm := if new == .ap || (old == .ap && s.wch.active.isSome) then 0 else s.wch.pwm } := by
  obtain ⟨hleft, hstays, htaken⟩ := s.winchHandover_wch old new h
  by_cases hold : old = .ap
  · subst hold
    have hnew : (new == Holder.ap) = false := beq_false_of_ne h.symm
    rw [hleft rfl, hnew]
    have hactive : (s.withWch s.wch.clearDirect).wch.active = s.wch.active := rfl
    cases ha : s.wch.active with
    | none => rw [State.preempt_none _ (hactive.trans ha)]; rfl
    | some a =>
      obtain ⟨i, o, r⟩ := a
      obtain ⟨hwch, -⟩ := State.preempt_some _ i o r (hactive.trans ha)
      rw [hwch]
      rfl
  by_cases hnew : new = .ap
  · rw [htaken hold hnew, hnew]
    rfl
  · rw [hstays hold hnew, beq_false_of_ne hold, beq_false_of_ne hnew]
    rfl

/-- WINCH passing from a holder other than AP ends no order (R113). -/
theorem State.winchHandover_sameQueue_of_direct {old : Holder} (new : Holder) (h : old ≠ .ap) :
    sameQueue s (s.winchHandover old new) := by
  unfold State.winchHandover
  rw [beq_false_of_ne h]
  dsimp only
  (repeat' split) <;> first | exact ⟨rfl, rfl, rfl, rfl, rfl⟩ | contradiction

/-! ### A new grant table -/

@[simp] theorem State.commitGrants_holderOf (g : Grt) (f : Fn) :
    (s.commitGrants g).holderOf f = (g.fns.get f).holder := by
  rw [State.holderOf, State.commitGrants_grt]

theorem State.commitGrants_driveFollows (g : Grt) : driveFollows s (s.commitGrants g) :=
  driveFollows_of_onMoving (State.winchHandover_drv_onMoving _ _ _)

theorem State.commitGrants_sameQueue_of_direct (g : Grt) (h : s.holderOf .winch ≠ .ap) :
    sameQueue s (s.commitGrants g) := by
  unfold State.commitGrants
  refine sameQueue.trans ?_ (State.winchHandover_sameQueue_of_direct _ _ h)
  exact ⟨rfl, rfl, rfl, rfl, rfl⟩

/-- A new grant table hands WINCH over (R71, R100, R113). -/
theorem State.commitGrants_handedOver (g : Grt) : handedOver s (s.commitGrants g) := by
  unfold handedOver
  rw [State.commitGrants_holderOf]
  refine ⟨fun hsame => ?_,
    fun hmoved => ⟨State.winchHandover_wch_eq _ (Ne.symm hmoved), fun hold => ?_, fun hap hq => ?_⟩,
    s.commitGrants_driveFollows g⟩
  · have hnone (v : State) : v.winchHandover (s.holderOf .winch) (g.fns.get .winch).holder = v := by
      simp [State.winchHandover, hsame]
    unfold State.commitGrants
    rw [hnone]
    exact ⟨rfl, rfl, rfl⟩
  · obtain ⟨hslots, -, -, hflag, hdone⟩ := s.commitGrants_sameQueue_of_direct g hold
    exact ⟨hslots, hflag, hdone⟩
  · exact s.commitGrants_preempted g hq fun h => hmoved (h.trans hap.symm)

end

/-! ### The relations of Safety.lean carried along -/

variable {s v t u : State}

/-- `handedOver` reads of the state after it the winch, the drive, the holder of WINCH and ORDER_DONE alone. -/
theorem handedOver.congr (h : handedOver s v) (hh : t.holderOf .winch = v.holderOf .winch) (hw : t.wch = v.wch)
    (hd : t.drv = v.drv) (ho : t.acp.orderDone = v.acp.orderDone) : handedOver s t := by
  unfold handedOver preempted driveFollows at *
  rwa [hh, hw, hd, ho]

/-- Where WINCH changes its holder the direct stall ends (R100). -/
theorem handedOver.directEnded (h : handedOver s t) (hne : t.holderOf .winch ≠ s.holderOf .winch) : t.wch.directEnded := by
  obtain ⟨-, hmoved, -⟩ := h
  obtain ⟨hwch, -⟩ := hmoved hne
  rw [hwch]
  exact ⟨rfl, rfl, rfl, rfl⟩

/-- Where AP loses WINCH an ACTIVE order is preempted (R113). -/
theorem handedOver.preempted (h : handedOver s t) (hne : t.holderOf .winch ≠ s.holderOf .winch)
    (hap : s.holderOf .winch = .ap) (hq : s.queueOk) : preempted s t := by
  obtain ⟨-, hmoved, -⟩ := h
  obtain ⟨-, -, hpre⟩ := hmoved hne
  exact hpre hap hq

/-- Where AP does not lose WINCH no order ends. -/
theorem handedOver.queue_kept (h : handedOver s t) (hap : s.holderOf .winch = .ap → t.holderOf .winch = .ap) :
    t.wch.slots = s.wch.slots ∧ t.acp.orderDone = s.acp.orderDone := by
  obtain ⟨hsame, hmoved, -⟩ := h
  by_cases hne : t.holderOf .winch = s.holderOf .winch
  · obtain ⟨hwch, -, hdone⟩ := hsame hne
    exact ⟨congrArg Wch.slots hwch, hdone⟩
  · obtain ⟨-, hdirect, -⟩ := hmoved hne
    obtain ⟨hslots, -, hdone⟩ := hdirect fun hs => hne ((hap hs).trans hs.symm)
    exact ⟨hslots, hdone⟩

/-- A passage of WINCH to AP stops the motor (R100). -/
theorem handedOver.stopped (h : handedOver s t) (hne : t.holderOf .winch ≠ s.holderOf .winch)
    (hap : t.holderOf .winch = .ap) : t.wch.duty = 0 ∧ t.wch.moving = false ∧ t.wch.pwm = 0 := by
  obtain ⟨-, hmoved, -⟩ := h
  obtain ⟨hwch, -⟩ := hmoved hne
  rw [hwch, hap]
  exact ⟨rfl, rfl, rfl⟩

/-- `followsTable` reads of the state before it no more than these blocks. -/
theorem followsTable.of_moved (hprot : v.prot = s.prot) (hgrt : v.grt = s.grt) (hdrv : v.drv = s.drv)
    (hwch : v.wch = s.wch) (hlgt : v.lgt = s.lgt) (hacp : v.acp = s.acp) (hrsc : v.rsc = s.rsc)
    (h : followsTable v t) : followsTable s t := by
  cases s
  cases v
  subst hprot hgrt hdrv hwch hlgt hacp hrsc
  exact h

/-- The arming timer after a new THROTTLE value (R160). -/
theorem State.armingAfter_kept (old new : Int) (h : s.rsc.run ≠ .arming ∨ new = old) :
    s.armingAfter old new = s.rsc.armingEnd := by
  unfold State.armingAfter
  rcases h with h | rfl
  · simp [h]
  · simp

theorem State.armingAfter_moved {old new : Int} (hrun : s.rsc.run = .arming) (h : new ≠ old) :
    s.armingAfter old new = if new = 0 then some (s.now + s.cfg.armNeutral * msec) else none := by
  simp [State.armingAfter, hrun, Ne.symm h]

/-- A command whose effect is a new grant table, an answer apart, has set off what the table's changes set off. -/
theorem followsTable_commitGrants {g : Grt} (hu : unchangedBut [.acp, .grt] (s.commitGrants g) u)
    (hfns : u.grt.fns = g.fns) (hdone : u.acp.orderDone = (s.commitGrants g).acp.orderDone) :
    followsTable s u.settle := by
  have hprot : u.prot = (s.commitGrants g).prot := hu .prot (by simp)
  have hlgt : u.lgt = (s.commitGrants g).lgt := hu .lgt (by simp)
  have hrsc : u.rsc = (s.commitGrants g).rsc := hu .rsc (by simp)
  have hnow : u.now = s.now := (hu .now (by simp)).trans (by simp)
  have hwch : u.wch = (s.commitGrants g).wch := hu .wch (by simp)
  have hdrv : u.drv = (s.commitGrants g).drv := hu .drv (by simp)
  have hvalue (f : Fn) : u.settle.valueOf f = (g.fns.get f).value := by
    rw [State.valueOf, State.settle_grt, hfns]
  have hholder : u.settle.holderOf .winch = (s.commitGrants g).holderOf .winch := by
    rw [State.commitGrants_holderOf, State.holderOf, State.settle_grt, hfns]
  have harming : u.settle.rsc.armingEnd = s.armingAfter (s.valueOf .throttle) (g.fns.get .throttle).value := by
    rw [State.settle_rsc, hrsc, State.commitGrants_rsc]
  unfold followsTable
  rw [hvalue, hvalue, harming]
  refine ⟨?_, ?_, ?_, State.armingAfter_kept _ _, fun ⟨hrun, hne⟩ => ?_, ?_⟩
  · rw [State.settle_prot, hprot, State.commitGrants_prot]
  · rw [State.settle_lgt, hlgt, State.commitGrants_lgt]
    simp
  · exact (s.commitGrants_handedOver g).congr hholder hwch hdrv hdone
  · rw [State.armingAfter_moved hrun hne, State.settle_now, hnow]
  · have hidle : u.rsc.idleEnd = s.rsc.idleEnd := by rw [hrsc, State.commitGrants_rsc]
    rw [State.settle_rsc, State.idleAfter_eq_idleUntil hidle, hrsc, State.commitGrants_rsc]

/-- The frame of a new grant table. -/
theorem unchangedBut_commitGrants (s : State) (g : Grt) :
    unchangedBut [.prot, .grt, .drv, .wch, .lgt, .acp, .rsc] s (s.commitGrants g) := by
  intro b hb
  cases b <;> simp at hb <;> simp [State.agree]

end Sys2Proof.Machine
end

section
/-! PROOFS. The grant commands at their rule: the checks of R147 and R55 passed or not, a refusal, a success (R55 to R59). -/

namespace Sys2Proof.Machine

variable {s t : State} {f : Fn} {ps : List Byte} {rule : Fn → State → State}

/-! ### Function ids -/

/-- A function's id names it (Table 3-1). -/
theorem Fn.ofId_code (f : Fn) (rest : List Byte) : Fn.ofId (param (byteOf f.code :: rest) 0) = some f := by
  cases f <;> rfl

/-- An id above 6 names none. -/
theorem Fn.ofId_above {n : Nat} (h : 6 < n) : Fn.ofId n = none :=
  List.getElem?_eq_none h

/-! ### The checks of R55 -/

/-- Out of SLEEP a command that names a function reaches its rule. -/
theorem State.grantRule_awake (hrun : s.rsc.run ≠ .sleep) (hf : Fn.ofId (param ps 0) = some f) :
    s.wakeSource.grantRule ps rule = rule f s := by
  rw [s.wakeSource_awake hrun]
  unfold State.grantRule
  rw [hf]
  exact if_neg (by simpa using hrun)

/-- In SLEEP a command that names a function is refused (R55). -/
theorem State.grantRule_asleep (hrun : s.rsc.run = .sleep) (hf : Fn.ofId (param ps 0) = some f) :
    answersWith [] s (s.wakeSource.grantRule ps rule).settle .refusedState
      [byteOf (s.holderOf f).code, byteOf (s.grt.fns.get f).seq] := by
  have h : s.wakeSource.grantRule ps rule = s.wakeSource.respond .refusedState (s.presentGrant f) := by
    unfold State.grantRule
    rw [hf]
    exact if_pos (beq_iff_eq.2 hrun)
  rw [h]
  exact answersWith_wake

/-- A command that names no function is refused (R55, R173). -/
theorem State.grantRule_unknown (hf : Fn.ofId (param ps 0) = none) :
    answersWith [] s (s.wakeSource.grantRule ps rule).settle (if s.rsc.run = .sleep then .refusedState else .badValue)
      [0xFF, 0xFF] := by
  have h : s.wakeSource.grantRule ps rule =
      s.wakeSource.respond (if s.rsc.run = .sleep then .refusedState else .badValue) noGrant := by
    unfold State.grantRule
    rw [hf]
    exact congrArg (s.wakeSource.respond · noGrant) (if_congr beq_iff_eq rfl rfl)
  rw [h]
  exact answersWith_wake

/-- A refusal by the command's own rule, out of SLEEP. -/
theorem State.refuseGrant_answers (hrun : s.rsc.run ≠ .sleep) (st : Status) :
    answersWith [] s (s.refuseGrant f st).settle st [byteOf (s.holderOf f).code, byteOf (s.grt.fns.get f).seq] := by
  have h := answersWith_wake (s := s) (status := st) (data := s.presentGrant f)
  rwa [s.wakeSource_awake hrun] at h

/-! ### A success -/

theorem State.grantTo_fns (r : FnRecord) (st : Status) : (s.grantTo f r st).grt.fns = s.grt.fns.set f r := by
  rw [State.grantTo, State.respond_grt, State.commitGrants_grt]
  rfl

/-- A success leaves the record committed. -/
theorem State.grantTo_record (r : FnRecord) (st : Status) : (s.grantTo f r st).settle.grt.fns.get f = r := by
  rw [State.settle_grt, State.grantTo_fns, PerFn.get_set_same]

/-- A success touches no other record, and of the rest of the table AP_LOST alone (R54). -/
theorem State.grantTo_onlyRecord (r : FnRecord) {st : Status} (hst : st.completes = true) :
    onlyRecord f s (s.grantTo f r st).settle .ok := by
  refine ⟨fun g hg => ?_, ?_⟩
  · rw [State.settle_grt, State.grantTo_fns, PerFn.get_set_other _ _ _ _ hg]
  · rw [State.settle_grt, State.grantTo, State.respond_grt, State.commitGrants_grt, hst]
    rfl

theorem State.grantTo_follows (r : FnRecord) (st : Status) : followsTable s (s.grantTo f r st).settle := by
  refine followsTable_commitGrants (g := s.grt.put f r) (fun b hb => ?_) (State.grantTo_fns r st) rfl
  cases b <;> simp at hb <;> rfl

theorem State.grantTo_frame (r : FnRecord) (st : Status) :
    unchangedBut [.prot, .grt, .drv, .wch, .lgt, .acp, .rsc] s (s.grantTo f r st).settle := by
  refine unchangedBut.settle (l := [.prot, .grt, .drv, .wch, .lgt, .acp, .rsc]) ?_ (List.Subset.refl _) (by simp) (by simp)
  refine (unchangedBut_commitGrants s (s.grt.put f r)).trans fun b hb => ?_
  cases b <;> simp at hb <;> rfl

/-- A success answers with the holder before it and the seq after it, and posts ORDER_DONE for an order it ends (R55). -/
theorem State.grantTo_answersPosted (r : FnRecord) (st : Status) :
    answersPosted s (s.grantTo f r st).settle st [byteOf (s.holderOf f).code, byteOf r.seq] := by
  unfold answersPosted
  rw [State.settle_latches, State.grantTo, State.respond_acp, State.commitGrants_acp]
  rfl

/-- Where AP keeps WINCH, or did not hold it, an answer posts nothing. -/
theorem answers_of_posted {st : Status} {d : List Byte} (h : answersPosted s t st d)
    (hdone : t.acp.orderDone = s.acp.orderDone) : answers s t st d := by
  unfold answersPosted at h
  rw [hdone] at h
  exact h

/-- A success that does not take WINCH from AP answers, and no order ends. -/
theorem State.grantTo_answers {r : FnRecord} (st : Status) (hap : f = .winch → s.holderOf .winch = .ap → r.holder = .ap) :
    answers s (s.grantTo f r st).settle st [byteOf (s.holderOf f).code, byteOf r.seq] ∧
      (s.grantTo f r st).settle.wch.slots = s.wch.slots := by
  obtain ⟨-, -, hwinch, -⟩ := State.grantTo_follows (s := s) (f := f) r st
  have hkept : s.holderOf .winch = .ap → (s.grantTo f r st).settle.holderOf .winch = .ap := by
    intro hs
    rw [State.holderOf, State.settle_grt, State.grantTo_fns]
    by_cases hf : f = .winch
    · subst hf
      rw [PerFn.get_set_same]
      exact hap rfl hs
    · rw [PerFn.get_set_other _ _ _ _ (Ne.symm hf)]
      exact hs
  obtain ⟨hslots, hdone⟩ := hwinch.queue_kept hkept
  exact ⟨answers_of_posted (State.grantTo_answersPosted r st) hdone, hslots⟩

/-! ### What CLAIM asks (R56) -/

/-- The radio stands against a claim: a fresh link whose last decoded value lies outside the band (R52, R56). -/
theorem State.radio_outside_iff :
    (f.proportional && s.grt.link == .fresh && (s.grt.lastDecoded.get f).any (outsideBand s.cfg f)) = true ↔
      f.proportional = true ∧ s.grt.link = .fresh ∧
        ∃ v, s.grt.lastDecoded.get f = some v ∧ s.cfg.neutralBand f < v.natAbs := by
  simp [outsideBand, Option.any_eq_true, and_assoc]

theorem State.claimRefusal_notAllowed (h : s.cfg.allows f .ap = false ∨ s.holderOf f = .pd) :
    s.claimRefusal f = some .notAllowed := by
  unfold State.claimRefusal
  cases hallow : s.cfg.allows f .ap with
  | false => rfl
  | true =>
    have hpd : s.holderOf f = .pd := h.resolve_left (by simp [hallow])
    simp [hpd]

/-- Where AP is allowed and PD does not hold the function, the radio decides a claim. -/
theorem State.claimRefusal_allowed (hallow : s.cfg.allows f .ap = true) (hpd : s.holderOf f ≠ .pd) :
    s.claimRefusal f = if f.proportional && s.grt.link == .fresh &&
      (s.grt.lastDecoded.get f).any (outsideBand s.cfg f) then some .overridden else none := by
  simp [State.claimRefusal, hallow, hpd]

theorem State.claimRefusal_passed (hallow : s.cfg.allows f .ap = true) (hpd : s.holderOf f ≠ .pd)
    (hradio : ¬(f.proportional = true ∧ s.grt.link = .fresh ∧
      ∃ v, s.grt.lastDecoded.get f = some v ∧ s.cfg.neutralBand f < v.natAbs)) : s.claimRefusal f = none := by
  rw [State.claimRefusal_allowed hallow hpd]
  exact if_neg fun h => hradio (State.radio_outside_iff.1 h)

theorem State.claimRefusal_overridden (hallow : s.cfg.allows f .ap = true) (hpd : s.holderOf f ≠ .pd)
    (hradio : f.proportional = true ∧ s.grt.link = .fresh ∧
      ∃ v, s.grt.lastDecoded.get f = some v ∧ s.cfg.neutralBand f < v.natAbs) :
    s.claimRefusal f = some .overridden := by
  rw [State.claimRefusal_allowed hallow hpd]
  exact if_pos (State.radio_outside_iff.2 hradio)

theorem State.claimed_held (h : s.holderOf f = .ap) :
    s.claimed f = { s.grt.fns.get f with lease := some (s.now + s.cfg.apTimeout * msec) } := by
  unfold State.claimed
  exact if_pos (beq_iff_eq.2 h)

theorem State.claimed_taken (h : s.holderOf f ≠ .ap) :
    s.claimed f = (s.grt.fns.get f).moveTo .ap (s.valueOf f) (some (s.now + s.cfg.apTimeout * msec)) := by
  unfold State.claimed
  exact if_neg fun he => h (eq_of_beq he)

theorem State.claimed_holder : (s.claimed f).holder = .ap := by
  by_cases h : s.holderOf f = .ap
  · rw [State.claimed_held h]
    exact h
  · rw [State.claimed_taken h]
    rfl

end Sys2Proof.Machine
end

section
/-! PROOFS. O31, O32 and O33: CLAIM, SET and CLAIM_SET (R55 to R58, R100). -/

namespace Sys2Proof.Machine

variable {s : State} {f : Fn}

/-! ### CLAIM -/

theorem exec_claim (b : Byte) (hopen : s.portOpen) :
    exec (.claim [b]) s = completed (s.wakeSource.grantRule [b] fun f t => t.claim f) := by
  simp only [exec, execClaim]
  exact congrArg completed (s.takeCommand_taken false _ _ (.inl hopen))

theorem exec_claim_awake (hopen : s.portOpen) (hrun : s.rsc.run ≠ .sleep) :
    exec (.claim [byteOf f.code]) s = .next (s.claim f).settle := by
  rw [exec_claim _ hopen, State.grantRule_awake hrun (f.ofId_code _)]
  rfl

/-- A claim that CLAIM's own table refuses (R56). -/
theorem exec_claim_refused (hopen : s.portOpen) (hrun : s.rsc.run ≠ .sleep) {st : Status}
    (h : s.claimRefusal f = some st) : ∃ t, exec (.claim [byteOf f.code]) s = .next t ∧
      answersWith [] s t st [byteOf (s.holderOf f).code, byteOf (s.grt.fns.get f).seq] := by
  have hclaim : s.claim f = s.refuseGrant f st := by
    unfold State.claim
    rw [h]
  exact ⟨_, exec_claim_awake hopen hrun, hclaim ▸ State.refuseGrant_answers hrun st⟩

/-- Settles O31: the claimed record committed where `claimRefusal` finds nothing, its refusals elsewhere. -/
theorem claimTakesTheHolder : Obligations.ClaimTakesTheHolder := by
  intro s f x hopen
  refine ⟨fun hrun hallow hpd hradio => ?_, fun hrun h => ?_, fun hrun hallow hpd hp hfresh hout => ?_, fun hrun => ?_,
    fun hx => ?_⟩
  · have hclaim : s.claim f = s.grantTo f (s.claimed f) .ok := by
      unfold State.claim
      rw [State.claimRefusal_passed hallow hpd hradio]
    have hrecord := State.grantTo_record (s := s) (f := f) (s.claimed f) .ok
    have hfollows := State.grantTo_follows (s := s) (f := f) (s.claimed f) .ok
    obtain ⟨hanswers, hslots⟩ :=
      State.grantTo_answers (s := s) (f := f) (r := s.claimed f) .ok fun _ _ => State.claimed_holder
    refine ⟨_, exec_claim_awake hopen hrun, ?_⟩
    rw [hclaim]
    refine ⟨rfl, ?_, fun hap => ?_, fun hap => ?_, State.grantTo_onlyRecord _ rfl, hfollows, hslots, ?_, ?_,
      State.grantTo_frame _ _⟩
    · rw [hrecord]
      rfl
    · rw [hrecord, State.claimed_held hap]
    · rw [hrecord, State.claimed_taken hap]
      rfl
    · rintro rfl hap
      obtain ⟨-, -, hwinch, -⟩ := hfollows
      have hnew : (s.grantTo .winch (s.claimed .winch) .ok).settle.holderOf .winch = .ap := by
        rw [State.holderOf, hrecord, State.claimed_holder]
      have hne : (s.grantTo .winch (s.claimed .winch) .ok).settle.holderOf .winch ≠ s.holderOf .winch :=
        fun e => hap (e.symm.trans hnew)
      obtain ⟨hduty, hmoving, hpwm⟩ := hwinch.stopped hne hnew
      obtain ⟨hhold, -⟩ := hwinch.directEnded hne
      exact ⟨hduty, hmoving, hpwm, hhold⟩
    · exact hanswers
  · exact exec_claim_refused hopen hrun (State.claimRefusal_notAllowed h)
  · exact exec_claim_refused hopen hrun (State.claimRefusal_overridden hallow hpd ⟨hp, hfresh, hout⟩)
  · exact ⟨_, exec_claim _ hopen, State.grantRule_asleep hrun (f.ofId_code _)⟩
  · exact ⟨_, exec_claim _ hopen, State.grantRule_unknown (Fn.ofId_above hx)⟩

/-! ### SET -/

theorem exec_set (b hi lo q : Byte) (hopen : s.portOpen) :
    exec (.set [b, hi, lo, q]) s =
      completed (s.wakeSource.grantRule [b, hi, lo, q] fun f t => t.setValue f (beInt [hi, lo]) q.toNat) := by
  simp only [exec, execSet]
  exact congrArg completed (s.takeCommand_taken false _ _ (.inl hopen))

theorem exec_set_awake (hi lo q : Byte) (hopen : s.portOpen) (hrun : s.rsc.run ≠ .sleep) :
    exec (.set [byteOf f.code, hi, lo, q]) s = .next (s.setValue f (beInt [hi, lo]) q.toNat).settle := by
  rw [exec_set _ _ _ _ hopen, State.grantRule_awake hrun (f.ofId_code _)]
  rfl

/-- SET's table once the grant it names is the present one (R57). -/
theorem State.setValue_held {v : Int} {q : Nat} (hap : s.holderOf f = .ap) (hq : (s.grt.fns.get f).seq = q) :
    s.setValue f v q =
      if f = .winch then s.refuseGrant f .notAllowed
      else if switchOutside f v then s.refuseGrant f .badValue
      else s.grantTo f { s.grt.fns.get f with value := settable f v, lease := s.leaseEnd } (setStatus f v) := by
  have hholder : (s.grt.fns.get f).holder = .ap := hap
  unfold State.setValue
  simp [hholder, hq]

theorem State.setValue_notHeld {v : Int} {q : Nat} (h : s.holderOf f ≠ .ap ∨ (s.grt.fns.get f).seq ≠ q) :
    s.setValue f v q = s.refuseGrant f .notHolder := by
  unfold State.setValue
  exact if_pos (by simpa [State.holderOf] using h)

theorem switchOutside_proportional {v : Int} (h : f.proportional = true) : switchOutside f v = false := by
  simp [switchOutside, h]

theorem switchOutside_iff {v : Int} (h : f.proportional = false) :
    switchOutside f v = true ↔ v < 0 ∨ f.topCode < v := by
  simp [switchOutside, h]

theorem setStatus_completes (f : Fn) (v : Int) : (setStatus f v).completes = true := by
  unfold setStatus
  split <;> rfl

/-- A value written is answered by the status of R57, and no order ends by it. -/
theorem State.setValue_written {v : Int} {q : Nat} (hap : s.holderOf f = .ap) (hq : (s.grt.fns.get f).seq = q)
    (hf : f ≠ .winch) (hv : switchOutside f v = false) :
    let t := (s.setValue f v q).settle
    t.grt.fns.get f =
        { s.grt.fns.get f with value := settable f v, lease := some (s.now + s.cfg.apTimeout * msec) } ∧
      answers s t (setStatus f v) [byteOf Holder.ap.code, byteOf q] ∧ onlyRecord f s t .ok ∧ followsTable s t ∧
      unchangedBut [.prot, .grt, .drv, .wch, .lgt, .acp, .rsc] s t := by
  rw [State.setValue_held hap hq, if_neg hf, hv, if_neg Bool.false_ne_true]
  obtain ⟨hanswers, -⟩ := State.grantTo_answers (s := s)
    (r := { s.grt.fns.get f with value := settable f v, lease := s.leaseEnd }) (setStatus f v) fun hw => absurd hw hf
  rw [hap] at hanswers
  exact ⟨State.grantTo_record _ _, hq ▸ hanswers, State.grantTo_onlyRecord _ (setStatus_completes f v),
    State.grantTo_follows _ _, State.grantTo_frame _ _⟩

/-- Settles O32: the value written where `setValue` finds the grant and the value in order, its refusals elsewhere. -/
theorem setWritesTheValue : Obligations.SetWritesTheValue := by
  intro s f hi lo q x hopen
  refine ⟨fun hrun hap hq hf => ⟨fun hp => ?_, fun hp hlow hhigh => ?_, fun hp hout => ?_⟩, fun hrun hap hq hf => ?_,
    fun hrun h => ?_, fun hrun => ?_, fun hx => ?_⟩
  · have h := State.setValue_written hap hq hf (switchOutside_proportional (v := beInt [hi, lo]) hp)
    simp only [settable, setStatus, hp, if_true, Bool.true_and, decide_eq_true_eq] at h
    exact ⟨_, exec_set_awake hi lo q hopen hrun, h⟩
  · have hin : switchOutside f (beInt [hi, lo]) = false := by
      rw [Bool.eq_false_iff, Ne, switchOutside_iff hp]
      omega
    have h := State.setValue_written hap hq hf hin
    simp only [settable, setStatus, hp, Bool.false_eq_true, if_false, Bool.false_and] at h
    exact ⟨_, exec_set_awake hi lo q hopen hrun, h⟩
  · have hset : s.setValue f (beInt [hi, lo]) q.toNat = s.refuseGrant f .badValue := by
      rw [State.setValue_held hap hq, if_neg hf, if_pos ((switchOutside_iff hp).2 hout)]
    refine ⟨_, exec_set_awake hi lo q hopen hrun, ?_⟩
    rw [hset, ← hq, ← hap]
    exact State.refuseGrant_answers hrun _
  · have hset : s.setValue f (beInt [hi, lo]) q.toNat = s.refuseGrant f .notAllowed := by
      rw [State.setValue_held hap hq, if_pos hf]
    refine ⟨_, exec_set_awake hi lo q hopen hrun, ?_⟩
    rw [hset, ← hq, ← hap]
    exact State.refuseGrant_answers hrun _
  · exact ⟨_, exec_set_awake hi lo q hopen hrun, State.setValue_notHeld h ▸ State.refuseGrant_answers hrun _⟩
  · exact ⟨_, exec_set _ hi lo q hopen, State.grantRule_asleep hrun (f.ofId_code _)⟩
  · exact ⟨_, exec_set _ hi lo q hopen, State.grantRule_unknown (Fn.ofId_above hx)⟩

/-! ### CLAIM_SET -/

theorem exec_claimSet (b hi lo : Byte) (hopen : s.portOpen) :
    exec (.claimSet [b, hi, lo]) s =
      completed (s.wakeSource.grantRule [b, hi, lo] fun f t => t.claimSet f (beInt [hi, lo])) := by
  simp only [exec, execClaimSet]
  exact congrArg completed (s.takeCommand_taken false _ _ (.inl hopen))

theorem exec_claimSet_awake (hi lo : Byte) (hopen : s.portOpen) (hrun : s.rsc.run ≠ .sleep) :
    exec (.claimSet [byteOf f.code, hi, lo]) s = .next (s.claimSet f (beInt [hi, lo])).settle := by
  rw [exec_claimSet _ _ _ hopen, State.grantRule_awake hrun (f.ofId_code _)]
  rfl

theorem exec_claimSet_refused (hi lo : Byte) (hopen : s.portOpen) (hrun : s.rsc.run ≠ .sleep) {st : Status}
    (h : s.claimSet f (beInt [hi, lo]) = s.refuseGrant f st) :
    ∃ t, exec (.claimSet [byteOf f.code, hi, lo]) s = .next t ∧
      answersWith [] s t st [byteOf (s.holderOf f).code, byteOf (s.grt.fns.get f).seq] :=
  ⟨_, exec_claimSet_awake hi lo hopen hrun, h ▸ State.refuseGrant_answers hrun st⟩

/-- A value in range is no obstacle to CLAIM_SET (R58). -/
theorem switchOutside_inRange {v : Int} (h : f.proportional = true ∨ (0 ≤ v ∧ v ≤ f.topCode)) :
    switchOutside f v = false := by
  cases hp : f.proportional with
  | true => exact switchOutside_proportional hp
  | false =>
    have hin := h.resolve_left (by simp [hp])
    rw [Bool.eq_false_iff, Ne, switchOutside_iff hp]
    omega

theorem switchOutside_of_not_inRange {v : Int} (h : ¬(f.proportional = true ∨ (0 ≤ v ∧ v ≤ f.topCode))) :
    switchOutside f v = true := by
  rw [not_or] at h
  obtain ⟨hp, hout⟩ := h
  rw [switchOutside_iff (by simpa using hp)]
  omega

/-- CLAIM_SET past the checks of WINCH and of the value is refused as a claim is (R58). -/
theorem State.claimSet_of_refusal {v : Int} {st : Status} (hf : f ≠ .winch) (hv : switchOutside f v = false)
    (h : s.claimRefusal f = some st) : s.claimSet f v = s.refuseGrant f st := by
  simp [State.claimSet, hf, hv, h]

/-- CLAIM_SET past all its checks writes the value with the claim (R58). -/
theorem State.claimSet_of_passed {v : Int} (hf : f ≠ .winch) (hv : switchOutside f v = false)
    (h : s.claimRefusal f = none) :
    s.claimSet f v = s.grantTo f { s.claimed f with value := settable f v } (setStatus f v) := by
  simp [State.claimSet, hf, hv, h]

theorem setStatus_eq (f : Fn) (v : Int) :
    setStatus f v = if f.proportional = true ∧ 1000 < v.natAbs then .okClamped else .ok := by
  unfold setStatus
  exact if_congr (by simp) rfl rfl

/-- Settles O33: the claimed record with the value written where both rules find nothing against it, the refusal of the
first check that fails elsewhere. -/
theorem claimSetDoesBoth : Obligations.ClaimSetDoesBoth := by
  intro s f hi lo x hopen inRange outside present written
  refine ⟨fun hrun hf hin hallow hpd hradio => ?_, fun hrun hf => ?_, fun hrun hf hin => ?_, fun hrun hf hin h => ?_,
    fun hrun hf hallow hpd hradio => ?_, fun hrun => ?_, fun hx => ?_⟩
  · have hset : s.claimSet f (beInt [hi, lo]) =
        s.grantTo f { s.claimed f with value := written } (setStatus f (beInt [hi, lo])) :=
      State.claimSet_of_passed hf (switchOutside_inRange hin) (State.claimRefusal_passed hallow hpd hradio)
    have hrecord := State.grantTo_record (s := s) (f := f) { s.claimed f with value := written }
      (setStatus f (beInt [hi, lo]))
    obtain ⟨hanswers, -⟩ := State.grantTo_answers (s := s) (r := { s.claimed f with value := written })
      (setStatus f (beInt [hi, lo])) fun hw => absurd hw hf
    refine ⟨_, exec_claimSet_awake hi lo hopen hrun, ?_⟩
    rw [hset]
    refine ⟨fun hap => ?_, fun hap => ?_, ?_, State.grantTo_onlyRecord _ (setStatus_completes _ _),
      State.grantTo_follows _ _, State.grantTo_frame _ _⟩
    · rw [hrecord, State.claimed_held hap]
    · rw [hrecord, State.claimed_taken hap]
      rfl
    · rw [hrecord, ← setStatus_eq]
      exact hanswers
  · exact exec_claimSet_refused hi lo hopen hrun (if_pos (beq_iff_eq.2 hf))
  · refine exec_claimSet_refused hi lo hopen hrun ?_
    unfold State.claimSet
    rw [if_neg (by simpa using hf), if_pos (switchOutside_of_not_inRange hin)]
  · exact exec_claimSet_refused hi lo hopen hrun
      (State.claimSet_of_refusal hf (switchOutside_inRange hin) (State.claimRefusal_notAllowed h))
  · obtain ⟨hp, hband⟩ := hradio
    exact exec_claimSet_refused hi lo hopen hrun
      (State.claimSet_of_refusal hf (switchOutside_proportional hp) (State.claimRefusal_overridden hallow hpd ⟨hp, hband⟩))
  · exact ⟨_, exec_claimSet _ hi lo hopen, State.grantRule_asleep hrun (f.ofId_code _)⟩
  · exact ⟨_, exec_claimSet _ hi lo hopen, State.grantRule_unknown (Fn.ofId_above hx)⟩

end Sys2Proof.Machine
end

section
/-! PROOFS. O34 and O35: RELEASE and REFRESH (R55, R59, R60, R100, R106, R113). -/

namespace Sys2Proof.Machine

variable {s t : State} {f : Fn}

/-! ### RELEASE -/

theorem exec_release (b : Byte) (hopen : s.portOpen) :
    exec (.release [b]) s = completed (s.wakeSource.grantRule [b] fun f t => t.releaseFn f) := by
  simp only [exec, execRelease]
  exact congrArg completed (s.takeCommand_taken false _ _ (.inl hopen))

theorem exec_release_awake (hopen : s.portOpen) (hrun : s.rsc.run ≠ .sleep) :
    exec (.release [byteOf f.code]) s = .next (s.releaseFn f).settle := by
  rw [exec_release _ hopen, State.grantRule_awake hrun (f.ofId_code _)]
  rfl

/-- The passage to FS is the one of R48. -/
theorem FnRecord.passedToFs_toFs (c : Settings) (f : Fn) (r : FnRecord) (keep : Bool) :
    passedToFs c f (if keep then r.value else 0) r (r.toFs c f keep) := by
  simp [passedToFs, FnRecord.toFs]

/-- A record given up goes back to DL where the radio has a value for it (R59, R62). -/
theorem Grt.givenUp_back {g : Grt} {c : Settings} {v : Int} (hd : c.defaultHolder f = some .dl) (hfresh : g.link = .fresh)
    (hv : g.lastDecoded.get f = some v) : g.givenUp c f = (g.fns.get f).moveTo .dl v none := by
  simp [Grt.givenUp, hd, hfresh, hv]

/-- Elsewhere it passes to FS (R59, R62). -/
theorem Grt.givenUp_failsafe {g : Grt} {c : Settings}
    (h : ¬(c.defaultHolder f = some .dl ∧ g.link = .fresh ∧ g.lastDecoded.get f ≠ none)) :
    g.givenUp c f = (g.fns.get f).toFs c f false := by
  unfold Grt.givenUp
  cases hv : g.lastDecoded.get f with
  | none => rfl
  | some v =>
    refine if_neg fun hback => h ?_
    obtain ⟨hdl, hfresh⟩ : c.defaultHolder f = some .dl ∧ g.link = .fresh := by simpa using hback
    exact ⟨hdl, hfresh, by simp [hv]⟩

theorem Grt.givenUp_not_ap (g : Grt) (c : Settings) (f : Fn) : (g.givenUp c f).holder ≠ .ap := by
  obtain ⟨v, e, -⟩ | e := g.givenUp_cases c f <;> rw [e] <;> exact nofun

/-- A success that takes WINCH from AP ends the direct stall and preempts (R100, R113). -/
theorem State.grantTo_winch_lost {r : FnRecord} (st : Status) (hap : s.holderOf .winch = .ap) (hr : r.holder ≠ .ap) :
    (s.grantTo .winch r st).settle.wch.directEnded ∧ (s.queueOk → preempted s (s.grantTo .winch r st).settle) := by
  obtain ⟨-, -, hwinch, -⟩ := State.grantTo_follows (s := s) (f := .winch) r st
  have hne : (s.grantTo .winch r st).settle.holderOf .winch ≠ s.holderOf .winch := by
    rw [State.holderOf, State.grantTo_record, hap]
    exact hr
  exact ⟨hwinch.directEnded hne, hwinch.preempted hne hap⟩

/-- Settles O34: the record given up committed where AP holds the function, a refusal elsewhere. -/
theorem releaseGivesUp : Obligations.ReleaseGivesUp := by
  intro s f x hopen
  refine ⟨fun hrun hap => ?_, fun hrun hap => ?_, fun hrun => ?_, fun hx => ?_⟩
  · have hrelease : s.releaseFn f = s.grantTo f (s.grt.givenUp s.cfg f) .ok := by
      unfold State.releaseFn
      exact if_neg (by simpa using hap)
    have hrecord := State.grantTo_record (s := s) (f := f) (s.grt.givenUp s.cfg f) .ok
    have hposted := State.grantTo_answersPosted (s := s) (f := f) (s.grt.givenUp s.cfg f) .ok
    rw [hap] at hposted
    refine ⟨_, exec_release_awake hopen hrun, ?_⟩
    rw [hrelease]
    refine ⟨?_, fun v hd hfresh hv => ?_, fun hnot => ?_, State.grantTo_onlyRecord _ rfl, State.grantTo_follows _ _, ?_,
      State.grantTo_frame _ _⟩
    · rw [hrecord]
      exact hposted
    · rw [hrecord, Grt.givenUp_back hd hfresh hv]
      rfl
    · rw [hrecord, Grt.givenUp_failsafe hnot]
      exact FnRecord.passedToFs_toFs _ _ _ false
    · rintro rfl
      exact State.grantTo_winch_lost .ok hap (s.grt.givenUp_not_ap s.cfg .winch)
  · have hrelease : s.releaseFn f = s.refuseGrant f .notHolder := by
      unfold State.releaseFn
      exact if_pos (by simpa using hap)
    exact ⟨_, exec_release_awake hopen hrun, hrelease ▸ State.refuseGrant_answers hrun _⟩
  · exact ⟨_, exec_release _ hopen, State.grantRule_asleep hrun (f.ofId_code _)⟩
  · exact ⟨_, exec_release _ hopen, State.grantRule_unknown (Fn.ofId_above hx)⟩

/-! ### REFRESH -/

theorem exec_refresh (hopen : s.portOpen) : exec (.refresh []) s = completed s.wakeSource.refresh := by
  simp only [exec, execRefresh]
  exact congrArg completed (s.takeCommand_taken false noData _ (.inl hopen))

/-- A REFRESH out of SLEEP: every lease AP holds restarted, the ids answered (R60). -/
theorem State.refresh_awake (hrun : s.rsc.run ≠ .sleep) :
    s.wakeSource.refresh = (s.withGrt s.refreshed).respond .ok (idList 7 (s.grt.apHeld.map Fn.code)) := by
  rw [s.wakeSource_awake hrun]
  unfold State.refresh
  exact if_neg (by simpa using hrun)

theorem State.refreshed_get (s : State) (f : Fn) :
    s.refreshed.fns.get f =
      if s.holderOf f == .ap then { s.grt.fns.get f with lease := s.leaseEnd } else s.grt.fns.get f :=
  PerFn.get_build _ f

/-- Of a run-state controller that a command has left, the end of the command judges the idle timer (R161). -/
theorem rscIdle_settle {u : State} (h : u.rsc = s.rsc) : rscIdle s u.settle := by
  rw [rscIdle, State.settle_rsc, h, State.idleAfter_eq_idleUntil (s := s) (by rw [h])]

/-- Settles O35: the leases of `refreshed`, or the refusal in SLEEP. -/
theorem refreshRestartsLeases : Obligations.RefreshRestartsLeases := by
  intro s hopen
  constructor
  · intro hrun
    refine ⟨_, exec_refresh hopen, ?_⟩
    rw [State.refresh_awake hrun]
    refine ⟨fun f hap => ?_, fun f hap => ?_, ?_, rfl, rscIdle_settle rfl, fun b hb => ?_⟩
    · exact (s.refreshed_get f).trans (if_pos (beq_iff_eq.2 hap))
    · exact (s.refreshed_get f).trans (if_neg (by simpa using hap))
    · rw [State.settle_grt, State.respond_grt]
      simp [State.refreshed, Status.completes]
    · cases b <;> simp at hb <;> simp [State.agree]
  · intro hrun
    have hrefused : s.wakeSource.refresh = s.wakeSource.respond .refusedState [] := by
      unfold State.refresh
      exact if_pos (beq_iff_eq.2 hrun)
    exact ⟨_, exec_refresh hopen, hrefused ▸ answersWith_wake⟩

end Sys2Proof.Machine
end

section
/-! PROOFS. O40: the expiry of the radio's freshness and of an accessory lease (R46, R49, R50, R54, R100, R106, R113). -/

namespace Sys2Proof.Machine

variable {s : State} {f : Fn} {due : Nat}

/-! ### A new grant table at the moment of an expiry -/

/-- The state after a new grant table at the moment of an expiry due at a time. -/
def State.expired (s : State) (due : Nat) (g : Grt) : State := ((s.reach due).commitGrants g).settle

theorem State.expired_now (g : Grt) : (s.expired due g).now = max s.now due := by
  simp [State.expired]

theorem State.expired_grt (g : Grt) : (s.expired due g).grt = g := by
  simp [State.expired]

theorem State.expired_holderOf (g : Grt) (f : Fn) : (s.expired due g).holderOf f = (g.fns.get f).holder := by
  rw [State.holderOf, State.expired_grt]

theorem State.expired_follows (g : Grt) : followsTable s (s.expired due g) := by
  refine followsTable.of_moved (v := s.reach due) rfl rfl rfl rfl rfl rfl rfl
    (followsTable_commitGrants (g := g) (fun b _ => ?_) ?_ rfl)
  · cases b <;> rfl
  · rw [State.commitGrants_grt]

theorem State.expired_posted (g : Grt) : acpPosted s (s.expired due g) := by
  unfold acpPosted State.expired
  rw [State.settle_latches, State.commitGrants_acp]
  rfl

theorem State.expired_frame (g : Grt) :
    unchangedBut [.now, .prot, .grt, .drv, .wch, .lgt, .acp, .rsc] s (s.expired due g) := by
  have h := (unchangedBut_commitGrants (s.reach due) g)
  refine unchangedBut.settle (l := [.now, .prot, .grt, .drv, .wch, .lgt, .acp, .rsc]) (fun b hb => ?_)
    (List.Subset.refl _) (by simp) (by simp)
  have hm := h b fun hmem => hb (List.mem_cons_of_mem _ hmem)
  cases b <;> simp at hb <;> exact hm

/-- A fault active at the end of an expiry is latched (R151). -/
theorem State.expired_latches {g : Grt} {e : FaultEntry} (h : (s.expired due g).faultActive e = true) :
    (s.expired due g).faultLatched e = true := by
  unfold State.expired at *
  rw [State.settle_faultActive] at h
  rw [State.settle_faultLatched, h, Bool.or_true]

/-- Where AP does not lose WINCH at an expiry no order ends, so ORDER_DONE is not posted. -/
theorem State.expired_settled {g : Grt} (hap : s.holderOf .winch = .ap → (g.fns.get .winch).holder = .ap) :
    acpSettled s (s.expired due g) ∧ (s.expired due g).wch.slots = s.wch.slots := by
  obtain ⟨-, -, hwinch, -⟩ := s.expired_follows (due := due) g
  obtain ⟨hslots, hdone⟩ := hwinch.queue_kept fun h => (State.expired_holderOf g .winch).trans (hap h)
  have hposted := s.expired_posted (due := due) g
  unfold acpPosted at hposted
  rw [hdone] at hposted
  exact ⟨hposted, hslots⟩

/-! ### The two expiries -/

theorem exec_dlFreshnessExpiry (h : s.grt.freshEnd = some due) :
    exec .dlFreshnessExpiry s = .next (s.expired due (s.grt.freshnessExpired s.cfg)) := by
  simp only [exec, execDlFreshnessExpiry, h]
  rfl

/-- The table at the expiry of the lease of a function (R54). -/
def Grt.leaseExpired (g : Grt) (c : Settings) (f : Fn) : Grt :=
  { g.put f ((g.fns.get f).toFs c f (c.holds f)) with apLost := true }

theorem exec_apLeaseExpiry (h : (s.grt.fns.get f).lease = some due) :
    exec (.apLeaseExpiry f) s = .next (s.expired due (s.grt.leaseExpired s.cfg f)) := by
  simp only [exec, execApLeaseExpiry, h]
  rfl

theorem Grt.freshnessExpired_get (g : Grt) (c : Settings) (f : Fn) :
    (g.freshnessExpired c).fns.get f =
      if (g.fns.get f).holder == .dl then (g.fns.get f).toFs c f (c.holds f) else g.fns.get f :=
  PerFn.get_build _ f

theorem Grt.freshnessExpired_taken {g : Grt} (c : Settings) (h : (g.fns.get f).holder = .dl) :
    (g.freshnessExpired c).fns.get f = (g.fns.get f).toFs c f (c.holds f) :=
  (g.freshnessExpired_get c f).trans (if_pos (beq_iff_eq.2 h))

theorem Grt.freshnessExpired_left {g : Grt} (c : Settings) (h : (g.fns.get f).holder ≠ .dl) :
    (g.freshnessExpired c).fns.get f = g.fns.get f :=
  (g.freshnessExpired_get c f).trans (if_neg (by simpa using h))

theorem Grt.leaseExpired_same (g : Grt) (c : Settings) (f : Fn) :
    (g.leaseExpired c f).fns.get f = (g.fns.get f).toFs c f (c.holds f) := PerFn.get_set_same _ _ _

theorem Grt.leaseExpired_other {g : Grt} (c : Settings) {k : Fn} (h : k ≠ f) :
    (g.leaseExpired c f).fns.get k = g.fns.get k := PerFn.get_set_other _ _ _ _ h

/-- Settles O40: both expiries commit a table whose records pass to FS by the failsafe action of R46. -/
theorem freshnessAndLeaseExpire : Obligations.FreshnessAndLeaseExpire := by
  intro s f due
  constructor
  · intro hdue
    have hfollows := s.expired_follows (due := due) (s.grt.freshnessExpired s.cfg)
    obtain ⟨-, -, hwinch, -⟩ := id hfollows
    obtain ⟨hsettled, hslots⟩ := s.expired_settled (due := due) (g := s.grt.freshnessExpired s.cfg) fun hap => by
      rw [Grt.freshnessExpired_left s.cfg (fun hdl => nomatch hap.symm.trans hdl)]
      exact hap
    refine ⟨_, exec_dlFreshnessExpiry hdue, State.expired_now _, ?_, fun hdl => ?_, fun hdl => ?_,
      State.expired_latches ?_, hsettled, hfollows, fun hdl => hwinch.directEnded ?_, hslots, State.expired_frame _⟩
    · rw [State.expired_grt]
      rfl
    · rw [State.expired_grt, Grt.freshnessExpired_taken s.cfg hdl]
      exact FnRecord.passedToFs_toFs _ _ _ _
    · rw [State.expired_grt, Grt.freshnessExpired_left s.cfg hdl]
    · rw [State.faultActive, State.expired_grt]
      rfl
    · rw [State.expired_holderOf, Grt.freshnessExpired_taken s.cfg hdl, hdl]
      exact nofun
  · intro hdue hap
    have hfollows := s.expired_follows (due := due) (s.grt.leaseExpired s.cfg f)
    obtain ⟨-, -, hwinch, -⟩ := id hfollows
    refine ⟨_, exec_apLeaseExpiry hdue, State.expired_now _, ?_, fun g hg => ?_, ?_, State.expired_latches ?_,
      State.expired_posted _, hfollows, ?_, State.expired_frame _⟩
    · rw [State.expired_grt, Grt.leaseExpired_same]
      exact FnRecord.passedToFs_toFs _ _ _ _
    · rw [State.expired_grt, Grt.leaseExpired_other s.cfg hg]
    · rw [State.expired_grt]
      rfl
    · rw [State.faultActive, State.expired_grt]
      rfl
    · rintro rfl
      have hne : (s.expired due (s.grt.leaseExpired s.cfg .winch)).holderOf .winch ≠ s.holderOf .winch := by
        rw [State.expired_holderOf, Grt.leaseExpired_same, hap]
        exact nofun
      exact ⟨hwinch.directEnded hne, hwinch.preempted hne hap⟩

end Sys2Proof.Machine
end

section
/-! PROOFS. What the conditions on outputs and duties read of a state, its motion, and the two relations the operations of
a stop meet: what is driven is left as it is or stopped. -/

namespace Sys2Proof.Machine

/-- What the outputs, the duties and the interlock are judged on, beside the standing: the drive controller, the winch
motor (R97, R98), and what the lines of servos and lights carry (R81, R133). -/
structure Motion where
  drv : Drv
  duty : Int
  moving : Bool
  winchPwm : Nat
  speedCap : Nat
  servo : Servo → Option Int
  lamp : Lamp → Nat

/-- The motion of a state. -/
def State.motion (s : State) : Motion :=
  { drv := s.drv, duty := s.wch.duty, moving := s.wch.moving, winchPwm := s.wch.pwm, speedCap := s.wch.speedCap
    servo := fun v => (s.str.servo.get v).line, lamp := fun l => (s.lgt.lamp.get l).line }

namespace Motion

/-- From `a` to `b` each duty is left or becomes 0, the caps stand, and the interlock follows the winch (R70, R71,
R97). -/
structure calms (a b : Motion) : Prop where
  applied : b.drv.applied = a.drv.applied ∨ b.drv.applied = 0
  cap : b.drv.cap = a.drv.cap
  budgetCap : b.drv.budgetCap = a.drv.budgetCap
  thermalCap : b.drv.thermalCap = a.drv.thermalCap
  interlockCap : b.drv.interlockCap = a.drv.interlockCap
  speedCap : b.speedCap = a.speedCap
  winch : (b.duty = a.duty ∧ b.moving = a.moving) ∨ (b.duty = 0 ∧ b.moving = false)
  interlock : a.drv.interlock = a.moving → b.drv.interlock = b.moving

/-- Besides, each line carries what it carried or nothing (R73, R81, R98, R133). -/
structure eases (a b : Motion) : Prop where
  calm : a.calms b
  pwm : b.drv.pwm = a.drv.pwm ∨ b.drv.pwm = 0
  brk : (b.drv.brk = a.drv.brk ∧ b.drv.dragBrake = a.drv.dragBrake) ∨ b.drv.brk = none
  winchPwm : b.winchPwm = a.winchPwm ∨ b.winchPwm = 0
  servo : ∀ v, b.servo v = a.servo v ∨ b.servo v = none
  lamp : ∀ l, b.lamp l = a.lamp l ∨ b.lamp l = 0

/-- No line carries anything. -/
structure dark (a : Motion) : Prop where
  pwm : a.drv.pwm = 0
  brk : a.drv.brk = none
  winchPwm : a.winchPwm = 0
  servo : ∀ v, a.servo v = none
  lamp : ∀ l, a.lamp l = 0

variable {a b c : Motion}

/-- What is left or let go of, and then left or let go of again, is left or let go of. -/
theorem left_trans {α : Type} {x y z off : α} (h : y = x ∨ y = off) (h' : z = y ∨ z = off) : z = x ∨ z = off := by
  rcases h' with rfl | h'
  · exact h
  · exact .inr h'

theorem calms.rfl : a.calms a where
  applied := .inl (.refl _)
  cap := .refl _
  budgetCap := .refl _
  thermalCap := .refl _
  interlockCap := .refl _
  speedCap := .refl _
  winch := .inl ⟨.refl _, .refl _⟩
  interlock := id

theorem calms.trans (h : a.calms b) (h' : b.calms c) : a.calms c where
  applied := left_trans h.applied h'.applied
  cap := h'.cap.trans h.cap
  budgetCap := h'.budgetCap.trans h.budgetCap
  thermalCap := h'.thermalCap.trans h.thermalCap
  interlockCap := h'.interlockCap.trans h.interlockCap
  speedCap := h'.speedCap.trans h.speedCap
  winch := by
    rcases h'.winch with ⟨hduty, hmoving⟩ | hstopped
    · rw [hduty, hmoving]
      exact h.winch
    · exact .inr hstopped
  interlock := fun hi => h'.interlock (h.interlock hi)

theorem eases.rfl : a.eases a where
  calm := .rfl
  pwm := .inl (.refl _)
  brk := .inl ⟨.refl _, .refl _⟩
  winchPwm := .inl (.refl _)
  servo := fun _ => .inl (.refl _)
  lamp := fun _ => .inl (.refl _)

theorem eases.trans (h : a.eases b) (h' : b.eases c) : a.eases c where
  calm := h.calm.trans h'.calm
  pwm := left_trans h.pwm h'.pwm
  brk := by
    rcases h'.brk with ⟨hbrk, hdrag⟩ | hnone
    · rw [hbrk, hdrag]
      exact h.brk
    · exact .inr hnone
  winchPwm := left_trans h.winchPwm h'.winchPwm
  servo := fun v => left_trans (h.servo v) (h'.servo v)
  lamp := fun l => left_trans (h.lamp l) (h'.lamp l)

/-- Where no line carries anything, nothing that eases makes one carry. -/
theorem dark.eased (hd : a.dark) (h : a.eases b) : b.dark where
  pwm := h.pwm.elim (·.trans hd.pwm) id
  brk := h.brk.elim (fun e => e.1.trans hd.brk) id
  winchPwm := h.winchPwm.elim (·.trans hd.winchPwm) id
  servo := fun v => (h.servo v).elim (·.trans (hd.servo v)) id
  lamp := fun l => (h.lamp l).elim (·.trans (hd.lamp l)) id

end Motion

section
variable (s : State)

/-! ### Operations that stop the winch (R71, R97) -/

/-- A winch duty of 0 stops the motor and lets the interlock go (R71, R97, R98). -/
theorem State.setWinchDuty_eases : s.motion.eases (s.setWinchDuty 0).motion := by
  have hdrv : (s.setWinchDuty 0).motion.drv = { s.drv with interlock := s.drv.interlock && !s.wch.moving } :=
    s.setWinchDuty_zero_drv
  refine ⟨⟨.inl ?_, ?_, ?_, ?_, ?_, rfl, .inr ⟨rfl, rfl⟩, ?interlock⟩, .inl ?_, .inl ⟨?_, ?_⟩,
    .inr s.setWinchDuty_zero_pwm, fun _ => .inl rfl, fun _ => .inl rfl⟩
  case interlock =>
    intro hi
    have hi' : s.drv.interlock = s.wch.moving := hi
    rw [hdrv, hi']
    exact Bool.and_not_self _
  all_goals exact (congrArg _ hdrv).trans rfl

theorem State.raiseResult_motion (r : OrderResult) : (s.raiseResult r).motion = s.motion := by
  cases r <;> rfl

theorem State.endOrder_eases (i : Fin 4) (o : Order) (r : OrderResult) : s.motion.eases (s.endOrder i o r).motion := by
  unfold State.endOrder
  dsimp only
  rw [State.raiseResult_motion]
  split
  · exact Motion.eases.trans .rfl (State.setWinchDuty_eases (s.withWch _))
  · exact .rfl

theorem State.endActive_eases (r : OrderResult) : s.motion.eases (s.endActive r).motion := by
  unfold State.endActive
  split
  · exact s.endOrder_eases _ _ _
  · exact .rfl

theorem State.preempt_eases : s.motion.eases s.preempt.motion := s.endActive_eases _

theorem State.winchStopped_eases : s.motion.eases s.winchStopped.motion :=
  s.preempt_eases.trans (State.setWinchDuty_eases _)

theorem State.winchHandover_eases (old new : Holder) : s.motion.eases (s.winchHandover old new).motion := by
  have hleft : s.motion.eases
      (if old == .ap then (s.withWch s.wch.clearDirect).preempt else s.withWch s.wch.clearDirect).motion := by
    split
    · exact Motion.eases.trans .rfl (State.preempt_eases (s.withWch s.wch.clearDirect))
    · exact .rfl
  unfold State.winchHandover
  split
  · exact .rfl
  dsimp only
  split
  · exact hleft.trans (State.setWinchDuty_eases _)
  · exact hleft

theorem State.commitGrants_eases (g : Grt) : s.motion.eases (s.commitGrants g).motion := by
  unfold State.commitGrants
  refine Motion.eases.trans ?_ (State.winchHandover_eases _ _ _)
  exact .rfl

/-! ### A replaced working copy -/

/-- A working copy replaced, before the functions are re-examined and an order is preempted (R90, R94). -/
def State.reconfigured (c : Settings) : State :=
  ((s.withRsc { s.rsc with work := c }).withStr (s.str.rebound s.cfg c)).withWch
    { s.wch with referenced := s.wch.referenced && s.cfg.pulsesPerTurn == c.pulsesPerTurn }

/-- A change of bounds makes the pulse aimed at absent, and leaves the line to the next frame (R90). -/
theorem State.reconfigured_eases (c : Settings) : s.motion.eases (s.reconfigured c).motion :=
  ⟨⟨.inl rfl, rfl, rfl, rfl, rfl, rfl, .inl ⟨rfl, rfl⟩, id⟩, .inl rfl, .inl ⟨rfl, rfl⟩, .inl rfl,
    fun v => .inl (by simp [State.motion, State.reconfigured, Str.rebound]), fun _ => .inl rfl⟩

theorem State.applySettings_eases (c : Settings) : s.motion.eases (s.applySettings c).motion := by
  have h : s.motion.eases
      (if s.cfg.winchEn && !c.winchEn then (s.reconfigured c).preempt else s.reconfigured c).motion := by
    split
    · exact (s.reconfigured_eases c).trans (State.preempt_eases _)
    · exact s.reconfigured_eases c
  exact h.trans (State.commitGrants_eases _ _)

/-! ### The switch and the bench (R78, R89, R133, R171) -/

theorem Str.released_line (x : Str) (v : Servo) : (x.released.servo.get v).line = none := by simp [Str.released]

theorem Lgt.dark_line (x : Lgt) (l : Lamp) : (x.dark.lamp.get l).line = 0 := by simp [Lgt.dark]

/-- The drive stopped at once, whatever becomes of its gear, while servos and lights are left or let go of. -/
theorem State.eases_of_stopped {t : State} {gear : Gear} (hdrv : t.drv = { s.drv.stopped false none with gear := gear })
    (hservo : ∀ v, (t.str.servo.get v).line = (s.str.servo.get v).line ∨ (t.str.servo.get v).line = none)
    (hlamp : ∀ l, (t.lgt.lamp.get l).line = (s.lgt.lamp.get l).line ∨ (t.lgt.lamp.get l).line = 0)
    (hwinch : t.wch.duty = s.wch.duty ∧ t.wch.moving = s.wch.moving) (hpwm : t.wch.pwm = s.wch.pwm)
    (hspeed : t.wch.speedCap = s.wch.speedCap) : s.motion.eases t.motion := by
  have hdrv' : t.motion.drv = { s.drv.stopped false none with gear := gear } := hdrv
  refine ⟨⟨.inr ?_, ?_, ?_, ?_, ?_, hspeed, .inl hwinch, fun hi => ?interlock⟩, .inr ?_, .inr ?_, .inl hpwm, hservo,
    hlamp⟩
  case interlock =>
    rw [hdrv']
    exact hi.trans hwinch.2.symm
  all_goals exact (congrArg _ hdrv').trans rfl

theorem State.leaveClosed_eases : s.motion.eases s.leaveClosed.motion := by
  unfold State.leaveClosed
  refine Motion.eases.trans ?_ (State.setWinchDuty_eases _)
  exact s.eases_of_stopped (gear := s.drv.gear) rfl (fun v => .inr (s.str.released_line v))
    (fun l => .inr (s.lgt.dark_line l)) ⟨rfl, rfl⟩ rfl rfl

theorem State.openSwitch_eases : s.motion.eases s.openSwitch.motion := by
  unfold State.openSwitch
  split
  · exact s.leaveClosed_eases
  · exact .rfl
  · exact .rfl

/-- A closed switch that has opened leaves nothing driven (R20, R78, R89, R99, R133). -/
theorem State.openSwitch_dark (h : s.prot.sw = .closed) : s.openSwitch.motion.dark := by
  obtain ⟨-, hpwm, hbrk, hservo, hlamp⟩ := s.openSwitch_consumersOff h
  obtain ⟨-, -, -, -, -, hwinch, -⟩ := s.leaveClosed_spec
  exact ⟨hpwm, hbrk, by rw [← s.openSwitch_closed h] at hwinch; exact hwinch, hservo, hlamp⟩

theorem State.leaveDry_eases (sv : BenchSave) : s.motion.eases (s.leaveDry sv).motion := by
  unfold State.leaveDry
  refine Motion.eases.trans ?_ (State.setWinchDuty_eases _)
  exact s.eases_of_stopped (gear := sv.gear) rfl (fun v => .inr (s.str.released_line v))
    (fun l => .inr (s.lgt.dark_line l)) ⟨rfl, rfl⟩ rfl rfl

theorem State.leaveBench_eases (b : Bool) : s.motion.eases (s.leaveBench b).motion := by
  unfold State.leaveBench
  split
  · exact .rfl
  next sv _ =>
    split
    · exact Motion.eases.trans .rfl ((s.restoreSave sv b).leaveDry_eases sv)
    · exact .rfl

theorem State.haltBase_eases (b : Bool) : s.motion.eases (s.haltBase b).motion :=
  (s.leaveBench_eases b).trans (State.openSwitch_eases _)

theorem State.haltWith_eases (b : Bool) : s.motion.eases (s.haltWith b).motion :=
  (s.haltBase_eases b).trans (State.commitGrants_eases (s.haltBase b) _)

theorem State.haltWith_dark (b : Bool) (h : s.prot.sw = .closed) : (s.haltWith b).motion.dark :=
  ((s.leaveBench b).openSwitch_dark ((s.leaveBench_sw b).trans h)).eased (State.commitGrants_eases (s.haltBase b) _)

theorem State.enterSleep_eases (o : SleepOrigin) : s.motion.eases (s.enterSleep o).motion :=
  s.openSwitch_eases.trans (State.commitGrants_eases s.openSwitch _)

theorem State.enterSleep_dark (o : SleepOrigin) (h : s.prot.sw = .closed) : (s.enterSleep o).motion.dark :=
  (s.openSwitch_dark h).eased (State.commitGrants_eases s.openSwitch _)

theorem State.lockoutBegun_eases : s.motion.eases s.lockoutBegun.motion :=
  Motion.eases.trans .rfl (State.winchStopped_eases (s.withProt s.prot.locked))

theorem State.enterLockout_eases : s.motion.eases s.enterLockout.motion := by
  have hbegun := s.lockoutBegun_eases
  rw [State.enterLockout_eq]
  split
  next =>
    exact hbegun.trans (s.lockoutBegun.eases_of_stopped (gear := s.lockoutBegun.drv.gear) rfl (fun _ => .inl rfl)
      (fun _ => .inl rfl) ⟨rfl, rfl⟩ rfl rfl)
  next => exact hbegun.trans (State.haltWith_eases _ _)
  next => exact hbegun.trans (State.haltWith_eases _ _)
  next => exact hbegun.trans (State.haltWith_eases _ _)
  next => exact hbegun.trans (State.openSwitch_eases s.lockoutBegun)

end
end Sys2Proof.Machine
end

section
/-! PROOFS. The stop events and the operations that move the switch, the protection state or the run state: each stops
what its new standing does not let be driven (R73, R98, R133). -/

namespace Sys2Proof.Machine

/-- Whatever may be driven in the standing `a` may be driven in `b` (R73, R98, R133). -/
structure Standing.admits (a b : Standing) : Prop where
  drives : a.run = .running ∧ (a.st = .normal ∨ a.st = .warn) ∧ a.sw = .closed →
    b.run = .running ∧ (b.st = .normal ∨ b.st = .warn) ∧ b.sw = .closed
  brakes : (a.run = .running ∨ a.run = .arming) ∧ a.st ≠ .lockout ∧ a.sw = .closed →
    (b.run = .running ∨ b.run = .arming) ∧ b.st ≠ .lockout ∧ b.sw = .closed
  closed : a.sw = .closed → b.sw = .closed

namespace Standing

variable {a b : Standing}

theorem admits_of_eq (hst : b.st = a.st) (hsw : b.sw = a.sw) (hrun : b.run = a.run) : a.admits b := by
  constructor <;> rw [hsw] <;> simp only [hst, hrun, imp_self]

/-- With the switch not CLOSED nothing may be driven. -/
theorem admits_of_not_closed (h : a.sw ≠ .closed) : a.admits b :=
  ⟨fun ha => absurd ha.2.2 h, fun ha => absurd ha.2.2 h, fun ha => absurd ha h⟩

/-- Outside RUNNING and ARMING only what the switch alone allows is driven. -/
theorem admits_of_stopped (h : a.run ≠ .running) (h' : a.run ≠ .arming) (hsw : b.sw = a.sw) : a.admits b :=
  ⟨fun ha => absurd ha.1 h, fun ha => absurd ha.1 (not_or_intro h h'), fun ha => hsw.trans ha⟩

/-- A move to NORMAL or WARN, or to RUNNING, takes nothing away. -/
theorem admits_of_mild (hst : b.st = .normal ∨ b.st = .warn) (hsw : b.sw = a.sw) (hrun : b.run = a.run) :
    a.admits b := by
  constructor <;> rw [hsw]
  · rw [hrun]
    exact fun ha => ⟨ha.1, hst, ha.2.2⟩
  · rw [hrun]
    exact fun ha => ⟨ha.1, by rcases hst with e | e <;> rw [e] <;> exact nofun, ha.2.2⟩
  · exact id

theorem admits_of_running (hst : b.st = a.st) (hsw : b.sw = a.sw) (hrun : b.run = .running) : a.admits b := by
  constructor <;> rw [hsw]
  · exact fun ha => ⟨hrun, hst ▸ ha.2.1, ha.2.2⟩
  · exact fun ha => ⟨.inl hrun, hst ▸ ha.2.1, ha.2.2⟩
  · exact id

end Standing

variable {s t u : State}

/-! ### States that keep the outputs -/

theorem State.outputsOk_of_dark (h : t.motion.dark) : t.outputsOk :=
  ⟨fun hne => absurd h.pwm hne, fun hne => absurd h.winchPwm hne, fun hne => absurd h.brk hne,
    fun v hne => absurd (h.servo v) hne, fun l hne => absurd (h.lamp l) hne⟩

/-- What is left driven may still be driven. -/
theorem State.outputsOk.eased (hok : s.outputsOk) (h : s.motion.eases t.motion) (ha : s.standing.admits t.standing) :
    t.outputsOk := by
  obtain ⟨hpwm, hwinch, hbrk, hservo, hlamp⟩ := hok
  refine ⟨fun hne => ?_, fun hne => ?_, fun hne => ?_, fun v hne => ?_, fun l hne => ?_⟩
  · rcases h.pwm with e | e
    · exact ha.drives (hpwm fun h0 => hne (e.trans h0))
    · exact absurd e hne
  · rcases h.winchPwm with e | e
    · exact ha.drives (hwinch fun h0 => hne (e.trans h0))
    · exact absurd e hne
  · rcases h.brk with ⟨e, hdrag⟩ | e
    · obtain ⟨⟨hrun, hst, hsw, hd⟩, happlied, hp⟩ := hbrk fun h0 => hne (e.trans h0)
      obtain ⟨hrun', hst', hsw'⟩ := ha.brakes ⟨hrun, hst, hsw⟩
      exact ⟨⟨hrun', hst', hsw', hdrag.trans hd⟩, h.calm.applied.elim (·.trans happlied) id,
        h.pwm.elim (·.trans hp) id⟩
    · exact absurd e hne
  · rcases h.servo v with e | e
    · exact ha.closed (hservo v fun h0 => hne (e.trans h0))
    · exact absurd e hne
  · rcases h.lamp l with e | e
    · exact ha.closed (hlamp l fun h0 => hne (e.trans h0))
    · exact absurd e hne

/-- From `s` to `t` the duties are left or stopped, and the outputs stay within what may be driven. -/
structure State.yields (s t : State) : Prop where
  calm : s.motion.calms t.motion
  outputs : s.outputsOk → t.outputsOk

theorem State.yields.trans (h : s.yields t) (h' : t.yields u) : s.yields u :=
  ⟨h.calm.trans h'.calm, fun hok => h'.outputs (h.outputs hok)⟩

theorem State.yields.of_eases (h : s.motion.eases t.motion) (ha : s.standing.admits t.standing) : s.yields t :=
  ⟨h.calm, fun hok => hok.eased h ha⟩

/-- An operation that opens the switch: closed, it leaves nothing driven; not CLOSED, it finds nothing driven. -/
theorem State.yields.of_opening (h : s.motion.eases t.motion) (hd : s.prot.sw = .closed → t.motion.dark) :
    s.yields t := by
  by_cases hsw : s.prot.sw = .closed
  · exact ⟨h.calm, fun _ => t.outputsOk_of_dark (hd hsw)⟩
  · exact .of_eases h (Standing.admits_of_not_closed hsw)

/-- The same motion in the same standing. -/
theorem State.yields.of_eq (hm : t.motion = s.motion) (hs : t.standing = s.standing) : s.yields t :=
  .of_eases (hm ▸ .rfl) (hs ▸ Standing.admits_of_eq rfl rfl rfl)

/-- With the switch not CLOSED nothing is driven, so it may move anywhere. -/
theorem State.yields.of_not_closed (hm : t.motion = s.motion) (h : s.prot.sw ≠ .closed) : s.yields t :=
  .of_eases (hm ▸ .rfl) (Standing.admits_of_not_closed h)

section
variable (s)

/-! ### HALT and SLEEP -/

theorem State.haltWith_yields (b : Bool) : s.yields (s.haltWith b) :=
  .of_opening (s.haltWith_eases b) (s.haltWith_dark b)

theorem State.enterSleep_yields (o : SleepOrigin) : s.yields (s.enterSleep o) :=
  .of_opening (s.enterSleep_eases o) (s.enterSleep_dark o)

/-! ### CUTOFF, LOCKOUT and the hard trip -/

theorem State.cutoffBegun_calms (c : CutCause) : s.motion.calms (s.cutoffBegun c).motion :=
  ⟨.inr rfl, rfl, rfl, rfl, rfl, rfl, .inl ⟨rfl, rfl⟩, id⟩

/-- Entry to CUTOFF stops both motors and holds the drag brake where it may be driven (R78, R99). -/
theorem State.enterCutoff_yields (c : CutCause) : s.yields (s.enterCutoff c) := by
  refine ⟨(s.cutoffBegun_calms c).trans (s.cutoffBegun c).winchStopped_eases.calm, fun hok => ?_⟩
  obtain ⟨-, -, -, hservo, hlamp⟩ := hok
  obtain ⟨-, -, hwinch⟩ := s.enterCutoff_rest c
  have hdrv := s.enterCutoff_drv c
  have hsw : (s.enterCutoff c).prot.sw = s.prot.sw := by simp
  refine ⟨fun hne => absurd (by rw [hdrv]) hne, fun hne => absurd hwinch hne, fun hne => ?_, fun v hne => ?_,
    fun l hne => ?_⟩
  · rw [hdrv] at hne ⊢
    obtain ⟨hrun, hclosed, -⟩ := (ite_ne_right_iff.1 hne).1
    refine ⟨⟨by simpa using hrun, by simp, hsw.trans hclosed, by rw [hdrv]⟩, rfl, rfl⟩
  · exact hsw.trans (hservo v (by simpa using hne))
  · exact hsw.trans (hlamp l (by simpa using hne))

/-- Entry to LOCKOUT leaves nothing driven but what BENCH-DRY has no switch effect on (R99, R170). -/
theorem State.enterLockout_dark (hsw : s.prot.sw = .closed) (hrun : s.rsc.run ≠ .benchDry) :
    s.enterLockout.motion.dark := by
  have hclosed : s.lockoutBegun.prot.sw = .closed := by
    rw [State.lockoutBegun_prot]
    exact hsw
  rw [State.enterLockout_eq]
  split
  next h => exact absurd h hrun
  next => exact State.haltWith_dark _ _ hclosed
  next => exact State.haltWith_dark _ _ hclosed
  next => exact State.haltWith_dark _ _ hclosed
  next => exact State.openSwitch_dark _ hclosed

theorem State.enterLockout_yields : s.yields s.enterLockout := by
  by_cases hrun : s.rsc.run = .benchDry
  · have hrun' : s.standing.run = .benchDry := hrun
    refine .of_eases s.enterLockout_eases (Standing.admits_of_stopped (hrun' ▸ nofun) (hrun' ▸ nofun) ?_)
    rw [State.enterLockout_standing, Standing.lockedOut_sw, if_pos hrun']
  · exact .of_opening s.enterLockout_eases fun hsw => s.enterLockout_dark hsw hrun

theorem State.hardTrip_yields : s.yields s.hardTrip := by
  unfold State.hardTrip
  split
  · exact s.enterCutoff_yields _
  · exact s.enterCutoff_yields _
  · split
    · exact s.enterLockout_yields
    · exact .of_eases .rfl (Standing.admits_of_eq rfl rfl rfl)
  · exact .of_eq rfl rfl

/-! ### Precharge and start -/

theorem State.prechargeFailed_yields : s.yields s.prechargeFailed := by
  unfold State.prechargeFailed
  split
  · exact s.haltWith_yields false
  · exact .of_eases .rfl (Standing.admits_of_eq rfl rfl rfl)

theorem State.abortPrecharge_yields (h : s.prot.sw ≠ .closed) : s.yields s.abortPrecharge := by
  refine State.yields.trans ?_ (State.prechargeFailed_yields _)
  exact .of_not_closed rfl h

theorem State.failPrecharge_yields (h : s.prot.sw ≠ .closed) : s.yields s.failPrecharge := by
  refine State.yields.trans ?_ (State.prechargeFailed_yields _)
  exact .of_not_closed rfl h

theorem State.requestPrecharge_yields : s.yields s.requestPrecharge := by
  unfold State.requestPrecharge
  split
  next hopen =>
    have hsw : s.prot.sw ≠ .closed := eq_of_beq hopen ▸ nofun
    split
    · exact s.prechargeFailed_yields
    · dsimp only
      split
      · refine State.yields.trans ?_ (State.abortPrecharge_yields _ ?_)
        · exact .of_not_closed rfl hsw
        · exact nofun
      · exact .of_not_closed rfl hsw
  next => exact .of_eq rfl rfl

theorem State.makeStart_yields : s.yields s.makeStart := by
  refine State.yields.trans ?_ (State.requestPrecharge_yields _)
  exact .of_eases .rfl (Standing.admits_of_eq rfl rfl rfl)

/-- The switch closes on nothing driven (R18). -/
theorem State.closeSwitch_yields (h : s.prot.sw ≠ .closed) : s.yields s.closeSwitch := by
  have hclosed : s.yields s.switchClosed := by
    unfold State.switchClosed State.prechargeSucceeded
    split <;> exact .of_not_closed rfl h
  rw [State.closeSwitch_eq]
  split
  · exact hclosed.trans (State.hardTrip_yields _)
  · exact hclosed

end
end Sys2Proof.Machine
end

section
/-! PROOFS. The rules of the commands that move the protection state or the run state, and what they let be driven. -/

namespace Sys2Proof.Machine

/-- An answer leaves the duties and the outputs. -/
theorem State.yields.answered {s t : State} (h : s.yields t) (st : Status) (d : List Byte) : s.yields (t.respond st d) :=
  h.trans (.of_eq rfl rfl)

/-- What changes no output, no duty and no standing. -/
theorem State.yields.rfl {s : State} : s.yields s := .of_eq (.refl _) (.refl _)

section
variable (s : State)

/-! ### The dwell timers and LOCKOUT_CLEAR -/

theorem State.raise_motion (e : FaultEntry) : (s.raise e).motion = s.motion := rfl

theorem State.protTransition_yields (done : Dwell → Bool) (tapSeen : Bool) :
    s.yields (s.protTransition done tapSeen) := by
  unfold State.protTransition
  split
  · exact s.enterLockout_yields
  split
  · exact s.enterCutoff_yields _
  split
  · exact .of_eases .rfl (Standing.admits_of_mild (.inr rfl) rfl rfl)
  split
  · exact .of_eases .rfl (Standing.admits_of_mild (.inl rfl) rfl rfl)
  · exact .of_eq rfl rfl

theorem State.completeDwell_yields (k : Dwell) : s.yields (s.completeDwell k) := by
  unfold State.completeDwell
  split
  · refine State.yields.trans ?_ (State.protTransition_yields _ _ _)
    exact .of_eq rfl rfl
  · exact .of_eq rfl rfl

theorem State.protSample_yields (publishes tapSeen : Bool) : s.yields (s.protSample publishes tapSeen) := by
  unfold State.protSample
  split
  · refine State.yields.trans ?_ (State.protTransition_yields _ _ _)
    exact .of_eq rfl rfl
  · exact s.protTransition_yields _ _

theorem State.monitored_yields (raw : PerQuantity Int) : s.yields (s.monitored raw) :=
  .of_eases .rfl (Standing.admits_of_eq rfl rfl rfl)

theorem State.lockoutClear_yields : s.yields s.lockoutClear := by
  unfold State.lockoutClear
  split
  · exact .of_eases .rfl (Standing.admits_of_mild (.inl rfl) rfl rfl)
  · exact .of_eq rfl rfl

/-! ### The bench -/

theorem State.injected_yields {t : State} (code : Nat) (v : Int) (h : s.injected code v = some t) : s.yields t := by
  have hq (q : Quantity) : s.yields (s.injectQuantity q v) := .of_eases .rfl (Standing.admits_of_eq rfl rfl rfl)
  have hrate (rate : Nat) : s.yields (s.injectDrumRate rate) := .of_eq rfl rfl
  unfold State.injected at h
  split at h <;> split at h <;> cases h
  · exact hq _
  · exact hrate _

theorem State.benchInject_yields (ps : List Byte) : s.yields (s.benchInject ps) := by
  unfold State.benchInject
  split
  · exact State.yields.rfl.answered _ _
  split
  next h => exact (s.injected_yields _ _ h).answered _ _
  next => exact State.yields.rfl.answered _ _

/-- A run state entered from one in which neither bridge may be driven. -/
theorem State.withRun_yields (r : Rsc) (h : s.rsc.run ≠ .running) (h' : s.rsc.run ≠ .arming) :
    s.yields (s.withRsc r) :=
  .of_eases .rfl (Standing.admits_of_stopped h h' rfl)

theorem State.enterBench_yields (run : RunState) (h : s.haltedIdle = true) : s.yields (s.enterBench run) := by
  obtain ⟨hrun, -⟩ := s.haltedIdle_iff.1 h
  exact s.withRun_yields _ (hrun ▸ nofun) (hrun ▸ nofun)

theorem State.benchDryRule_yields : s.yields s.benchDryRule := by
  unfold State.benchDryRule
  split
  next h =>
    have hbench := s.enterBench_yields .benchDry h
    have hentered : s.yields s.enterDry := by
      unfold State.enterDry
      split
      · exact hbench.trans (State.hardTrip_yields _)
      · exact hbench
    exact hentered.answered _ _
  next => exact .of_eq rfl rfl

theorem State.benchWetRule_yields : s.yields s.benchWetRule := by
  unfold State.benchWetRule
  split
  next => exact .of_eq rfl rfl
  next h =>
    have hbench := s.enterBench_yields .benchWet (by simpa using h)
    split
    · exact .of_eq rfl rfl
    split
    · exact .of_eq rfl rfl
    · exact (hbench.trans (State.requestPrecharge_yields _)).answered _ _

/-! ### Run control -/

theorem State.sleepRule_yields : s.yields s.sleepRule := by
  unfold State.sleepRule
  split
  · exact (s.enterSleep_yields _).answered _ _
  · exact .of_eq rfl rfl
  · exact .of_eq rfl rfl

theorem State.loadRule_yields (start : Bool) : s.yields (s.loadRule start) := by
  unfold State.loadRule
  split
  next h =>
    obtain ⟨hrun, -⟩ := s.haltedIdle_iff.1 h
    exact (s.withRun_yields _ (hrun ▸ nofun) (hrun ▸ nofun)).answered _ _
  next => exact .of_eq rfl rfl

theorem State.startRule_yields : s.yields s.startRule := by
  unfold State.startRule
  split
  · exact .of_eq rfl rfl
  split
  · exact .of_eq rfl rfl
  split
  · exact .of_eq rfl rfl
  split
  · exact .of_eq rfl rfl
  · exact s.makeStart_yields.answered _ _

theorem State.applySettings_yields (c : Settings) : s.yields (s.applySettings c) :=
  .of_eases (s.applySettings_eases c) (s.applySettings_standing c ▸ Standing.admits_of_eq rfl rfl rfl)

/-- The end of a LOAD enters HALTED from LOADING, in which neither bridge may be driven (R158). -/
theorem State.endLoad_yields (c : Settings) (valid : Bool) (h : s.rsc.run = .loading) :
    s.yields (s.endLoad c valid) := by
  have hrun : (s.applySettings c).rsc.run = .loading := (congrArg Standing.run (s.applySettings_standing c)).trans h
  have hhalted := (s.applySettings_yields c).trans ((s.applySettings c).withRun_yields
    { (s.applySettings c).rsc with run := .halted, load := none, pendingStart := false, valid := valid }
    (hrun ▸ nofun) (hrun ▸ nofun))
  exact hhalted.trans (.of_eq rfl rfl)

theorem State.finishLoad_yields (powerUp : Bool) (h : s.rsc.run = .loading) : s.yields (s.finishLoad powerUp) := by
  unfold State.finishLoad
  split
  next c _ =>
    have hend := s.endLoad_yields c true h
    have hstart : s.yields (s.endLoad c true).startAfterLoad := by
      unfold State.startAfterLoad
      split
      · exact hend
      · exact hend.trans (State.makeStart_yields _)
    split_ifs <;> assumption
  next =>
    exact (s.endLoad_yields factorySettings false h).trans (.of_eq (State.raise_motion _ _) (State.raise_standing _ _))

theorem State.endWake_yields (h : s.rsc.run = .sleep) : s.yields s.endWake := by
  have hhalted := s.withRun_yields { s.rsc with run := .halted, wakeEnd := none, sleepOrigin := none } (h ▸ nofun)
    (h ▸ nofun)
  unfold State.endWake
  dsimp only
  split
  · exact hhalted.trans (State.makeStart_yields _)
  · exact hhalted

theorem State.enterRunning_yields : s.yields s.enterRunning :=
  .of_eases .rfl (Standing.admits_of_running rfl rfl rfl)

end
end Sys2Proof.Machine
end

section
/-! PROOFS. The commands that leave the standing, but for those that drive: each leaves what is driven, or stops it. -/

namespace Sys2Proof.Machine

variable {s t u : State}

section
variable (s)

theorem State.respond_motion (st : Status) (d : List Byte) : (s.respond st d).motion = s.motion := rfl

/-! ### The radio and the pendant -/

theorem State.handOn_eases (bytes : List Byte) (fresh : Bool) : s.motion.eases (s.handOn bytes fresh).motion := by
  unfold State.handOn
  split
  · exact .rfl
  split
  · exact s.commitGrants_eases _
  · exact .rfl

theorem State.receiveFrame_eases (bytes : List Byte) : s.motion.eases (s.receiveFrame bytes).motion := by
  unfold State.receiveFrame
  split
  · refine Motion.eases.trans ?_ (State.handOn_eases _ _ _)
    exact .rfl
  · exact .rfl

theorem State.linkByte_eases (b : Byte) : s.motion.eases (s.linkByte b).motion := by
  unfold State.linkByte
  split
  · split <;> exact .rfl
  split
  · refine Motion.eases.trans ?_ (State.receiveFrame_eases _ _)
    exact .rfl
  · exact .rfl

theorem State.presentPendant_eases (pressed : Bool) : s.motion.eases (s.presentPendant pressed).motion := by
  unfold State.presentPendant
  split
  · split <;> exact .rfl
  · exact s.commitGrants_eases _

/-! ### The drum -/

theorem State.countForOrder_eases (dir : WinchDir) : s.motion.eases (s.countForOrder dir).motion := by
  unfold State.countForOrder
  split
  · exact .rfl
  split
  · exact .rfl
  dsimp only
  split
  · refine Motion.eases.trans ?_ (State.endOrder_eases _ _ _ _)
    exact .rfl
  · exact .rfl

/-- At the line limit a motor paying out stops (R95). -/
theorem State.limitAtPulse_eases (dir : WinchDir) : s.motion.eases (s.limitAtPulse dir).motion := by
  have hended : s.motion.eases (if s.wch.payingOut then s.endActive .lineEnd else s).motion := by
    split
    · exact s.endActive_eases _
    · exact .rfl
  have hstopped (v : State) (h : s.motion.eases v.motion) :
      s.motion.eases (if 0 < v.wch.duty then v.setWinchDuty 0 else v).motion := by
    split
    · exact h.trans (State.setWinchDuty_eases _)
    · exact h
  unfold State.limitAtPulse
  split
  · exact hstopped _ hended
  · exact .rfl

theorem State.drumPulse_eases : s.motion.eases s.drumPulse.motion := by
  unfold State.drumPulse
  split
  · exact .rfl
  · refine Motion.eases.trans (Motion.eases.trans ?_ (State.countForOrder_eases _ _)) (State.limitAtPulse_eases _ _)
    exact .rfl

/-! ### The grant commands -/

theorem State.grantTo_eases (f : Fn) (r : FnRecord) (st : Status) : s.motion.eases (s.grantTo f r st).motion :=
  s.commitGrants_eases _

theorem State.grantRule_eases (ps : List Byte) (rule : Fn → State → State)
    (h : ∀ f, s.motion.eases (rule f s).motion) : s.motion.eases (s.grantRule ps rule).motion := by
  unfold State.grantRule
  split
  · exact .rfl
  split
  · exact .rfl
  · exact h _

theorem State.claim_eases (f : Fn) : s.motion.eases (s.claim f).motion := by
  unfold State.claim
  split
  · exact .rfl
  · exact s.grantTo_eases _ _ _

theorem State.setValue_eases (f : Fn) (v : Int) (q : Nat) : s.motion.eases (s.setValue f v q).motion := by
  unfold State.setValue
  dsimp only
  split
  · exact .rfl
  split
  · exact .rfl
  split
  · exact .rfl
  · exact s.grantTo_eases _ _ _

theorem State.claimSet_eases (f : Fn) (v : Int) : s.motion.eases (s.claimSet f v).motion := by
  unfold State.claimSet
  split
  · exact .rfl
  split
  · exact .rfl
  split
  · exact .rfl
  · exact s.grantTo_eases _ _ _

theorem State.releaseFn_eases (f : Fn) : s.motion.eases (s.releaseFn f).motion := by
  unfold State.releaseFn
  split
  · exact .rfl
  · exact s.grantTo_eases _ _ _

theorem State.refresh_motion : s.refresh.motion = s.motion := by
  unfold State.refresh
  split <;> rfl

/-! ### The winch commands -/

theorem State.winchCommandRule_eases (d : List Byte) (rule : State → State) (h : s.motion.eases (rule s).motion) :
    s.motion.eases (s.winchCommandRule d rule).motion := by
  unfold State.winchCommandRule
  split
  · exact .rfl
  · exact h

theorem State.winchPost_motion (ps : List Byte) : (s.winchPost ps).motion = s.motion := by
  unfold State.winchPost
  dsimp only
  (repeat' split) <;> rfl

theorem State.winchCancel_eases (ps : List Byte) : s.motion.eases (s.winchCancel ps).motion := by
  unfold State.winchCancel
  split
  · exact .rfl
  · exact s.endOrder_eases _ _ _

theorem State.winchReap_motion : s.winchReap.motion = s.motion := by
  unfold State.winchReap
  split <;> rfl

theorem State.winchZero_motion : s.winchZero.motion = s.motion := by
  unfold State.winchZero
  split <;> rfl

/-! ### The working configuration, the store and the reports -/

theorem State.cfgRead_motion (ps : List Byte) : (s.cfgRead ps).motion = s.motion := by
  unfold State.cfgRead
  dsimp only
  split <;> rfl

theorem State.editConfig_eases (c : Settings) : s.motion.eases (s.editConfig c).motion := s.applySettings_eases c

theorem State.cfgWrite_eases (ps : List Byte) : s.motion.eases (s.cfgWrite ps).motion := by
  unfold State.cfgWrite
  dsimp only
  split
  · exact .rfl
  split
  · exact .rfl
  split
  · exact .rfl
  · rw [State.respond_motion]
    exact s.editConfig_eases _

theorem State.cfgCheck_motion : s.cfgCheck.motion = s.motion := by
  unfold State.cfgCheck
  split <;> rfl

theorem State.cfgStore_motion : s.cfgStore.motion = s.motion := by
  unfold State.cfgStore
  (repeat' split) <;> rfl

theorem State.endStore_motion (bytes : List Byte) : (s.endStore bytes).motion = s.motion := by
  unfold State.endStore
  dsimp only
  split <;> rfl

theorem State.sceneWrite_motion (ps : List Byte) : (s.sceneWrite ps).motion = s.motion := by
  unfold State.sceneWrite
  split <;> rfl

theorem State.benchStall_motion : s.benchStall.motion = s.motion := by
  unfold State.benchStall
  split <;> rfl

theorem State.readRule_motion (ps : List Byte) : (s.readRule ps).motion = s.motion := by
  unfold State.readRule
  split <;> rfl

theorem State.faultAck_motion (ps : List Byte) : (s.faultAck ps).motion = s.motion := by
  unfold State.faultAck
  (repeat' split) <;> rfl

end

/-! ### Every quiet command that does not drive -/

/-- The commands at which a duty is formed or a line is given what it carries: the drive and winch steps, the servo frames
and the light frame boundaries (R68, R81, R96, R124). -/
def drives : Instr → Bool
  | .driveStep | .servoFrame | .lightFrameBoundary | .winchStep | .orderTimeout | .orderStarved | .retryPauseEnd
  | .currentCheckStall | .drumCheckStall => true
  | _ => false

/-- An outcome eases the motion of `s`. -/
def easesMotion (s : State) (o : Host.Outcome State Fault Refusal) : Prop :=
  ∀ t, o = .next t → s.motion.eases t.motion

theorem easesMotion_completed (h : s.motion.eases u.motion) : easesMotion s (completed u) := by
  rintro _ ⟨⟩
  exact h

theorem easesMotion_of_eq (h : u.motion = s.motion) : easesMotion s (completed u) :=
  easesMotion_completed (h ▸ .rfl)

theorem easesMotion_taken {ok ex : Bool} {al : State → List Byte} {owner : State → State}
    (h : s.wakeSource.motion.eases (owner s.wakeSource).motion) :
    easesMotion s (completed (s.takeCommand ok ex al owner)) := by
  apply easesMotion_completed
  obtain ⟨st, d, e⟩ | ⟨-, e⟩ := s.takeCommand_cases ok ex al owner <;> rw [e]
  · exact .rfl
  · exact Motion.eases.trans .rfl h

/-- An accessory command whose rule leaves the motion. -/
theorem easesMotion_heard {ok ex : Bool} {al : State → List Byte} {owner : State → State}
    (h : ∀ w : State, (owner w).motion = w.motion) : easesMotion s (completed (s.takeCommand ok ex al owner)) :=
  easesMotion_taken ((h s.wakeSource) ▸ .rfl)

theorem quiet_easesMotion (c : Instr) (hc : quiet c = true) (hd : drives c = false) (s : State) :
    easesMotion s (exec c s) := by
  cases c
  all_goals try exact Bool.noConfusion hc
  all_goals try exact Bool.noConfusion hd
  case ocTripRelease | servoShort | budgetPeriod | framingError | pendantEdge => exact easesMotion_of_eq rfl
  case radioFrame bytes =>
    exact easesMotion_completed (Motion.eases.trans .rfl (State.receiveFrame_eases (s.withDlr s.dlr.hunt) bytes))
  case linkByteReceived => exact easesMotion_completed (s.linkByte_eases _)
  case drumPulse =>
    simp only [exec, execDrumPulse]
    split
    · exact easesMotion_of_eq rfl
    · exact easesMotion_completed s.drumPulse_eases
  case benchDrumPulse =>
    simp only [exec, execBenchDrumPulse]
    split
    · refine easesMotion_completed (Motion.eases.trans ?_ (State.drumPulse_eases _))
      exact .rfl
    · exact easesMotion_of_eq rfl
  case linkGapTimeout | replyTimerExpiry | replySent =>
    simp only [exec, execLinkGapTimeout, execReplyTimerExpiry, execReplySent]
    split <;> exact easesMotion_of_eq rfl
  case dlFreshnessExpiry | apLeaseExpiry =>
    simp only [exec, execDlFreshnessExpiry, execApLeaseExpiry]
    split
    · refine easesMotion_completed (Motion.eases.trans ?_ (State.commitGrants_eases _ _))
      exact .rfl
    · exact easesMotion_of_eq rfl
  case pendantSettleExpiry =>
    simp only [exec, execPendantSettleExpiry]
    split
    · exact easesMotion_of_eq rfl
    split
    · exact easesMotion_of_eq rfl
    · refine easesMotion_completed (Motion.eases.trans ?_ (State.presentPendant_eases _ _))
      exact .rfl
  case storeEnd =>
    simp only [exec, execStoreEnd]
    split
    · exact easesMotion_of_eq (State.endStore_motion _ _)
    · exact easesMotion_of_eq rfl
  case acpUnknownWrite =>
    simp only [exec, execAcpUnknownWrite]
    split <;> exact easesMotion_of_eq rfl
  case status | readCause | faultNext | attnMask | runctlNoFlag =>
    exact easesMotion_heard fun _ => rfl
  case read => exact easesMotion_heard fun w => w.readRule_motion _
  case faultAck => exact easesMotion_heard fun w => w.faultAck_motion _
  case cfgRead => exact easesMotion_heard fun w => w.cfgRead_motion _
  case cfgWrite => exact easesMotion_taken (State.cfgWrite_eases _ _)
  case cfgCheck => exact easesMotion_heard State.cfgCheck_motion
  case cfgStore => exact easesMotion_heard State.cfgStore_motion
  case claim => exact easesMotion_taken (State.grantRule_eases _ _ _ fun f => State.claim_eases _ f)
  case set => exact easesMotion_taken (State.grantRule_eases _ _ _ fun f => State.setValue_eases _ f _ _)
  case claimSet => exact easesMotion_taken (State.grantRule_eases _ _ _ fun f => State.claimSet_eases _ f _)
  case release => exact easesMotion_taken (State.grantRule_eases _ _ _ fun f => State.releaseFn_eases _ f)
  case refresh => exact easesMotion_heard State.refresh_motion
  case winchPost => exact easesMotion_taken (State.winchCommandRule_eases _ _ _ (State.winchPost_motion _ _ ▸ .rfl))
  case winchCancel => exact easesMotion_taken (State.winchCommandRule_eases _ _ _ (State.winchCancel_eases _ _))
  case winchReap => exact easesMotion_taken (State.winchCommandRule_eases _ _ _ (State.winchReap_motion _ ▸ .rfl))
  case winchResume => exact easesMotion_taken (State.winchCommandRule_eases _ _ _ .rfl)
  case winchZero => exact easesMotion_taken (State.winchCommandRule_eases _ _ _ (State.winchZero_motion _ ▸ .rfl))
  case sceneWrite => exact easesMotion_heard fun w => w.sceneWrite_motion _
  case benchStall => exact easesMotion_heard State.benchStall_motion

end Sys2Proof.Machine
end

section
/-! PROOFS. The commands that drive: a drive step, a winch step, a servo frame, a light frame boundary; and the resets. -/

namespace Sys2Proof.Machine

/-- The applied drive duty and its cap, within the caps formed at the latest drive step (R70). -/
def Drv.withinCaps (d : Drv) : Prop :=
  d.applied.natAbs ≤ d.cap ∧ d.cap ≤ d.budgetCap ∧ d.cap ≤ d.thermalCap ∧
    (d.cap = min d.budgetCap d.thermalCap ∨ d.cap = min (min d.budgetCap d.thermalCap) d.interlockCap)

/-- Caps that stand hold a duty that has not grown. -/
theorem Drv.withinCaps.lowered {d e : Drv} (h : d.withinCaps) (happlied : e.applied.natAbs ≤ d.applied.natAbs)
    (hcap : e.cap = d.cap) (hbudget : e.budgetCap = d.budgetCap) (hthermal : e.thermalCap = d.thermalCap)
    (hinterlock : e.interlockCap = d.interlockCap) : e.withinCaps := by
  obtain ⟨hle, hrest⟩ := h
  unfold Drv.withinCaps
  rw [hcap, hbudget, hthermal, hinterlock]
  exact ⟨happlied.trans hle, hrest⟩

namespace Motion

variable {a b : Motion}

theorem calms.applied_le (h : a.calms b) : b.drv.applied.natAbs ≤ a.drv.applied.natAbs := by
  rcases h.applied with e | e <;> rw [e]
  exact Nat.zero_le _

theorem calms.withinCaps (h : a.calms b) (ha : a.drv.withinCaps) : b.drv.withinCaps :=
  ha.lowered h.applied_le h.cap h.budgetCap h.thermalCap h.interlockCap

/-- A winch that still moves moved before, and the drive duty has not grown since (R71). -/
theorem calms.held (h : a.calms b) {cap : Nat} (ha : a.moving = true → a.drv.applied.natAbs ≤ cap)
    (hb : b.moving = true) : b.drv.applied.natAbs ≤ cap := by
  rcases h.winch with ⟨-, e⟩ | ⟨-, e⟩
  · exact h.applied_le.trans (ha (e ▸ hb))
  · exact nomatch hb.symm.trans e

end Motion

theorem State.dutiesOk_iff (s : State) : s.dutiesOk ↔
    s.drv.withinCaps ∧ s.wch.duty.natAbs ≤ s.wch.speedCap ∧ s.wch.moving = (s.wch.duty != 0) := by
  simp only [State.dutiesOk, Drv.withinCaps, and_assoc]

/-- What O5 and O6 ask of a command from `s` to `t`. -/
structure State.keepsDriven (s t : State) : Prop where
  outputs : s.outputsOk → t.outputsOk
  duties : s.dutiesOk → t.dutiesOk
  interlock : s.interlockOk → t.drv.interlock = t.wch.moving ∧
    (t.cfg.winchDriveCap = s.cfg.winchDriveCap → t.interlockOk)

/-- What leaves the duties or stops them keeps them within their caps and under the interlock. -/
theorem State.yields.keepsDriven {s t : State} (h : s.yields t) : s.keepsDriven t where
  outputs := h.outputs
  duties := by
    intro hok
    obtain ⟨hcaps, hduty, hmoving⟩ := s.dutiesOk_iff.1 hok
    have hspeed : t.wch.speedCap = s.wch.speedCap := h.calm.speedCap
    refine t.dutiesOk_iff.2 ⟨h.calm.withinCaps hcaps, ?_⟩
    rw [hspeed]
    rcases h.calm.winch with ⟨e, e'⟩ | ⟨e, e'⟩
    · have e : t.wch.duty = s.wch.duty := e
      have e' : t.wch.moving = s.wch.moving := e'
      rw [e, e']
      exact ⟨hduty, hmoving⟩
    · have e : t.wch.duty = 0 := e
      have e' : t.wch.moving = false := e'
      rw [e, e']
      exact ⟨Nat.zero_le _, by decide⟩
  interlock := by
    rintro ⟨hflag, hheld⟩
    refine ⟨h.calm.interlock hflag, fun hcap => ⟨h.calm.interlock hflag, ?_⟩⟩
    rw [hcap]
    exact h.calm.held hheld

section
variable (s : State)

/-! ### The drive step (R68) -/

/-- The duty a step applies lies within its cap (R72). -/
theorem slewDuty_le (cap rate : Nat) (target applied : Int) : (slewDuty cap rate target applied).natAbs ≤ cap := by
  by_cases h : cap < applied.natAbs
  · rw [slewDuty_above h]
    split_ifs <;> omega
  · rw [slewDuty_within (not_lt.1 h)]
    split_ifs <;> omega

theorem State.driveAfterStep_withinCaps : s.driveAfterStep.withinCaps := by
  have happlied : s.driveAfterStep.applied.natAbs ≤ s.driveAfterStep.cap := slewDuty_le ..
  have hcap : s.driveAfterStep.cap =
      if s.wch.moving then min (min s.driveAfterStep.budgetCap s.driveAfterStep.thermalCap) s.driveAfterStep.interlockCap
      else min s.driveAfterStep.budgetCap s.driveAfterStep.thermalCap := rfl
  refine ⟨happlied, ?_⟩
  rw [hcap]
  split
  · exact ⟨(min_le_left _ _).trans (min_le_left _ _), (min_le_left _ _).trans (min_le_right _ _), .inr rfl⟩
  · exact ⟨min_le_left _ _, min_le_right _ _, .inl rfl⟩

/-- While the winch moves the step holds the duty within WINCH_DRIVE_CAP (R70, R71). -/
theorem State.driveAfterStep_held (h : s.wch.moving = true) :
    s.driveAfterStep.applied.natAbs ≤ s.cfg.winchDriveCap := by
  have happlied : s.driveAfterStep.applied.natAbs ≤
      driveCapOf s.driveBudgetCap s.driveThermalCap s.driveInterlockCap s.wch.moving := slewDuty_le ..
  rw [h] at happlied
  exact happlied.trans (min_le_right _ _)

/-- The drive lines after a step carry a duty, or the drag brake, where they are released for it (R73, R74). -/
theorem State.driveAfterStep_outputsOk (hok : s.outputsOk) : (s.withDrv s.driveAfterStep).outputsOk := by
  obtain ⟨-, hwinch, -, hservo, hlamp⟩ := hok
  have hpwm : s.driveAfterStep.pwm = if s.drivePwmReleased then s.driveAfterStep.applied.natAbs else 0 := rfl
  have hbrk : s.driveAfterStep.brk =
      if s.driveAfterStep.dragBrake && s.driveBrkReleased then some s.cfg.drag else none := rfl
  have hdrag : s.driveAfterStep.dragBrake = (s.driveTarget == 0 && s.driveAfterStep.applied == 0) := rfl
  refine ⟨fun hne => ?_, hwinch, fun hne => ?_, hservo, hlamp⟩
  · obtain ⟨hrun, hst, hsw, -⟩ := s.drivePwmReleased_iff.1 (ite_ne_right_iff.1 (hpwm ▸ hne)).1
    exact ⟨hrun, hst, hsw⟩
  · have hb := (ite_ne_right_iff.1 (hbrk ▸ hne)).1
    rw [Bool.and_eq_true] at hb
    obtain ⟨hd, hreleased⟩ := hb
    obtain ⟨hrun, hst, hsw, -⟩ := s.driveBrkReleased_iff.1 hreleased
    have happlied : s.driveAfterStep.applied = 0 := by
      rw [hdrag, Bool.and_eq_true] at hd
      exact eq_of_beq hd.2
    refine ⟨⟨hrun, hst, hsw, hd⟩, happlied, ?_⟩
    rw [State.withDrv_drv, hpwm, happlied]
    exact ite_self _

theorem State.driveStep_keepsDriven : s.keepsDriven (s.withDrv s.driveAfterStep) where
  outputs := s.driveAfterStep_outputsOk
  duties := by
    intro hok
    obtain ⟨-, hwinch⟩ := s.dutiesOk_iff.1 hok
    exact (s.withDrv s.driveAfterStep).dutiesOk_iff.2 ⟨s.driveAfterStep_withinCaps, hwinch⟩
  interlock := fun _ => ⟨rfl, fun _ => ⟨rfl, s.driveAfterStep_held⟩⟩

/-! ### The winch motor given a duty (R71, R97, R98) -/

/-- A drive with no duty meets the interlock in its flag alone (R71). -/
theorem Drv.onMoving_rest {d : Drv} (h : d.applied = 0) (cap : Nat) (released was is : Bool) :
    ∃ i, d.onMoving cap released was is = { d with interlock := i } := by
  unfold Drv.onMoving
  split
  · exact ⟨_, rfl⟩
  split
  · refine ⟨true, ?_⟩
    unfold Drv.winchStarts
    rw [h, if_neg (by simp)]
  · exact ⟨_, rfl⟩

/-- After a change of the moving flag the interlock flag agrees with it, where it agreed before (R71). -/
theorem Drv.onMoving_interlock {d : Drv} {was : Bool} (h : d.interlock = was) (cap : Nat) (released is : Bool) :
    (d.onMoving cap released was is).interlock = is := by
  unfold Drv.onMoving Drv.winchStarts
  split
  next he => exact h.trans (eq_of_beq he)
  next hne =>
    split
    next his =>
      rw [his]
      split <;> rfl
    next his => exact (Bool.eq_false_of_not_eq_true his).symm

/-- A rise of the moving flag clamps the duty; one that stands finds it clamped (R71). -/
theorem Drv.onMoving_held {d : Drv} {cap : Nat} {was : Bool} (h : was = true → d.applied.natAbs ≤ cap)
    (released : Bool) : (d.onMoving cap released was true).applied.natAbs ≤ cap := by
  unfold Drv.onMoving Drv.winchStarts
  split
  next he => exact h (eq_of_beq he)
  rw [if_pos rfl]
  split
  next => exact (limitMagnitude_le _ _).1
  next hle => exact not_lt.1 hle

/-- A motor given a duty drives its line, and a drive clamped by the interlock drives its own, where both may (R73,
R98). -/
theorem State.setWinchDuty_outputsOk (d : Int) (hok : s.outputsOk) : (s.setWinchDuty d).outputsOk := by
  obtain ⟨hpwm, -, hbrk, hservo, hlamp⟩ := hok
  obtain ⟨-, -, -, -, -, -, -, hbrk', hpwm'⟩ :=
    s.drv.onMoving_spec s.cfg.winchDriveCap s.drivePwmReleased s.wch.moving (d != 0)
  refine ⟨fun hne => ?_, fun hne => ?_, fun hne => ?_, hservo, hlamp⟩
  · rcases hpwm' hne with hdriven | hreleased
    · exact hpwm hdriven
    · obtain ⟨hrun, hst, hsw, -⟩ := s.drivePwmReleased_iff.1 hreleased
      exact ⟨hrun, hst, hsw⟩
  · rw [State.setWinchDuty_pwm] at hne
    obtain ⟨hrun, hst, hsw, -⟩ : s.rsc.run = .running ∧ (s.prot.st = .normal ∨ s.prot.st = .warn) ∧
        s.prot.sw = .closed ∧ s.cfg.winchEn = true := by
      simpa [State.winchReleased, State.protDrives, and_assoc] using (ite_ne_right_iff.1 hne).1
    exact ⟨hrun, hst, hsw⟩
  · obtain ⟨hmay, happlied, hzero⟩ := hbrk fun h0 => hne (hbrk'.trans h0)
    obtain ⟨i, hi⟩ := Drv.onMoving_rest happlied s.cfg.winchDriveCap s.drivePwmReleased s.wch.moving (d != 0)
    have hdrv : (s.setWinchDuty d).drv = { s.drv with interlock := i } := hi
    unfold State.mayBrake
    rw [hdrv]
    exact ⟨hmay, happlied, hzero⟩

/-! ### The winch step (R96) -/

theorem State.activate_eases (i : Fin 4) (o : Order) : s.motion.eases (s.activate i o).motion := by
  unfold State.activate
  dsimp only
  split
  · refine Motion.eases.trans ?_ (State.endOrder_eases _ _ _ _)
    exact .rfl
  · exact .rfl

theorem State.startOrder_eases : s.motion.eases s.startOrder.motion := by
  unfold State.startOrder
  split
  · split
    · exact s.activate_eases _ _
    · exact .rfl
  · exact .rfl

theorem State.orderChecks_eases : s.motion.eases s.orderChecks.motion := by
  unfold State.orderChecks
  split
  · exact .rfl
  split
  · exact s.endOrder_eases _ _ _
  split
  · exact s.endOrder_eases _ _ _
  split <;> exact .rfl

theorem State.orderStalls_eases (i : Fin 4) (o : Order) (r : OrderRun) : s.motion.eases (s.orderStalls i o r).motion := by
  unfold State.orderStalls
  split
  · exact .rfl
  · exact s.endOrder_eases _ _ _

theorem State.orderStallChecks_eases (i : Fin 4) (o : Order) (r : OrderRun) (d : Int) :
    s.motion.eases (s.orderStallChecks i o r d).1.motion := by
  unfold State.orderStallChecks
  split
  · exact .rfl
  split
  · refine Motion.eases.trans ?_ (State.orderStalls_eases _ _ _ _)
    exact .rfl
  split
  · exact s.orderStalls_eases _ _ _
  · exact .rfl

theorem State.directStallChecks_motion (d : Int) : (s.directStallChecks d).1.motion = s.motion := by
  unfold State.directStallChecks
  (repeat' split) <;> rfl

theorem State.stallChecks_eases (d : Int) : s.motion.eases (s.stallChecks d).1.motion := by
  unfold State.stallChecks
  split
  · split
    · split
      · exact .rfl
      · exact s.orderStallChecks_eases _ _ _ _
    · exact .rfl
  · exact s.directStallChecks_motion d ▸ .rfl

theorem State.releaseHold_motion : s.releaseHold.motion = s.motion := by
  unfold State.releaseHold
  split <;> rfl

/-- Steps 1 to 3 of R96. -/
def State.winchChecked (s : State) : State := s.formSpeedCap.releaseHold.startOrder.orderChecks

/-- Steps 4 and 5 of R96: the state after the stall checks, and the duty they leave. -/
def State.winchJudged (s : State) : State × Int :=
  s.winchChecked.stallChecks (s.winchChecked.winchDuty s.winchChecked.wch.speedCap)

theorem State.winchWork_eq : s.winchWork = s.winchJudged.1.finishWinchStep s.winchJudged.2 := rfl

theorem State.winchJudged_eases : s.formSpeedCap.motion.eases s.winchJudged.1.motion := by
  have h : s.formSpeedCap.motion.eases s.winchChecked.motion :=
    (State.releaseHold_motion s.formSpeedCap ▸ State.startOrder_eases s.formSpeedCap.releaseHold).trans
      (State.orderChecks_eases _)
  exact h.trans (State.stallChecks_eases _ _)

theorem State.winchJudged_standing : s.winchJudged.1.standing = s.standing :=
  State.standing_eq (by simp [State.winchJudged, State.winchChecked]) (by simp [State.winchJudged, State.winchChecked])
    (by simp [State.winchJudged, State.winchChecked])

theorem State.winchJudged_cfg : s.winchJudged.1.cfg = s.cfg := by
  simp [State.winchJudged, State.winchChecked, State.cfg]

/-- The duty of the step lies within the speed cap formed at it (R97). -/
theorem State.winchJudged_le : s.winchJudged.2.natAbs ≤ s.winchJudged.1.wch.speedCap := by
  have hspeed : s.winchJudged.1.wch.speedCap = s.winchChecked.wch.speedCap :=
    (State.stallChecks_eases s.winchChecked _).calm.speedCap
  rw [hspeed]
  rcases State.stallChecks_duty s.winchChecked (s.winchChecked.winchDuty s.winchChecked.wch.speedCap) with e | e
  · exact e ▸ State.winchDuty_le _ _
  · exact e ▸ Nat.zero_le _

theorem State.winchWork_keepsDriven : s.keepsDriven s.winchWork := by
  have heases := s.winchJudged_eases
  have hcfg := s.winchJudged_cfg
  have hle := s.winchJudged_le
  have hstanding := s.winchJudged_standing
  rw [s.winchWork_eq]
  generalize s.winchJudged.1 = v at heases hcfg hle hstanding ⊢
  generalize s.winchJudged.2 = d at hle ⊢
  have hdrv : (v.finishWinchStep d).drv =
      v.drv.onMoving v.cfg.winchDriveCap v.drivePwmReleased v.wch.moving (d != 0) := rfl
  refine ⟨fun hok => ?outputs, fun hok => ?duties, fun hok => ?interlock⟩
  case outputs =>
    have hformed : s.formSpeedCap.outputsOk := hok
    exact v.setWinchDuty_outputsOk d (hformed.eased heases (hstanding ▸ Standing.admits_of_eq rfl rfl rfl))
  case duties =>
    obtain ⟨hcaps, -⟩ := s.dutiesOk_iff.1 hok
    have hv : v.drv.withinCaps := heases.calm.withinCaps hcaps
    obtain ⟨happlied, hcap, hbudget, hthermal, hinterlock, -⟩ :=
      v.drv.onMoving_spec v.cfg.winchDriveCap v.drivePwmReleased v.wch.moving (d != 0)
    exact (v.finishWinchStep d).dutiesOk_iff.2
      ⟨hdrv ▸ hv.lowered happlied hcap hbudget hthermal hinterlock, hle, rfl⟩
  case interlock =>
    obtain ⟨hflag, hheld⟩ := hok
    have hflag' : v.drv.interlock = v.wch.moving := heases.calm.interlock hflag
    have hfollows : (v.finishWinchStep d).drv.interlock = (v.finishWinchStep d).wch.moving :=
      hdrv ▸ Drv.onMoving_interlock hflag' _ _ _
    have hcfg' : (v.finishWinchStep d).cfg = s.cfg := hcfg
    refine ⟨hfollows, fun _ => ⟨hfollows, fun hmoving => ?_⟩⟩
    have hd : (d != 0) = true := hmoving
    rw [hcfg', hdrv, hd, hcfg]
    exact Drv.onMoving_held (fun hm => heases.calm.held hheld hm) _

/-! ### The frames of servos and lights (R81, R133) -/

/-- A servo is pulsed in a frame that is active and not in BENCH-DRY alone, so with the switch CLOSED (R81, R167). -/
theorem State.servoFrame_line (v : Servo)
    (h : ((if s.countedClosed then s.activeFrame else s.idleFrame).servo.get v).line ≠ none) : s.prot.sw = .closed := by
  split at h
  next hclosed =>
    have hline : (s.activeFrame.servo.get v).line =
        if s.rsc.run != .benchDry then (s.activeFrame.servo.get v).emitted else none := by
      simp [State.activeFrame, servoAfter]
    have hdry := (ite_ne_right_iff.1 (hline ▸ h)).1
    simpa [State.countedClosed, bne_iff_ne.1 hdry] using hclosed
  next => exact absurd (by simp [State.idleFrame]) h

theorem State.servoFrame_yields :
    s.yields (s.withStr (if s.countedClosed then s.activeFrame else s.idleFrame)) := by
  refine ⟨⟨.inl rfl, rfl, rfl, rfl, rfl, rfl, .inl ⟨rfl, rfl⟩, id⟩, fun hok => ?_⟩
  obtain ⟨hpwm, hwinch, hbrk, -, hlamp⟩ := hok
  exact ⟨hpwm, hwinch, hbrk, s.servoFrame_line, hlamp⟩

/-- A light carries a duty after a boundary with the switch CLOSED alone (R133). -/
theorem State.lightFrame_line (l : Lamp) (h : (s.lightFrame.lamp.get l).line ≠ 0) : s.prot.sw = .closed := by
  unfold State.lightFrame at h
  dsimp only at h
  split at h
  next =>
    have hdriven : s.lightsDriven = true := by
      by_contra hn
      exact h (by simp [Lgt.onFrame, lampRecords, hn])
    rw [State.lightsDriven, Bool.and_eq_true] at hdriven
    exact eq_of_beq hdriven.1
  next => exact absurd (by simp [Lgt.offFrame, lampRecords]) h

theorem State.lightFrame_yields : s.yields (s.withLgt s.lightFrame) := by
  refine ⟨⟨.inl rfl, rfl, rfl, rfl, rfl, rfl, .inl ⟨rfl, rfl⟩, id⟩, fun hok => ?_⟩
  obtain ⟨hpwm, hwinch, hbrk, hservo, -⟩ := hok
  exact ⟨hpwm, hwinch, hbrk, hservo, s.lightFrame_line⟩

/-! ### The resets (R79, R91, R118, R135) -/

/-- After a reset nothing is driven and every duty and cap is 0. -/
theorem State.keepsDriven_of_reset {t : State} {now now' now'' : Nat} {c : Settings} (hdrv : t.drv = Drv.fresh now)
    (hstr : t.str = Str.fresh c now') (hlgt : t.lgt = Lgt.fresh now'') (hrest : t.wch.atRest) : s.keepsDriven t := by
  obtain ⟨hduty, hmoving, hpwm⟩ := hrest
  have hdark : t.motion.dark :=
    ⟨congrArg Drv.pwm hdrv, congrArg Drv.brk hdrv, hpwm, fun v => by simp [State.motion, hstr, Str.fresh],
      fun l => by simp [State.motion, hlgt, Lgt.fresh]⟩
  have hflag : t.drv.interlock = t.wch.moving := by rw [hdrv, hmoving]; rfl
  refine ⟨fun _ => t.outputsOk_of_dark hdark, fun _ => t.dutiesOk_iff.2 ⟨?_, ?_, ?_⟩,
    fun _ => ⟨hflag, fun _ => ⟨hflag, ?_⟩⟩⟩
  · rw [hdrv]
    exact ⟨le_rfl, le_rfl, le_rfl, .inl rfl⟩
  · rw [hduty]
    exact Nat.zero_le _
  · rw [hduty, hmoving]
    decide
  · rw [hmoving]
    exact nofun

theorem State.fullReset_keepsDriven (kind : FullResetKind) (strap : Bool) : s.keepsDriven (s.fullReset kind strap) :=
  s.keepsDriven_of_reset rfl rfl rfl ⟨rfl, rfl, rfl⟩

theorem State.softReset_keepsDriven (strap : Bool) : s.keepsDriven (s.softReset strap) :=
  s.keepsDriven_of_reset (s.softReset_drv strap) (s.softReset_str strap) (s.softReset_lgt strap) ⟨rfl, rfl, rfl⟩

end

end Sys2Proof.Machine
end

section
/-! PROOFS. O5 and O6: every command keeps the outputs within what may be driven, and the duties within their caps. -/

namespace Sys2Proof.Machine

variable {s t u : State}

/-! ### The commands that drive, and the resets -/

/-- An outcome of `s` keeps what O5 and O6 ask. -/
def keepsDriven (s : State) (o : Host.Outcome State Fault Refusal) : Prop :=
  ∀ t, o = .next t → s.keepsDriven t

theorem keepsDriven_completed (h : s.keepsDriven u) : keepsDriven s (completed u) := by
  rintro _ ⟨⟩
  exact ⟨h.outputs, h.duties, h.interlock⟩

theorem State.keepsDriven.rfl : s.keepsDriven s := State.yields.rfl.keepsDriven

theorem State.reach_yields (s : State) (now : Nat) : s.yields (s.reach now) := .of_eq rfl rfl

theorem State.tick_yields (s : State) : s.yields s.tick := .of_eq rfl rfl

theorem State.wakeSource_yields (s : State) : s.yields s.wakeSource := .of_eq rfl rfl

/-- The clock is none of what O5 and O6 read. -/
theorem State.keepsDriven_of_reach {now : Nat} (h : (s.reach now).keepsDriven t) : s.keepsDriven t :=
  ⟨h.outputs, h.duties, h.interlock⟩

theorem drives_keepsDriven (c : Instr) (hc : drives c = true) (s : State) : keepsDriven s (exec c s) := by
  cases c
  all_goals try exact Bool.noConfusion hc
  case driveStep => exact keepsDriven_completed (State.keepsDriven_of_reach (State.driveStep_keepsDriven _))
  case servoFrame =>
    exact keepsDriven_completed (State.keepsDriven_of_reach (s.reach s.str.nextFrame).servoFrame_yields.keepsDriven)
  case lightFrameBoundary =>
    exact keepsDriven_completed (State.keepsDriven_of_reach (s.reach s.lgt.nextFrame).lightFrame_yields.keepsDriven)
  case winchStep =>
    have h := (s.reach s.wch.nextStep).restartWinchTimer.winchWork_keepsDriven
    exact keepsDriven_completed ⟨h.outputs, h.duties, h.interlock⟩
  case orderStarved =>
    simp only [exec, execOrderStarved]
    split
    · exact keepsDriven_completed s.winchWork_keepsDriven
    · exact keepsDriven_completed .rfl
  case orderTimeout | retryPauseEnd | drumCheckStall =>
    simp only [exec, execOrderTimeout, execRetryPauseEnd, execDrumCheckStall]
    split
    · exact keepsDriven_completed (State.keepsDriven_of_reach (State.winchWork_keepsDriven _))
    · exact keepsDriven_completed .rfl
  case currentCheckStall =>
    simp only [exec, execCurrentCheckStall]
    split
    · split
      · exact keepsDriven_completed (State.keepsDriven_of_reach (State.winchWork_keepsDriven _))
      · exact keepsDriven_completed .rfl
    · exact keepsDriven_completed .rfl

theorem resets_keepsDriven (c : Instr) (hc : resets c = true) (s : State) : keepsDriven s (exec c s) := by
  cases c
  all_goals try exact Bool.noConfusion hc
  case powerOnReset | brownOutReset | pinReset => exact keepsDriven_completed (s.fullReset_keepsDriven _ _)
  case reset params =>
    apply keepsDriven_completed
    obtain ⟨st, d, e⟩ | ⟨-, e⟩ :=
        s.takeCommand_cases (params.bytes.length == 0) false noData (State.softReset · params.strap) <;> rw [e]
    · exact (s.wakeSource_yields.answered _ _).keepsDriven
    · have h := s.wakeSource.softReset_keepsDriven params.strap
      exact ⟨h.outputs, h.duties, h.interlock⟩

/-! ### Every other command -/

/-- An outcome of `s` leaves what is driven, or stops it. -/
def yieldsTo (s : State) (o : Host.Outcome State Fault Refusal) : Prop := ∀ t, o = .next t → s.yields t

theorem yieldsTo_completed (h : s.yields u) : yieldsTo s (completed u) := by
  rintro _ ⟨⟩
  exact h.trans (.of_eq rfl rfl)

/-- An expiry, whose rule starts from the moment it is due. -/
theorem yieldsTo_reached {now : Nat} (h : (s.reach now).yields u) : yieldsTo s (completed u) :=
  yieldsTo_completed ((s.reach_yields now).trans h)

theorem yieldsTo_taken {ok ex : Bool} {al : State → List Byte} {owner : State → State}
    (h : s.wakeSource.yields (owner s.wakeSource)) : yieldsTo s (completed (s.takeCommand ok ex al owner)) := by
  apply yieldsTo_completed
  obtain ⟨st, d, e⟩ | ⟨-, e⟩ := s.takeCommand_cases ok ex al owner <;> rw [e]
  · exact s.wakeSource_yields.answered _ _
  · exact s.wakeSource_yields.trans h

theorem exec_yieldsTo (c : Instr) (hd : drives c = false) (hr : resets c = false) (s : State) :
    yieldsTo s (exec c s) := by
  by_cases hc : quiet c = true
  · exact fun t h => .of_eases (quiet_easesMotion c hc hd s t h)
      (quiet_leavesStanding c hc s t h ▸ Standing.admits_of_eq rfl rfl rfl)
  have hstays : yieldsTo s (completed s) := yieldsTo_completed .rfl
  cases c
  all_goals try exact absurd rfl hc
  all_goals try exact Bool.noConfusion hr
  case sampleSet raw =>
    exact yieldsTo_completed ((s.monitored_yields raw).trans (State.protSample_yields _ _ _))
  case warnEntryComplete | warnExitComplete | cutTimerComplete | critTimerComplete | rearmTimerComplete =>
    exact yieldsTo_completed (s.completeDwell_yields _)
  case ocTripAssert =>
    have hline : s.yields (s.withLines { s.lines with ocTrip := true }) := .of_eq rfl rfl
    simp only [exec, execOcTripAssert]
    split
    · exact hstays
    split
    · exact yieldsTo_completed (hline.trans (State.hardTrip_yields _))
    split
    next hsw => exact yieldsTo_completed (hline.trans (State.abortPrecharge_yields _ (eq_of_beq hsw ▸ nofun)))
    next => exact yieldsTo_completed hline
  case prechargeExpiry =>
    simp only [exec, execPrechargeExpiry]
    split
    next hsw =>
      have hne : (s.reach (s.prot.prechargeEnd.getD s.now)).prot.sw ≠ .closed := hsw ▸ nofun
      split
      · exact yieldsTo_reached (State.closeSwitch_yields _ hne)
      · exact yieldsTo_reached (State.failPrecharge_yields _ hne)
    next => exact hstays
  case lockoutClear => exact yieldsTo_taken (State.lockoutClear_yields _)
  case benchInject => exact yieldsTo_taken (State.benchInject_yields _ _)
  case halt => exact yieldsTo_taken ((State.haltWith_yields _ false).answered _ _)
  case sleep => exact yieldsTo_taken (State.sleepRule_yields _)
  case benchDry => exact yieldsTo_taken (State.benchDryRule_yields _)
  case benchWet => exact yieldsTo_taken (State.benchWetRule_yields _)
  case load => exact yieldsTo_taken (State.loadRule_yields _ _)
  case start => exact yieldsTo_taken (State.startRule_yields _)
  case loadEnd =>
    simp only [exec, execLoadEnd]
    split
    · split
      next hrun => exact yieldsTo_reached (State.finishLoad_yields _ _ (eq_of_beq hrun))
      next => exact hstays
    · exact hstays
  case wakeTimerExpiry =>
    simp only [exec, execWakeTimerExpiry]
    split
    · split
      next hrun => exact yieldsTo_reached (State.endWake_yields _ (eq_of_beq hrun))
      next => exact hstays
    · exact hstays
  case armingTimerExpiry =>
    simp only [exec, execArmingTimerExpiry]
    split
    · split
      · exact yieldsTo_reached (State.enterRunning_yields _)
      · exact hstays
    · exact hstays
  case idleSleepExpiry =>
    simp only [exec, execIdleSleepExpiry]
    split
    · split
      · exact yieldsTo_reached (State.enterSleep_yields _ _)
      · exact hstays
    · exact hstays

theorem exec_keepsDriven (c : Instr) (s : State) : keepsDriven s (exec c s) := by
  cases hd : drives c with
  | true => exact drives_keepsDriven c hd s
  | false =>
    cases hr : resets c with
    | true => exact resets_keepsDriven c hr s
    | false => exact fun t h => (exec_yieldsTo c hd hr s t h).keepsDriven

theorem step_keepsDriven (h : step s = .next t) : s.keepsDriven t := by
  obtain rfl | ⟨c, rest, h⟩ := step_next h
  · exact s.tick_yields.keepsDriven
  · have hkept := exec_keepsDriven c (s.withPending rest) t h
    exact ⟨hkept.outputs, hkept.duties, hkept.interlock⟩

/-! ### The obligations -/

/-- Settles O5: what drives a line asks for its release, and an operation that takes the release away clears the line. -/
theorem outputsOnlyWhileAllowed : Obligations.OutputsOnlyWhileAllowed :=
  fun _ _ hok h => (step_keepsDriven h).outputs hok

/-- Settles O6: the drive and winch steps form their duties within the caps, a rise of the moving flag clamps the drive,
and every other command leaves the duties or makes them 0. -/
theorem dutiesWithinCaps : Obligations.DutiesWithinCaps :=
  fun _ _ h => ⟨(step_keepsDriven h).duties, (step_keepsDriven h).interlock⟩

end Sys2Proof.Machine
end

section
/-! PROOFS. O58: the mode, the axles, the aims and the pulses of a servo frame (R81 to R88). -/

namespace Sys2Proof.Machine

/-! ### The mode and the axles (R82 to R84) -/

/-- The mode asked for is taken with the steering near its neutral, and waits otherwise (R82). -/
theorem modeAfter_eq (band : Nat) (steer : Int) (mode wanted : SteerMode) :
    modeAfter band steer mode wanted =
      (if steer.natAbs ≤ band then wanted else mode,
        if steer.natAbs ≤ band ∨ wanted = mode then none else some wanted) := by
  unfold modeAfter modeRequest
  by_cases hw : wanted = mode
  · simp [hw]
  · by_cases hn : steer.natAbs ≤ band <;> simp [hw, hn]

theorem axlesOf_front (c : Settings) (mode : SteerMode) (steer : Int) (share : Nat) :
    (axlesOf c mode steer share).1 = if mode = .rear then 0 else steer := by
  cases mode <;> rfl

theorem axlesOf_rear (c : Settings) (mode : SteerMode) (steer : Int) (share : Nat) :
    (axlesOf c mode steer share).2 =
      match mode with
      | .front => 0
      | .rear => steer * c.rearDir
      | .counter => (-steer * share).tdiv 100
      | .crab => (steer * c.rearShare).tdiv 100 := by
  cases mode <;> rfl

/-! ### One servo (R85 to R88) -/

/-- With its bounds the right way round the aim is the trimmed pulse limited to them (R86). -/
theorem aimOf_eq {c : Settings} {v : Servo} (h : c.servoMin v ≤ c.servoMax v) (pulse : Int) :
    aimOf c v pulse = max (c.servoMin v : Int) (min (c.servoMax v) (pulse + c.servoTrim v)) := by
  have h' : (c.servoMin v : Int) ≤ c.servoMax v := Int.ofNat_le.2 h
  rw [aimOf, min_eq_left h', max_eq_right h', clampInt]

/-- An absent pulse, or a slew of 0, takes the aim at once (R87). -/
theorem slewPulse_at_once {slew : Nat} {old : Option Int} (h : old = none ∨ slew = 0) (aim : Int) :
    slewPulse slew aim old = aim := by
  unfold slewPulse
  split
  · rfl
  · rw [h.resolve_left nofun]
    rfl

/-- A pulse present moves toward the aim by at most the slew (R87). -/
theorem slewPulse_some {slew : Nat} (h : slew ≠ 0) (aim e : Int) :
    slewPulse slew aim (some e) = if aim < e then max aim (e - slew) else min aim (e + slew) := by
  unfold slewPulse signInt
  simp only [Bool.or_eq_true, beq_iff_eq, decide_eq_true_eq]
  split_ifs <;> omega

/-- A servo asked for the pulse `x`, trim added, comes to the record `new` from the emitted pulse `old` (R86 to R88).
The aim is told where the bounds are the right way round. -/
def ServoRecord.steered (c : Settings) (v : Servo) (held : Bool) (x : Int) (old : Option Int) (new : ServoRecord) :
    Prop :=
  c.servoMin v ≤ c.servoMax v → ∃ aim : Int, new.aim = some aim ∧
    aim = max (c.servoMin v : Int) (min (c.servoMax v) x) ∧ new.boundHit = decide (x ≠ aim) ∧
    (held = true → new.emitted = old) ∧ (held = false → old = none ∨ c.servoSlew = 0 → new.emitted = some aim) ∧
    (∀ e : Int, old = some e → held = false → c.servoSlew ≠ 0 →
      new.emitted = some (if aim < e then max aim (e - c.servoSlew) else min aim (e + c.servoSlew)))

theorem servoAfter_steered (c : Settings) (held sent : Bool) (v : Servo) (pulse : Int) (r : ServoRecord) :
    (servoAfter c held sent v pulse r).steered c v held (pulse + c.servoTrim v) r.emitted := by
  have hemitted : (servoAfter c held sent v pulse r).emitted =
      if held then r.emitted else some (slewPulse c.servoSlew (aimOf c v pulse) r.emitted) := rfl
  have hbound : (servoAfter c held sent v pulse r).boundHit = decide (pulse + c.servoTrim v ≠ aimOf c v pulse) :=
    Bool.eq_iff_iff.2 (bne_iff_ne.trans decide_eq_true_iff.symm)
  refine fun h => ⟨aimOf c v pulse, rfl, aimOf_eq h pulse, hbound, fun hh => ?held, fun hh ho => ?atOnce,
    fun e he hh hs => ?slews⟩
  case held => rw [hemitted, if_pos hh]
  case atOnce => rw [hemitted, hh, slewPulse_at_once ho, if_neg nofun]
  case slews => rw [hemitted, hh, he, slewPulse_some hs, if_neg nofun]

/-- The pulses of the gear and of the two differentials (R85). -/
theorem rawPulse_gear (c : Settings) (front rear : Int) (gear : Gear) (diff : Int) :
    rawPulse c front rear gear diff .gear = (if gear = .high then c.gearHighUs else c.gearLowUs : Nat) := by
  cases gear <;> rfl

theorem rawPulse_frontDiff (c : Settings) (front rear : Int) (gear : Gear) (diff : Int) :
    rawPulse c front rear gear diff .frontDiff =
      (if diff = 1 ∨ diff = 3 then c.frontLockUs else c.frontOpenUs : Nat) := by
  rw [Nat.cast_ite]
  exact if_congr (by simp) rfl rfl

theorem rawPulse_rearDiff (c : Settings) (front rear : Int) (gear : Gear) (diff : Int) :
    rawPulse c front rear gear diff .rearDiff =
      (if diff = 2 ∨ diff = 3 then c.rearLockUs else c.rearOpenUs : Nat) := by
  rw [Nat.cast_ite]
  exact if_congr (by simp) rfl rfl

section
variable (s : State)

/-- A servo frame at its moment (R81). -/
theorem exec_servoFrame :
    exec .servoFrame s = .next ((s.reach s.str.nextFrame).withStr
      (if s.countedClosed then (s.reach s.str.nextFrame).activeFrame else (s.reach s.str.nextFrame).idleFrame)).settle := rfl

theorem servoFrame_frame (x : Str) (now : Nat) : changesOnly [.now, .str] s ((s.reach now).withStr x).settle := by
  refine changesOnly_settle ?_ rfl rfl
  intro b hb _ _
  cases b <;> first | rfl | exact absurd (by simp) hb

/-! ### An active frame (R81) -/

theorem State.activeFrame_mode :
    let wanted := SteerMode.ofValue (s.valueOf .steerMode)
    let near := (s.valueOf .steer).natAbs ≤ s.cfg.modeBand
    s.activeFrame.mode = (if near then wanted else s.str.mode) ∧
      s.activeFrame.pendingMode = (if near ∨ wanted = s.str.mode then none else some wanted) :=
  Prod.mk.inj (modeAfter_eq s.cfg.modeBand (s.valueOf .steer) s.str.mode (SteerMode.ofValue (s.valueOf .steerMode)))

/-- The rear share fades with the drive duty in COUNTER (R84). -/
theorem State.activeFrame_shareEff :
    s.activeFrame.shareEff =
      if s.activeFrame.mode = .counter then s.cfg.rearShare - s.drv.applied.natAbs * s.cfg.rearFade / 1000
      else s.cfg.rearShare :=
  if_congr beq_iff_eq rfl rfl

/-- The pulse an active frame asks of a servo, before trim and bounds (R85). -/
def State.framePulse (s : State) (v : Servo) : Int :=
  rawPulse s.cfg s.activeFrame.front s.activeFrame.rear s.drv.gear (s.valueOf .diff) v

theorem State.activeFrame_servo (v : Servo) :
    s.activeFrame.servo.get v =
      servoAfter s.cfg s.bgt.servoShort (s.rsc.run != .benchDry) v (s.framePulse v) (s.str.servo.get v) :=
  PerServo.get_build _ v

/-- Each servo after an active frame, whatever spells the pulse it was asked for. -/
theorem State.activeFrame_steered {v : Servo} {pulse : Int} (h : s.framePulse v = pulse) :
    (s.activeFrame.servo.get v).steered s.cfg v s.bgt.servoShort (pulse + s.cfg.servoTrim v)
        (s.str.servo.get v).emitted ∧
      (s.activeFrame.servo.get v).line =
        if s.rsc.run = .benchDry then none else (s.activeFrame.servo.get v).emitted := by
  rw [s.activeFrame_servo v, h]
  refine ⟨servoAfter_steered _ _ _ _ _ _, ?_⟩
  by_cases hdry : s.rsc.run = .benchDry
  · rw [if_pos hdry, hdry]
    rfl
  · rw [if_neg hdry]
    exact if_pos (bne_iff_ne.2 hdry)

end

/-- Settles O58: the mode by `modeAfter_eq`, the axles by its case, each servo by `servoAfter_steered`. -/
theorem servoFrameSteers : Obligations.ServoFrameSteers := by
  intro s
  constructor
  · intro hopen
    refine ⟨_, exec_servoFrame s, ?_⟩
    rw [hopen]
    exact ⟨rfl, rfl, rfl, fun v => PerServo.get_build _ v, rfl, rfl, servoFrame_frame s _ _⟩
  · intro hclosed
    refine ⟨_, exec_servoFrame s, ?_⟩
    rw [hclosed]
    have hsteered (v : Servo) (pulse : Int) :=
      (s.reach s.str.nextFrame).activeFrame_steered (v := v) (pulse := pulse)
    refine ⟨rfl, rfl, rfl, (s.reach s.str.nextFrame).activeFrame_mode, rfl,
      (s.reach s.str.nextFrame).activeFrame_shareEff, axlesOf_front .., ?rear, fun v => ?servo, servoFrame_frame s _ _⟩
    case rear => exact (axlesOf_rear ..).trans rfl
    case servo =>
      cases v with
      | frontSteer => exact hsteered .frontSteer _ rfl
      | rearSteer => exact hsteered .rearSteer _ rfl
      | gear => exact hsteered .gear _ (rawPulse_gear ..)
      | frontDiff => exact hsteered .frontDiff _ (rawPulse_frontDiff ..)
      | rearDiff => exact hsteered .rearDiff _ (rawPulse_rearDiff ..)

end Sys2Proof.Machine
end

section
/-! PROOFS. The winch queue in order (R101, R113): what may become of it where nothing is taken up, and what a start, a post
and a reap make of it. -/

namespace Sys2Proof.Machine

variable {s t u : State}

/-! ### Orders in the post list -/

/-- The oldest order of the post list that meets a condition, with its slot (R101). -/
def Wch.oldestWith (w : Wch) (p : Order → Bool) : Option (Fin 4 × Order) :=
  w.postList.findSome? fun i => (w.slots.get i).bind fun o => if p o then some (i, o) else none

theorem Wch.oldestPosted_eq (w : Wch) : w.oldestPosted = w.oldestWith (·.phase == .posted) := rfl

theorem Wch.oldestFinished_eq (w : Wch) : w.oldestFinished = w.oldestWith Order.finished := rfl

/-- A slot is passed over where its order does not meet the condition. -/
theorem Wch.passedOver_iff (w : Wch) (p : Order → Bool) (j : Fin 4) :
    ((w.slots.get j).bind fun o => if p o then some (j, o) else none) = none ↔ (w.slots.get j).any p = false := by
  cases w.slots.get j <;> simp

theorem Wch.oldestWith_eq_none (w : Wch) (p : Order → Bool) :
    w.oldestWith p = none ↔ ∀ j ∈ w.postList, (w.slots.get j).any p = false := by
  simp only [Wch.oldestWith, List.findSome?_eq_none_iff, Wch.passedOver_iff]

/-- The oldest one stands behind none that meets the condition. -/
theorem Wch.oldestWith_eq_some (w : Wch) (p : Order → Bool) (i : Fin 4) (o : Order) :
    w.oldestWith p = some (i, o) ↔
      ∃ before after, w.postList = before ++ i :: after ∧ w.slots.get i = some o ∧ p o = true ∧
        ∀ j ∈ before, (w.slots.get j).any p = false := by
  have hfound (j : Fin 4) : ((w.slots.get j).bind fun q => if p q then some (j, q) else none) = some (i, o) ↔
      j = i ∧ w.slots.get i = some o ∧ p o = true := by
    rw [Option.bind_eq_some_iff]
    constructor
    · rintro ⟨q, hq, h⟩
      obtain ⟨hp, he⟩ := Option.ite_none_right_eq_some.1 h
      cases he
      exact ⟨rfl, hq, hp⟩
    · rintro ⟨rfl, ho, hp⟩
      exact ⟨o, ho, if_pos hp⟩
  simp only [Wch.oldestWith, List.findSome?_eq_some_iff, hfound, Wch.passedOver_iff]
  constructor
  · rintro ⟨before, j, after, hlist, ⟨rfl, ho, hp⟩, hbefore⟩
    exact ⟨before, after, hlist, ho, hp, hbefore⟩
  · rintro ⟨before, after, hlist, ho, hp, hbefore⟩
    exact ⟨before, i, after, hlist, ⟨rfl, ho, hp⟩, hbefore⟩

/-- In a list without repeats a member has one place. -/
theorem nodup_place {α : Type} {l before after before' after' : List α} {x : α} (hl : l.Nodup)
    (h : l = before ++ x :: after) (h' : l = before' ++ x :: after') : before' = before ∧ after' = after := by
  rw [h] at hl h'
  obtain ⟨-, hcons, hdisjoint⟩ := List.nodup_append.1 hl
  obtain ⟨hafter, -⟩ := List.nodup_cons.1 hcons
  have hbefore : x ∉ before := fun hx => hdisjoint x hx x (by simp) rfl
  obtain ⟨h1, -, h2⟩ := (List.append_cons_inj_of_notMem hbefore hafter).1 h'
  exact ⟨h1.symm, h2.symm⟩

/-! ### Where nothing is taken up -/

/-- From `s` to `t` the queue has taken nothing up: the post list and the occupied slots are the same, no order has become
ACTIVE, none that had finished goes on, and WINCH has its holder still while an order is ACTIVE. -/
structure State.queueEbbs (s t : State) : Prop where
  postList : t.wch.postList = s.wch.postList
  occupied : ∀ i, t.wch.slots.get i ≠ none ↔ s.wch.slots.get i ≠ none
  active : ∀ i, t.wch.activeAt i → s.wch.activeAt i
  finished : ∀ i, s.wch.finishedAt i → t.wch.finishedAt i
  holder : ∀ i, t.wch.activeAt i → t.holderOf .winch = s.holderOf .winch

/-- A queue in order stays so where it takes nothing up. -/
theorem State.queueOk.ebbed (hq : s.queueOk) (h : s.queueEbbs t) : t.queueOk := by
  obtain ⟨hnodup, hocc, hbefore, hone, hap⟩ := hq
  unfold State.queueOk
  rw [h.postList]
  refine ⟨hnodup, fun i => (hocc i).trans (h.occupied i).symm, fun before i after hl hi j hj => ?_,
    fun i j hi hj => hone i j (h.active i hi) (h.active j hj), fun i hi => (h.holder i hi).trans (hap i (h.active i hi))⟩
  exact h.finished j (hbefore before i after hl (h.active i hi) j hj)

/-- The same slots, post list and holder of WINCH. -/
theorem State.queueEbbs.of_eq (hslots : t.wch.slots = s.wch.slots) (hpost : t.wch.postList = s.wch.postList)
    (hh : t.holderOf .winch = s.holderOf .winch) : s.queueEbbs t where
  postList := hpost
  occupied i := by rw [hslots]
  active i := by unfold Wch.activeAt; rw [hslots]; exact id
  finished i := by unfold Wch.finishedAt; rw [hslots]; exact id
  holder _ _ := hh

/-- A record replaced in its slot: by one that is ACTIVE only where the old one was, and that has finished where the old
one had. -/
theorem State.queueEbbs.of_set {i : Fin 4} {o p : Order} (ho : s.wch.slots.get i = some o)
    (hslots : t.wch.slots = s.wch.slots.set i (some p)) (hpost : t.wch.postList = s.wch.postList)
    (hact : p.isActive = true → o.isActive = true) (hfin : o.finished = true → p.finished = true)
    (hh : ∀ j, t.wch.activeAt j → t.holderOf .winch = s.holderOf .winch) : s.queueEbbs t := by
  have hother (j : Fin 4) (hj : j ≠ i) : t.wch.slots.get j = s.wch.slots.get j := by
    rw [hslots, PerSlot.get_set_other _ _ _ _ hj]
  have hsame : t.wch.slots.get i = some p := by rw [hslots, PerSlot.get_set_same]
  refine ⟨hpost, fun j => ?_, fun j hj => ?_, fun j hj => ?_, hh⟩ <;> by_cases hji : j = i
  · simp [hji, hsame, ho]
  · rw [hother j hji]
  · subst hji
    obtain ⟨q, hq, hqa⟩ := hj
    cases hsame.symm.trans hq
    exact ⟨o, ho, hact hqa⟩
  · unfold Wch.activeAt at hj ⊢
    rwa [← hother j hji]
  · subst hji
    obtain ⟨q, hq, hqf⟩ := hj
    cases ho.symm.trans hq
    exact ⟨p, hsame, hfin hqf⟩
  · unfold Wch.finishedAt at hj ⊢
    rwa [hother j hji]

/-- A preemption takes nothing up, whatever becomes of WINCH's holder (R113). -/
theorem preempted.queueEbbs (h : preempted s t) : s.queueEbbs t := by
  obtain ⟨hnot, hpost, -, hnone, hsome, -⟩ := h
  have hh (i : Fin 4) (hi : t.wch.activeAt i) : t.holderOf .winch = s.holderOf .winch := absurd hi (hnot i)
  cases ha : s.wch.active with
  | none =>
    obtain ⟨hslots, -⟩ := hnone ha
    exact ⟨hpost, fun i => by rw [hslots], fun i hi => absurd hi (hnot i),
      fun i => by unfold Wch.finishedAt; rw [hslots]; exact id, hh⟩
  | some a =>
    obtain ⟨i, o, r⟩ := a
    obtain ⟨ho, -, -⟩ := s.wch.active_spec i o r ha
    obtain ⟨hslots, -⟩ := hsome i o r ha
    exact .of_set ho hslots hpost nofun (fun _ => rfl) hh

/-! ### States that keep the queue -/

/-- From `s` to `t` a queue in order stays so. -/
def State.keepsQueue (s t : State) : Prop := s.queueOk → t.queueOk

theorem State.keepsQueue.trans (h : s.keepsQueue t) (h' : t.keepsQueue u) : s.keepsQueue u := fun hq => h' (h hq)

theorem State.queueEbbs.keepsQueue (h : s.queueEbbs t) : s.keepsQueue t := fun hq => hq.ebbed h

/-- What the condition on the queue reads of a state: the slots, the post list and the holder of WINCH. -/
structure Roster where
  slots : PerSlot (Option Order)
  postList : List (Fin 4)
  holder : Holder

def State.roster (s : State) : Roster :=
  { slots := s.wch.slots, postList := s.wch.postList, holder := s.holderOf .winch }

theorem State.keepsQueue.of_roster (h : t.roster = s.roster) : s.keepsQueue t :=
  (State.queueEbbs.of_eq (congrArg Roster.slots h) (congrArg Roster.postList h) (congrArg Roster.holder h)).keepsQueue

theorem State.keepsQueue.rfl : s.keepsQueue s := id

theorem State.withRsc_roster (s : State) (x : Rsc) : (s.withRsc x).roster = s.roster := rfl

theorem State.withAcp_roster (s : State) (x : Acp) : (s.withAcp x).roster = s.roster := rfl

theorem State.respond_roster (s : State) (st : Status) (d : List Byte) : (s.respond st d).roster = s.roster := rfl

/-- From a state with the same roster on. -/
theorem State.keepsQueue.of_moved {v : State} (h : v.keepsQueue t) (hv : v.roster = s.roster) : s.keepsQueue t :=
  (State.keepsQueue.of_roster hv).trans h

/-- And to a state with the same roster. -/
theorem State.keepsQueue.to_moved {v : State} (h : s.keepsQueue v) (hv : t.roster = v.roster) : s.keepsQueue t :=
  h.trans (.of_roster hv)

theorem State.keepsQueue.answered (h : s.keepsQueue t) (st : Status) (d : List Byte) : s.keepsQueue (t.respond st d) :=
  h.to_moved (t.respond_roster st d)

/-- An empty queue is in order. -/
theorem State.queueOk_of_empty (hslots : ∀ i, s.wch.slots.get i = none) (hpost : s.wch.postList = []) : s.queueOk := by
  have hnot (i : Fin 4) : ¬s.wch.activeAt i := by
    rintro ⟨o, ho, -⟩
    exact nomatch (hslots i).symm.trans ho
  refine ⟨by simp [hpost], fun i => by simp [hpost, hslots i], fun _ i _ _ hi => absurd hi (hnot i),
    fun i _ hi => absurd hi (hnot i), fun i hi => absurd hi (hnot i)⟩

section
variable (s)

/-! ### The end of an order -/

/-- The end of the order in a slot takes nothing up (R106). -/
theorem State.endOrder_queueEbbs {i : Fin 4} {o p : Order} (ho : s.wch.slots.get i = some o) (result : OrderResult) :
    s.queueEbbs (s.endOrder i p result) := by
  obtain ⟨hslots, hpost, -⟩ := s.endOrder_queue i p result
  exact .of_set ho hslots hpost (by simp) (by simp) fun _ _ => s.endOrder_holderOf i p result .winch

theorem State.endActive_keepsQueue (result : OrderResult) : s.keepsQueue (s.endActive result) := by
  unfold State.endActive
  split
  next i o r ha =>
    obtain ⟨ho, -, -⟩ := s.wch.active_spec i o r ha
    exact (s.endOrder_queueEbbs ho result).keepsQueue
  next => exact .rfl

/-- The ACTIVE order's record replaced takes nothing up. -/
theorem State.putOrder_queueEbbs {i : Fin 4} {o : Order} {r : OrderRun} (ha : s.wch.active = some (i, o, r))
    (p : Order) :
    s.queueEbbs (s.withWch (s.wch.putOrder i p)) := by
  obtain ⟨ho, hphase, -⟩ := s.wch.active_spec i o r ha
  exact .of_set ho rfl rfl (fun _ => by simp [Order.isActive, Order.run?, hphase])
    (by simp [Order.finished, hphase]) fun _ _ => rfl

/-! ### The start of an order (R104) -/

/-- A slot of the post list whose order is neither POSTED nor ACTIVE holds one that has finished. -/
theorem State.queueOk.finishedAt (hq : s.queueOk) {j : Fin 4} (hj : j ∈ s.wch.postList)
    (hposted : (s.wch.slots.get j).any (·.phase == .posted) = false) (hactive : ¬s.wch.activeAt j) :
    s.wch.finishedAt j := by
  obtain ⟨-, hocc, -⟩ := hq
  obtain ⟨o, ho⟩ := Option.ne_none_iff_exists'.1 ((hocc j).1 hj)
  refine ⟨o, ho, ?_⟩
  cases hphase : o.phase with
  | posted => simp [ho, hphase] at hposted
  | active r => exact absurd ⟨o, ho, by simp [Order.isActive, Order.run?, hphase]⟩ hactive
  | done => simp [Order.finished, hphase]
  | failed => simp [Order.finished, hphase]

/-- The oldest POSTED order made ACTIVE, with AP holding WINCH and none ACTIVE, leaves the queue in order: what was posted
before it has finished (R101, R104). -/
theorem State.putRun_keepsQueue {i : Fin 4} {o : Order} (r : OrderRun) (hnone : s.wch.active = none)
    (hap : s.holderOf .winch = .ap) (holdest : s.wch.oldestPosted = some (i, o)) :
    s.keepsQueue (s.withWch (s.wch.putRun i o r)) := by
  intro hq
  have hnot := s.wch.active_eq_none_iff.1 hnone
  obtain ⟨before, after, hlist, ho, -, hbefore⟩ := (s.wch.oldestWith_eq_some _ i o).1 holdest
  have hother (j : Fin 4) (hj : j ≠ i) :
      (s.withWch (s.wch.putRun i o r)).wch.slots.get j = s.wch.slots.get j := PerSlot.get_set_other _ _ _ _ hj
  have hactive (j : Fin 4) (hj : (s.withWch (s.wch.putRun i o r)).wch.activeAt j) : j = i := by
    by_contra hne
    unfold Wch.activeAt at hj
    rw [hother j hne] at hj
    exact hnot j hj
  have hfinished := fun j => hq.finishedAt s (j := j)
  obtain ⟨hnodup, hocc, -, -, -⟩ := hq
  refine ⟨hnodup, fun j => (hocc j).trans ?_, fun before' j after' hlist' hj k hk => ?_,
    fun j k hj hk => (hactive j hj).trans (hactive k hk).symm, fun _ _ => hap⟩
  · by_cases hj : j = i
    · simp [hj, ho, Wch.putRun, Wch.putOrder]
    · rw [hother j hj]
  · obtain rfl := hactive j hj
    obtain ⟨rfl, -⟩ := nodup_place hnodup hlist hlist'
    have hmem : k ∈ s.wch.postList := hlist ▸ List.mem_append_left _ hk
    obtain ⟨q, hqk, hfin⟩ := hfinished k hmem (hbefore k hk) (hnot k)
    have hne : k ≠ j := by
      rintro rfl
      obtain ⟨-, -, hdisjoint⟩ := List.nodup_append.1 (hlist ▸ hnodup)
      exact hdisjoint k hk k (by simp) rfl
    exact ⟨q, (hother k hne).trans hqk, hfin⟩

theorem State.startOrder_keepsQueue : s.keepsQueue s.startOrder := by
  unfold State.startOrder
  split
  next hmay =>
    simp only [State.mayStartOrder, Bool.and_eq_true, beq_iff_eq, Option.isNone_iff_eq_none] at hmay
    obtain ⟨⟨⟨-, hap⟩, hslot⟩, -⟩ := hmay
    have hnone : s.wch.active = none := by simp [Wch.active, hslot]
    split
    next i o holdest =>
      have hput := s.putRun_keepsQueue s.freshRun hnone hap holdest
      unfold State.activate
      dsimp only
      split
      · exact hput.trans (State.endOrder_queueEbbs _ (PerSlot.get_set_same _ _ _) _).keepsQueue
      · exact hput
    next => exact .rfl
  next => exact .rfl

/-! ### A post and a reap (R103, R115) -/

/-- An order not ACTIVE posted into an EMPTY slot comes last (R101, R103). -/
theorem State.post_keepsQueue {i : Fin 4} {o : Order} (hempty : s.wch.slots.get i = none) (ho : o.isActive = false) :
    s.keepsQueue (s.withWch (s.wch.post i o)) := by
  rintro ⟨hnodup, hocc, hbefore, hone, hap⟩
  have hfresh : i ∉ s.wch.postList := fun h => (hocc i).1 h hempty
  have hsame : (s.withWch (s.wch.post i o)).wch.slots.get i = some o := PerSlot.get_set_same _ _ _
  have hother (j : Fin 4) (hj : j ≠ i) :
      (s.withWch (s.wch.post i o)).wch.slots.get j = s.wch.slots.get j := PerSlot.get_set_other _ _ _ _ hj
  have hactive (j : Fin 4) (hj : (s.withWch (s.wch.post i o)).wch.activeAt j) : j ≠ i ∧ s.wch.activeAt j := by
    obtain ⟨p, hp, hpa⟩ := hj
    have hne : j ≠ i := by
      rintro rfl
      cases hsame.symm.trans hp
      exact absurd hpa (by simp [ho])
    exact ⟨hne, p, (hother j hne).symm.trans hp, hpa⟩
  refine ⟨?_, fun j => ?_, fun before j after hlist hj k hk => ?_,
    fun j k hj hk => hone j k (hactive j hj).2 (hactive k hk).2, fun j hj => hap j (hactive j hj).2⟩
  · exact List.nodup_append.2 ⟨hnodup, by simp, fun a ha b hb => by simp at hb; rintro rfl; exact hfresh (hb ▸ ha)⟩
  · by_cases hj : j = i
    · simp [hj, Wch.post, Wch.putOrder]
    · rw [hother j hj, ← hocc j]
      simp [Wch.post, hj]
  · obtain ⟨hne, hj⟩ := hactive j hj
    have hlist' : s.wch.postList ++ [i] = before ++ j :: after := hlist
    obtain rfl | ⟨rest, z, rfl⟩ := List.eq_nil_or_concat' after
    · exact absurd (by simpa using (List.append_inj' hlist' rfl).2) (Ne.symm hne)
    · rw [← List.cons_append, ← List.append_assoc] at hlist'
      have hold := (List.append_inj' hlist' rfl).1
      obtain ⟨p, hp, hfin⟩ := hbefore before j rest hold hj k hk
      have hki : k ≠ i := by
        rintro rfl
        exact nomatch hempty.symm.trans hp
      exact ⟨p, (hother k hki).trans hp, hfin⟩

/-- A slot whose order is not ACTIVE reaped leaves the order of the others (R115). -/
theorem State.reap_keepsQueue (i : Fin 4) : s.keepsQueue (s.withWch (s.wch.reap i)) := by
  rintro ⟨hnodup, hocc, hbefore, hone, hap⟩
  have hsame : (s.withWch (s.wch.reap i)).wch.slots.get i = none := PerSlot.get_set_same _ _ _
  have hother (j : Fin 4) (hj : j ≠ i) :
      (s.withWch (s.wch.reap i)).wch.slots.get j = s.wch.slots.get j := PerSlot.get_set_other _ _ _ _ hj
  have hactive (j : Fin 4) (hj : (s.withWch (s.wch.reap i)).wch.activeAt j) : s.wch.activeAt j := by
    obtain ⟨p, hp, hpa⟩ := hj
    have hne : j ≠ i := by
      rintro rfl
      exact nomatch hsame.symm.trans hp
    exact ⟨p, (hother j hne).symm.trans hp, hpa⟩
  refine ⟨hnodup.filter _, fun j => ?_, fun before j after hlist hj k hk => ?_,
    fun j k hj hk => hone j k (hactive j hj) (hactive k hk), fun j hj => hap j (hactive j hj)⟩
  · by_cases hj : j = i
    · simp [hj, Wch.reap]
    · rw [hother j hj, ← hocc j]
      simp [Wch.reap, hj]
  · have hmem : k ∈ s.wch.postList.filter (· != i) := by
      have hlist' : s.wch.postList.filter (· != i) = before ++ j :: after := hlist
      rw [hlist']
      exact List.mem_append_left _ hk
    obtain ⟨front, rest, hsplit, hfront, hrest⟩ := List.filter_eq_append_iff.1 hlist
    obtain ⟨skipped, back, rfl, -⟩ := List.filter_eq_cons_iff.1 hrest
    rw [← List.append_assoc] at hsplit
    have hk' : k ∈ front ++ skipped := List.mem_append_left _ (List.mem_of_mem_filter (hfront ▸ hk))
    obtain ⟨p, hp, hfin⟩ := hbefore _ j back hsplit (hactive j hj) k hk'
    have hki : k ≠ i := by simpa using (List.mem_filter.1 hmem).2
    exact ⟨p, (hother k hki).trans hp, hfin⟩

end

end Sys2Proof.Machine
end

section
/-! PROOFS. The winch queue under the operations of the machine: a new grant table, the stop events, the winch step, the
drum, a new working copy (R101, R113). -/

namespace Sys2Proof.Machine

variable {s t u : State}

section
variable (s)

/-! ### A new grant table, and the stop events (R113) -/

theorem State.preempt_keepsQueue : s.keepsQueue s.preempt := s.endActive_keepsQueue _

/-- A new grant table takes nothing up: an order ACTIVE as AP loses WINCH is preempted (R113). -/
theorem State.commitGrants_keepsQueue (g : Grt) : s.keepsQueue (s.commitGrants g) := by
  intro hq
  by_cases hnew : (g.fns.get .winch).holder = .ap
  · by_cases hold : s.holderOf .winch = .ap
    · obtain ⟨hsame, -, -⟩ := s.commitGrants_handedOver g
      have hh : (s.commitGrants g).holderOf .winch = s.holderOf .winch := by
        rw [State.commitGrants_holderOf, hnew, hold]
      obtain ⟨hwch, -, -⟩ := hsame hh
      exact hq.ebbed (.of_eq (by rw [hwch]) (by rw [hwch]) hh)
    · obtain ⟨-, -, -, -, hap⟩ := id hq
      have hnone : s.wch.active = none := s.wch.active_eq_none_iff.2 fun i hi => hold (hap i hi)
      exact hq.ebbed (preempted_of_inactive hnone (s.commitGrants_sameQueue g hnone)).queueEbbs
  · exact hq.ebbed (s.commitGrants_preempted g hq hnew).queueEbbs

theorem State.openSwitch_roster : s.openSwitch.roster = s.roster := by
  unfold State.openSwitch
  split <;> rfl

theorem State.haltWith_keepsQueue (b : Bool) : s.keepsQueue (s.haltWith b) :=
  fun hq => hq.ebbed (s.haltWith_preempted b hq).queueEbbs

theorem State.halt_keepsQueue : s.keepsQueue s.halt := s.haltWith_keepsQueue false

theorem State.enterSleep_keepsQueue (o : SleepOrigin) : s.keepsQueue (s.enterSleep o) :=
  (State.keepsQueue.of_roster s.openSwitch_roster).trans (State.commitGrants_keepsQueue _ _)

theorem State.enterCutoff_keepsQueue (c : CutCause) : s.keepsQueue (s.enterCutoff c) := by
  intro hq
  obtain ⟨-, -, -, -, -, -, hpreempted, -⟩ := cutOff_enterCutoff s c
  have hok : (s.enterCutoff c).settle.queueOk := hq.ebbed (hpreempted hq).queueEbbs
  exact hok

theorem State.enterLockout_keepsQueue : s.keepsQueue s.enterLockout :=
  fun hq => hq.ebbed (s.enterLockout_preempted hq).queueEbbs

theorem State.hardTrip_keepsQueue : s.keepsQueue s.hardTrip := by
  unfold State.hardTrip
  split
  · exact s.enterCutoff_keepsQueue _
  · exact s.enterCutoff_keepsQueue _
  · split
    · exact s.enterLockout_keepsQueue
    · exact .rfl
  · exact .rfl

/-! ### Precharge and start (R17 to R19, R159) -/

theorem State.prechargeFailed_keepsQueue : s.keepsQueue s.prechargeFailed := by
  unfold State.prechargeFailed
  split
  · exact s.halt_keepsQueue
  · exact .rfl

theorem State.abortPrecharge_keepsQueue : s.keepsQueue s.abortPrecharge :=
  .of_moved (State.prechargeFailed_keepsQueue _) rfl

theorem State.failPrecharge_keepsQueue : s.keepsQueue s.failPrecharge :=
  .of_moved (State.prechargeFailed_keepsQueue _) rfl

theorem State.requestPrecharge_keepsQueue : s.keepsQueue s.requestPrecharge := by
  unfold State.requestPrecharge
  split
  next =>
    split
    next => exact s.prechargeFailed_keepsQueue
    dsimp only
    split
    next => exact .of_moved (State.abortPrecharge_keepsQueue (s.withProt _)) rfl
    next => exact .rfl
  next => exact .rfl

theorem State.makeStart_keepsQueue : s.keepsQueue s.makeStart :=
  .of_moved (State.requestPrecharge_keepsQueue (s.withRsc _)) rfl

theorem State.closeSwitch_keepsQueue : s.keepsQueue s.closeSwitch := by
  have hclosed : s.keepsQueue (s.withProt { s.prot with sw := .closed, prechargeEnd := none }).prechargeSucceeded := by
    unfold State.prechargeSucceeded
    split <;> exact .of_roster rfl
  unfold State.closeSwitch
  dsimp only
  split
  · exact hclosed.trans (State.hardTrip_keepsQueue _)
  · exact hclosed

/-! ### The dwell timers and the sample set (R7) -/

theorem State.protTransition_keepsQueue (done : Dwell → Bool) (tapSeen : Bool) :
    s.keepsQueue (s.protTransition done tapSeen) := by
  unfold State.protTransition
  split
  · exact s.enterLockout_keepsQueue
  split
  · exact s.enterCutoff_keepsQueue _
  (repeat' split) <;> exact .rfl

theorem State.completeDwell_keepsQueue (k : Dwell) : s.keepsQueue (s.completeDwell k) := by
  unfold State.completeDwell
  split
  · exact .of_moved (State.protTransition_keepsQueue (s.reach _) _ _) rfl
  · exact .rfl

theorem State.protSample_keepsQueue (publishes tapSeen : Bool) : s.keepsQueue (s.protSample publishes tapSeen) := by
  unfold State.protSample
  split
  · exact .of_moved (State.protTransition_keepsQueue (s.withProt _) _ _) rfl
  · exact s.protTransition_keepsQueue _ _

/-! ### Run control, the bench and the end of a LOAD -/

theorem State.benchDryRule_keepsQueue : s.keepsQueue s.benchDryRule := by
  unfold State.benchDryRule State.enterDry
  split
  · split
    · exact (State.keepsQueue.of_moved (State.hardTrip_keepsQueue (s.enterBench .benchDry)) rfl).answered _ _
    · exact .of_roster rfl
  · exact .rfl

theorem State.benchWetRule_keepsQueue : s.keepsQueue s.benchWetRule := by
  unfold State.benchWetRule
  split
  next => exact .rfl
  split
  next => exact .rfl
  split
  next => exact .rfl
  next => exact (State.keepsQueue.of_moved (State.requestPrecharge_keepsQueue (s.enterBench _)) rfl).answered _ _

theorem State.startRule_keepsQueue : s.keepsQueue s.startRule := by
  unfold State.startRule
  split
  next => exact .rfl
  split
  next => exact .rfl
  split
  next => exact .rfl
  split
  next => exact .rfl
  next => exact s.makeStart_keepsQueue.answered _ _

theorem State.sleepRule_keepsQueue : s.keepsQueue s.sleepRule := by
  unfold State.sleepRule
  split
  · exact (s.enterSleep_keepsQueue _).answered _ _
  · exact .rfl
  · exact .rfl

theorem State.loadRule_keepsQueue (start : Bool) : s.keepsQueue (s.loadRule start) := by
  unfold State.loadRule
  split <;> exact .of_roster rfl

theorem State.endWake_keepsQueue : s.keepsQueue s.endWake := by
  unfold State.endWake
  dsimp only
  split
  · exact .of_moved (State.makeStart_keepsQueue (s.withRsc _)) rfl
  · exact .of_roster rfl

/-- A replaced working copy preempts where WINCH_EN goes, and brings a new grant table (R65, R113). -/
theorem State.applySettings_keepsQueue (c : Settings) : s.keepsQueue (s.applySettings c) := by
  have hreplaced : s.keepsQueue (((s.withRsc { s.rsc with work := c }).withStr (s.str.rebound s.cfg c)).withWch
      { s.wch with referenced := s.wch.referenced && s.cfg.pulsesPerTurn == c.pulsesPerTurn }) := .of_roster rfl
  unfold State.applySettings
  dsimp only
  refine State.keepsQueue.trans ?_ (State.commitGrants_keepsQueue _ _)
  split
  · exact hreplaced.trans (State.preempt_keepsQueue _)
  · exact hreplaced

theorem State.finishLoad_keepsQueue (powerUp : Bool) : s.keepsQueue (s.finishLoad powerUp) := by
  have hend (c : Settings) (valid : Bool) : s.keepsQueue (s.endLoad c valid) :=
    (s.applySettings_keepsQueue c).to_moved ((State.withAcp_roster _ _).trans (State.withRsc_roster _ _))
  have hstart (v : State) : v.keepsQueue v.startAfterLoad := by
    unfold State.startAfterLoad
    split
    · exact .rfl
    · exact v.makeStart_keepsQueue
  unfold State.finishLoad
  split
  next c _ =>
    have hstarted := (hend c true).trans (hstart _)
    split_ifs
    all_goals first | exact hstarted | exact hend c true
  next => exact (hend factorySettings false).to_moved (State.withAcp_roster _ _)

/-! ### The radio, the pendant and the grant commands -/

theorem State.receiveFrame_keepsQueue (bytes : List Byte) : s.keepsQueue (s.receiveFrame bytes) := by
  unfold State.receiveFrame State.handOn
  split
  next =>
    split
    next => exact .rfl
    split
    next => exact .of_moved (State.commitGrants_keepsQueue (s.withDlr _) _) rfl
    next => exact .rfl
  next => exact .rfl

theorem State.linkByte_keepsQueue (b : Byte) : s.keepsQueue (s.linkByte b) := by
  unfold State.linkByte
  split
  next => split <;> exact .rfl
  next =>
    split
    next => exact .of_moved (State.receiveFrame_keepsQueue (s.withDlr _) _) rfl
    next => exact .rfl

theorem State.presentPendant_keepsQueue (pressed : Bool) : s.keepsQueue (s.presentPendant pressed) := by
  unfold State.presentPendant
  split
  next => split <;> exact .rfl
  next => exact s.commitGrants_keepsQueue _

theorem State.grantTo_keepsQueue (f : Fn) (r : FnRecord) (st : Status) : s.keepsQueue (s.grantTo f r st) :=
  (s.commitGrants_keepsQueue _).answered _ _

theorem State.grantRule_keepsQueue (ps : List Byte) (rule : Fn → State → State)
    (h : ∀ f, s.keepsQueue (rule f s)) : s.keepsQueue (s.grantRule ps rule) := by
  unfold State.grantRule
  split
  next => exact .rfl
  split
  next => exact .rfl
  next => exact h _

theorem State.claim_keepsQueue (f : Fn) : s.keepsQueue (s.claim f) := by
  unfold State.claim
  split
  · exact .rfl
  · exact s.grantTo_keepsQueue _ _ _

theorem State.setValue_keepsQueue (f : Fn) (v : Int) (q : Nat) : s.keepsQueue (s.setValue f v q) := by
  unfold State.setValue
  dsimp only
  split
  · exact .rfl
  split
  · exact .rfl
  split
  · exact .rfl
  · exact s.grantTo_keepsQueue _ _ _

theorem State.claimSet_keepsQueue (f : Fn) (v : Int) : s.keepsQueue (s.claimSet f v) := by
  unfold State.claimSet
  split
  · exact .rfl
  split
  · exact .rfl
  split
  · exact .rfl
  · exact s.grantTo_keepsQueue _ _ _

theorem State.releaseFn_keepsQueue (f : Fn) : s.keepsQueue (s.releaseFn f) := by
  unfold State.releaseFn
  split
  · exact .rfl
  · exact s.grantTo_keepsQueue _ _ _

/-- A REFRESH writes leases, and no holder (R60). -/
theorem State.refresh_keepsQueue : s.keepsQueue s.refresh := by
  have hwch : s.refresh.wch = s.wch := by
    unfold State.refresh
    split <;> rfl
  have hh : s.refresh.holderOf .winch = s.holderOf .winch := congrFun (congrArg Tenure.holder s.refresh_tenure) .winch
  exact (State.queueEbbs.of_eq (by rw [hwch]) (by rw [hwch]) hh).keepsQueue

/-! ### The winch step (R96) -/

theorem State.releaseHold_roster : s.releaseHold.roster = s.roster := by
  unfold State.releaseHold
  split <;> rfl

theorem State.orderChecks_keepsQueue : s.keepsQueue s.orderChecks := by
  unfold State.orderChecks
  split
  next => exact .rfl
  next i o r ha =>
    obtain ⟨ho, -, -⟩ := s.wch.active_spec i o r ha
    split
    · exact (s.endOrder_queueEbbs ho _).keepsQueue
    split
    · exact (s.endOrder_queueEbbs ho _).keepsQueue
    split
    · exact (s.putOrder_queueEbbs ha _).keepsQueue
    · exact .rfl

theorem State.orderStalls_keepsQueue {i : Fin 4} {o : Order} {r : OrderRun} (ha : s.wch.active = some (i, o, r)) :
    s.keepsQueue (s.orderStalls i o r) := by
  obtain ⟨ho, -, -⟩ := s.wch.active_spec i o r ha
  unfold State.orderStalls
  split
  · exact (s.putOrder_queueEbbs ha _).keepsQueue
  · exact (s.endOrder_queueEbbs ho _).keepsQueue

theorem State.orderStallChecks_keepsQueue {i : Fin 4} {o : Order} {r : OrderRun} (ha : s.wch.active = some (i, o, r))
    (d : Int) : s.keepsQueue (s.orderStallChecks i o r d).1 := by
  unfold State.orderStallChecks
  split
  · exact (s.putOrder_queueEbbs ha _).keepsQueue
  split
  · exact .of_moved (State.orderStalls_keepsQueue (s.withWch _) ha) rfl
  split
  · exact s.orderStalls_keepsQueue ha
  · exact (s.putOrder_queueEbbs ha _).keepsQueue

theorem State.stallChecks_keepsQueue (d : Int) : s.keepsQueue (s.stallChecks d).1 := by
  unfold State.stallChecks State.directStallChecks
  split
  · split
    next i o r ha =>
      split
      · exact .rfl
      · exact s.orderStallChecks_keepsQueue ha d
    next => exact .rfl
  · (repeat' split) <;> exact .of_roster rfl

theorem State.finishWinchStep_roster (d : Int) : (s.finishWinchStep d).roster = s.roster :=
  congrArg (Roster.mk _ _) (State.writeHeldWinchValue_holder (s.setWinchDuty d) _ .winch)

theorem State.winchWork_keepsQueue : s.keepsQueue s.winchWork := by
  have hbegun : s.keepsQueue s.formSpeedCap.releaseHold := .of_roster s.formSpeedCap.releaseHold_roster
  have hchecked := (hbegun.trans (State.startOrder_keepsQueue _)).trans (State.orderChecks_keepsQueue _)
  exact (hchecked.trans (State.stallChecks_keepsQueue _ _)).trans (.of_roster (State.finishWinchStep_roster _ _))

/-! ### The drum (R95, R107) -/

theorem State.countForOrder_keepsQueue (dir : WinchDir) : s.keepsQueue (s.countForOrder dir) := by
  unfold State.countForOrder
  split
  next => exact .rfl
  next i o r ha =>
    split
    · exact .rfl
    dsimp only
    split
    · exact (s.putOrder_queueEbbs ha _).keepsQueue.trans
        (State.endOrder_queueEbbs _ (PerSlot.get_set_same _ _ _) _).keepsQueue
    · exact (s.putOrder_queueEbbs ha _).keepsQueue

theorem State.limitAtPulse_keepsQueue (dir : WinchDir) : s.keepsQueue (s.limitAtPulse dir) := by
  have hended : s.keepsQueue (if s.wch.payingOut then s.endActive .lineEnd else s) := by
    split
    · exact s.endActive_keepsQueue _
    · exact .rfl
  have hstopped (v : State) (h : s.keepsQueue v) : s.keepsQueue (if 0 < v.wch.duty then v.setWinchDuty 0 else v) := by
    split
    · exact .to_moved h rfl
    · exact h
  unfold State.limitAtPulse
  split
  · exact hstopped _ hended
  · exact .rfl

theorem State.drumPulse_keepsQueue : s.keepsQueue s.drumPulse := by
  unfold State.drumPulse
  split
  · exact .rfl
  · exact .of_moved (.trans (State.countForOrder_keepsQueue (s.withWch _) _) (State.limitAtPulse_keepsQueue _ _)) rfl

/-! ### The winch commands (R103, R114 to R116) -/

theorem State.winchCommandRule_keepsQueue (d : List Byte) (rule : State → State) (h : s.keepsQueue (rule s)) :
    s.keepsQueue (s.winchCommandRule d rule) := by
  unfold State.winchCommandRule
  split
  · exact .rfl
  · exact h

/-- The slot a post takes is EMPTY (R103). -/
theorem Wch.freeSlot_empty {w : Wch} {i : Fin 4} (h : w.freeSlot = some i) : w.slots.get i = none :=
  Option.isNone_iff_eq_none.1 (List.find?_some (p := fun i => (w.slots.get i).isNone) h)

theorem State.winchPost_keepsQueue (ps : List Byte) : s.keepsQueue (s.winchPost ps) := by
  unfold State.winchPost
  split
  next => exact .rfl
  split
  next => exact .rfl
  split
  next => exact .rfl
  next hfree => exact (s.post_keepsQueue (Wch.freeSlot_empty hfree) rfl).answered _ _

/-- The order a cancel finds stands in its slot, POSTED or ACTIVE (R114). -/
theorem Wch.cancellable_spec {w : Wch} {n : Nat} {i : Fin 4} {o : Order} (h : w.cancellable n = some (i, o)) :
    slotOf n = some i ∧ w.slots.get i = some o ∧ o.finished = false := by
  unfold Wch.cancellable at h
  obtain ⟨j, hj, h⟩ := Option.bind_eq_some_iff.1 h
  obtain ⟨p, hp, h⟩ := Option.bind_eq_some_iff.1 h
  obtain ⟨hfin, he⟩ := Option.ite_none_left_eq_some.1 h
  cases he
  exact ⟨hj, hp, by simpa using hfin⟩

theorem State.winchCancel_keepsQueue (ps : List Byte) : s.keepsQueue (s.winchCancel ps) := by
  unfold State.winchCancel
  split
  next => exact .rfl
  next i o h =>
    obtain ⟨-, ho, -⟩ := Wch.cancellable_spec h
    exact (s.endOrder_queueEbbs ho _).keepsQueue.answered _ _

theorem State.winchReap_keepsQueue : s.keepsQueue s.winchReap := by
  unfold State.winchReap
  split
  · exact .rfl
  · exact (s.reap_keepsQueue _).answered _ _

end

/-! ### Every command -/

/-- An outcome of `s` keeps the queue in order. -/
def keepsQueue (s : State) (o : Host.Outcome State Fault Refusal) : Prop := ∀ t, o = .next t → s.keepsQueue t

theorem keepsQueue_completed (h : s.keepsQueue u) : keepsQueue s (completed u) := by
  rintro _ ⟨⟩
  exact h

theorem keepsQueue_of_roster (h : u.roster = s.roster) : keepsQueue s (completed u) :=
  keepsQueue_completed (.of_roster h)

theorem keepsQueue_taken {ok ex : Bool} {al : State → List Byte} {owner : State → State}
    (h : s.wakeSource.keepsQueue (owner s.wakeSource)) : keepsQueue s (completed (s.takeCommand ok ex al owner)) := by
  apply keepsQueue_completed
  obtain ⟨st, d, e⟩ | ⟨-, e⟩ := s.takeCommand_cases ok ex al owner <;> rw [e]
  · exact .rfl
  · exact h

/-- An accessory command whose rule leaves the queue. -/
theorem keepsQueue_heard {ok ex : Bool} {al : State → List Byte} {owner : State → State}
    (h : ∀ w : State, (owner w).roster = w.roster) : keepsQueue s (completed (s.takeCommand ok ex al owner)) :=
  keepsQueue_taken (.of_roster (h _))

/-- The commands that do not reach the winch queue, whatever the state: none of them is an event of the winch or of its
queue, none passes a function, stops the vehicle or replaces the working copy. -/
def remote : Instr → Bool
  | .ocTripRelease | .budgetPeriod | .servoShort | .driveStep | .servoFrame | .lightFrameBoundary | .framingError
  | .linkGapTimeout | .replyTimerExpiry | .replySent | .pendantEdge _ _ | .armingTimerExpiry | .storeEnd _
  | .acpUnknownWrite _ | .status _ | .read _ | .readCause _ | .faultNext _ | .faultAck _ | .attnMask _ | .lockoutClear _
  | .cfgRead _ | .cfgCheck _ | .cfgStore _ | .winchResume _ | .winchZero _ | .sceneWrite _ | .benchInject _ | .benchStall _
  | .load _ | .runctlNoFlag _ => true
  | _ => false

theorem State.injected_roster (code : Nat) (v : Int) (h : s.injected code v = some t) : t.roster = s.roster := by
  unfold State.injected at h
  (repeat' split at h) <;> cases h <;> rfl

theorem remote_keepsQueue (c : Instr) (hc : remote c = true) (s : State) : keepsQueue s (exec c s) := by
  cases c
  all_goals try exact Bool.noConfusion hc
  case ocTripRelease | budgetPeriod | servoShort | driveStep | servoFrame | lightFrameBoundary | framingError
      | pendantEdge => exact keepsQueue_of_roster rfl
  case linkGapTimeout | replyTimerExpiry | replySent | armingTimerExpiry | acpUnknownWrite =>
    simp only [exec, execLinkGapTimeout, execReplyTimerExpiry, execReplySent, execArmingTimerExpiry, execAcpUnknownWrite]
    (repeat' split) <;> exact keepsQueue_of_roster rfl
  case storeEnd =>
    simp only [exec, execStoreEnd, State.endStore]
    (repeat' split) <;> exact keepsQueue_of_roster rfl
  case status | readCause | faultNext | attnMask | runctlNoFlag => exact keepsQueue_heard fun _ => rfl
  case read => exact keepsQueue_heard fun w => by unfold State.readRule; split <;> rfl
  case faultAck => exact keepsQueue_heard fun w => by unfold State.faultAck; (repeat' split) <;> rfl
  case lockoutClear => exact keepsQueue_heard fun w => by unfold State.lockoutClear; split <;> rfl
  case cfgRead => exact keepsQueue_heard fun w => by unfold State.cfgRead; dsimp only; split <;> rfl
  case cfgCheck => exact keepsQueue_heard fun w => by unfold State.cfgCheck; split <;> rfl
  case cfgStore => exact keepsQueue_heard fun w => by unfold State.cfgStore; (repeat' split) <;> rfl
  case sceneWrite => exact keepsQueue_heard fun w => by unfold State.sceneWrite; split <;> rfl
  case benchStall => exact keepsQueue_heard fun w => by unfold State.benchStall; split <;> rfl
  case benchInject =>
    refine keepsQueue_heard fun w => ?_
    unfold State.benchInject
    split
    next => rfl
    split
    next h => exact (State.respond_roster _ _ _).trans (State.injected_roster _ _ h)
    next => rfl
  case load => exact keepsQueue_taken (State.loadRule_keepsQueue _ _)
  case winchResume => exact keepsQueue_taken (State.winchCommandRule_keepsQueue _ _ _ .rfl)
  case winchZero =>
    refine keepsQueue_taken (State.winchCommandRule_keepsQueue _ _ _ (.of_roster ?_))
    unfold State.winchZero
    split <;> rfl

theorem State.fullReset_keepsQueue (s : State) (kind : FullResetKind) (strap : Bool) :
    s.keepsQueue (s.fullReset kind strap) :=
  fun _ => State.queueOk_of_empty (fun _ => PerSlot.get_build _ _) rfl

theorem State.softReset_keepsQueue (s : State) (strap : Bool) : s.keepsQueue (s.softReset strap) :=
  fun _ => State.queueOk_of_empty (fun _ => PerSlot.get_build _ _) rfl

theorem exec_keepsQueue (c : Instr) (s : State) : keepsQueue s (exec c s) := by
  by_cases hc : remote c = true
  · exact remote_keepsQueue c hc s
  have hstays : keepsQueue s (completed s) := keepsQueue_completed .rfl
  cases c
  all_goals try exact absurd rfl hc
  case powerOnReset | brownOutReset | pinReset => exact keepsQueue_completed (s.fullReset_keepsQueue _ _)
  case reset => exact keepsQueue_taken (State.softReset_keepsQueue _ _)
  case sampleSet raw =>
    exact keepsQueue_completed (.of_moved (State.protSample_keepsQueue ((s.reach _).monitorSample raw) _ _) rfl)
  case warnEntryComplete | warnExitComplete | cutTimerComplete | critTimerComplete | rearmTimerComplete =>
    exact keepsQueue_completed (s.completeDwell_keepsQueue _)
  case ocTripAssert =>
    simp only [exec, execOcTripAssert]
    split
    · exact hstays
    split
    · exact keepsQueue_completed (.of_moved (State.hardTrip_keepsQueue (s.withLines _)) rfl)
    split
    · exact keepsQueue_completed (.of_moved (State.abortPrecharge_keepsQueue (s.withLines _)) rfl)
    · exact keepsQueue_of_roster rfl
  case prechargeExpiry =>
    simp only [exec, execPrechargeExpiry]
    split
    · split
      · exact keepsQueue_completed (.of_moved (State.closeSwitch_keepsQueue (s.reach _)) rfl)
      · exact keepsQueue_completed (.of_moved (State.failPrecharge_keepsQueue (s.reach _)) rfl)
    · exact hstays
  case winchStep => exact keepsQueue_completed (.of_moved (State.winchWork_keepsQueue (s.reach _).restartWinchTimer) rfl)
  case orderTimeout | retryPauseEnd | drumCheckStall =>
    simp only [exec, execOrderTimeout, execRetryPauseEnd, execDrumCheckStall]
    split
    · exact keepsQueue_completed (.of_moved (State.winchWork_keepsQueue (s.reach _)) rfl)
    · exact hstays
  case orderStarved =>
    simp only [exec, execOrderStarved]
    split
    · exact keepsQueue_completed s.winchWork_keepsQueue
    · exact hstays
  case currentCheckStall =>
    simp only [exec, execCurrentCheckStall]
    split
    · split
      · exact keepsQueue_completed (.of_moved (State.winchWork_keepsQueue (s.reach _)) rfl)
      · exact hstays
    · exact hstays
  case drumPulse =>
    simp only [exec, execDrumPulse]
    split
    · exact hstays
    · exact keepsQueue_completed s.drumPulse_keepsQueue
  case benchDrumPulse =>
    simp only [exec, execBenchDrumPulse]
    split
    next due _ => exact keepsQueue_completed (.of_moved (State.drumPulse_keepsQueue ((s.reach due).withWch _)) rfl)
    next => exact hstays
  case radioFrame => exact keepsQueue_completed (.of_moved (State.receiveFrame_keepsQueue (s.withDlr _) _) rfl)
  case linkByteReceived => exact keepsQueue_completed (s.linkByte_keepsQueue _)
  case dlFreshnessExpiry | apLeaseExpiry =>
    simp only [exec, execDlFreshnessExpiry, execApLeaseExpiry]
    split
    · exact keepsQueue_completed (.of_moved (State.commitGrants_keepsQueue (s.reach _) _) rfl)
    · exact hstays
  case pendantSettleExpiry =>
    simp only [exec, execPendantSettleExpiry]
    split
    next => exact hstays
    next due _ =>
      split
      · exact keepsQueue_of_roster rfl
      · exact keepsQueue_completed (.of_moved (State.presentPendant_keepsQueue ((s.reach due).withPnd _) _) rfl)
  case wakeTimerExpiry =>
    simp only [exec, execWakeTimerExpiry]
    split
    · split
      · exact keepsQueue_completed (.of_moved (State.endWake_keepsQueue (s.reach _)) rfl)
      · exact hstays
    · exact hstays
  case idleSleepExpiry =>
    simp only [exec, execIdleSleepExpiry]
    split
    · split
      · exact keepsQueue_completed (.of_moved (State.enterSleep_keepsQueue (s.reach _) _) rfl)
      · exact hstays
    · exact hstays
  case loadEnd =>
    simp only [exec, execLoadEnd]
    split
    · split
      · exact keepsQueue_completed (.of_moved (State.finishLoad_keepsQueue (s.reach _) _) rfl)
      · exact hstays
    · exact hstays
  case halt => exact keepsQueue_taken ((State.halt_keepsQueue _).answered _ _)
  case sleep => exact keepsQueue_taken (State.sleepRule_keepsQueue _)
  case benchDry => exact keepsQueue_taken (State.benchDryRule_keepsQueue _)
  case benchWet => exact keepsQueue_taken (State.benchWetRule_keepsQueue _)
  case start => exact keepsQueue_taken (State.startRule_keepsQueue _)
  case cfgWrite =>
    refine keepsQueue_taken ?_
    unfold State.cfgWrite
    dsimp only
    split
    · exact .rfl
    split
    · exact .rfl
    split
    · exact .rfl
    · exact ((State.applySettings_keepsQueue _ _).to_moved (State.withRsc_roster _ _)).answered _ _
  case claim => exact keepsQueue_taken (State.grantRule_keepsQueue _ _ _ fun f => State.claim_keepsQueue _ f)
  case set => exact keepsQueue_taken (State.grantRule_keepsQueue _ _ _ fun f => State.setValue_keepsQueue _ f _ _)
  case claimSet => exact keepsQueue_taken (State.grantRule_keepsQueue _ _ _ fun f => State.claimSet_keepsQueue _ f _)
  case release => exact keepsQueue_taken (State.grantRule_keepsQueue _ _ _ fun f => State.releaseFn_keepsQueue _ f)
  case refresh => exact keepsQueue_taken (State.refresh_keepsQueue _)
  case winchPost => exact keepsQueue_taken (State.winchCommandRule_keepsQueue _ _ _ (State.winchPost_keepsQueue _ _))
  case winchCancel => exact keepsQueue_taken (State.winchCommandRule_keepsQueue _ _ _ (State.winchCancel_keepsQueue _ _))
  case winchReap => exact keepsQueue_taken (State.winchCommandRule_keepsQueue _ _ _ (State.winchReap_keepsQueue _))

/-- Settles O11: an order ends or is preempted in its slot, the oldest POSTED one starts behind finished ones alone, a post
comes last and a reap takes its slot with it. -/
theorem winchQueueStaysOrdered : Obligations.WinchQueueStaysOrdered := by
  intro s t hq h
  obtain rfl | ⟨c, rest, h⟩ := step_next h
  · exact hq
  · exact exec_keepsQueue c (s.withPending rest) t h hq

end Sys2Proof.Machine
end

section
/-! PROOFS. O43, O44 and O45: the winch commands of the accessory port (R102, R103, R114 to R116). -/

namespace Sys2Proof.Machine

variable {s : State}

/-! ### The common check (R102, R147) -/

section
variable (always : State → List Byte) (d : List Byte) (rule : State → State)

/-- Out of SLEEP a winch command reaches its rule. -/
theorem winchCommand_awake (hopen : s.portOpen) (hrun : s.rsc.run ≠ .sleep) :
    completed (s.takeCommand true false always fun w => w.winchCommandRule d rule) = .next (rule s).settle := by
  rw [s.takeCommand_taken _ _ _ (.inl hopen), s.wakeSource_awake hrun, State.winchCommandRule,
    if_neg (by simpa using hrun)]
  rfl

/-- In SLEEP it is refused (R102). -/
theorem winchCommand_asleep (hopen : s.portOpen) (hrun : s.rsc.run = .sleep) :
    ∃ t, completed (s.takeCommand true false always fun w => w.winchCommandRule d rule) = .next t ∧
      answersWith [] s t .refusedState d := by
  have hasleep : s.wakeSource.rsc.run = .sleep := hrun
  rw [s.takeCommand_taken _ _ _ (.inl hopen), State.winchCommandRule, if_pos (beq_iff_eq.2 hasleep)]
  exact ⟨_, rfl, answersWith_wake⟩

end

/-- An answer of a command's own rule, out of SLEEP, that has changed nothing. -/
theorem answersWith_unmoved (hrun : s.rsc.run ≠ .sleep) {st : Status} {d : List Byte} :
    answersWith [] s (s.respond st d).settle st d := by
  have h := answersWith_wake (s := s) (status := st) (data := d)
  rwa [s.wakeSource_awake hrun] at h

/-- One that has changed the winch. -/
theorem answersWith_winch (hrun : s.rsc.run ≠ .sleep) (w : Wch) {st : Status} {d : List Byte} :
    answersWith [.wch] s ((s.withWch w).respond st d).settle st d := by
  refine answersWith_respond (fun b hb _ _ _ => ?_) rfl rfl (by rw [s.wakeSource_awake hrun]; rfl)
  cases b <;> first | rfl | exact absurd (by simp) hb

/-! ### The kinds of orders (Table 11-4) -/

theorem OrderKind.ofCode_eq_some {n : Nat} {k : OrderKind} : OrderKind.ofCode n = some k ↔ k.code = n := by
  constructor
  · intro h
    match n, h with
    | 0, h | 1, h | 2, h | 3, h => cases h; rfl
  · rintro rfl
    cases k <;> rfl

theorem OrderKind.counted_iff (k : OrderKind) : k.counted = true ↔ k = .haulTurns ∨ k = .payoutTurns := by
  cases k <;> simp [OrderKind.counted]

theorem OrderKind.counted_iff_code (k : OrderKind) : k.counted = true ↔ 2 ≤ k.code := by
  cases k <;> simp [OrderKind.counted, OrderKind.code]

theorem OrderKind.hauls_iff (k : OrderKind) : k.hauls = true ↔ k = .haul ∨ k = .haulTurns := by
  cases k <;> simp [OrderKind.hauls]

/-! ### WINCH_POST (R103) -/

/-- The slots of the ring in the order a post tries them. -/
theorem ring_eq (newest : Fin 4) :
    [newest + 1, newest + 2, newest + 3, newest] = (List.finRange 4).map (newest + 1 + ·) := by
  revert newest
  decide

/-- The first EMPTY slot round the ring. -/
theorem Wch.freeSlot_eq_some {w : Wch} {m : Fin 4}
    (hempty : w.slots.get (w.postList.getLast?.getD w.lastPosted + 1 + m) = none)
    (hfirst : ∀ n : Fin 4, n < m → w.slots.get (w.postList.getLast?.getD w.lastPosted + 1 + n) ≠ none) :
    w.freeSlot = some (w.postList.getLast?.getD w.lastPosted + 1 + m) := by
  unfold Wch.freeSlot
  dsimp only
  rw [ring_eq, List.find?_map, Option.map_eq_some_iff]
  refine ⟨m, List.find?_eq_some_iff_getElem.2 ⟨by simp [hempty], m, by simp, by simp, fun j hj => ?_⟩, rfl⟩
  have hne := hfirst ⟨j, by omega⟩ hj
  simpa [Option.isSome_iff_ne_none] using hne

theorem Wch.freeSlot_eq_none {w : Wch} (h : ∀ i, w.slots.get i ≠ none) : w.freeSlot = none :=
  List.find?_eq_none.2 fun i _ => by simpa using h i

section
variable {k hi lo turns timeout noRetry : Byte}

theorem byte_toNat_eq_zero (b : Byte) : b.toNat = 0 ↔ b = 0 := by
  rw [← BitVec.toNat_inj]
  rfl

/-- The parameters of a WINCH_POST that its table refuses (R103). -/
def postRefused (k turns timeout : Byte) : Prop := 3 < k.toNat ∨ (2 ≤ k.toNat ∧ turns = 0) ∨ timeout = 0

/-- The test of the turns and the timeout, on the kind the first byte names. -/
theorem postTest_iff {kind : OrderKind} (hk : kind.code = k.toNat) :
    ((kind.counted && turns.toNat == 0) || timeout.toNat == 0) = true ↔ postRefused k turns timeout := by
  have hcode : kind.code ≤ 3 := by cases kind <;> decide
  simp only [Bool.or_eq_true, Bool.and_eq_true, beq_iff_eq, byte_toNat_eq_zero, OrderKind.counted_iff_code, hk,
    postRefused]
  exact (or_iff_right (by omega)).symm

theorem State.winchPost_refused (h : postRefused k turns timeout) :
    s.winchPost [k, hi, lo, turns, timeout, noRetry] = s.respond .badValue [0xFF] := by
  unfold State.winchPost
  split
  next => rfl
  next kind hkind => exact if_pos ((postTest_iff (OrderKind.ofCode_eq_some.1 hkind)).2 h)

/-- A WINCH_POST that passes its table asks for a slot (R103). -/
theorem State.winchPost_passed {kind : OrderKind} (hk : kind.code = k.toNat) (h : ¬postRefused k turns timeout) :
    (s.wch.freeSlot = none → s.winchPost [k, hi, lo, turns, timeout, noRetry] = s.respond .queueFull [0xFF]) ∧
      ∀ i, s.wch.freeSlot = some i → s.winchPost [k, hi, lo, turns, timeout, noRetry] =
        (s.withWch (s.wch.post i
          (postedOrder kind (hi.toNat * 256 + lo.toNat) turns.toNat timeout.toNat (noRetry.toNat != 0)))).respond
          (if within 100 (hi.toNat * 256 + lo.toNat) 1000 then .ok else .okClamped) [byteOf i.val] := by
  have hkind : OrderKind.ofCode (param [k, hi, lo, turns, timeout, noRetry] 0) = some kind :=
    OrderKind.ofCode_eq_some.2 hk
  have htest : ¬((kind.counted && param [k, hi, lo, turns, timeout, noRetry] 3 == 0) ||
      param [k, hi, lo, turns, timeout, noRetry] 4 == 0) = true := fun ht => h ((postTest_iff hk).1 ht)
  constructor
  · intro hfree
    simp only [State.winchPost, hkind, if_neg htest, hfree]
  · intro i hfree
    simp only [State.winchPost, hkind, if_neg htest, hfree]
    rfl

end

/-- The record of a post (R103). -/
theorem postedOrder_eq (kind : OrderKind) (speed : Nat) (turns timeout noRetry : Byte) :
    postedOrder kind speed turns.toNat timeout.toNat (noRetry.toNat != 0) =
      { kind := kind, speed := max 100 (min 1000 speed)
        turns := if kind = .haulTurns ∨ kind = .payoutTurns then some turns.toNat else none
        timeout := timeout.toNat, noRetry := decide (noRetry ≠ 0), phase := .posted, result := none
        turnsDone := 0, retriesUsed := 0 } := by
  have hno : (noRetry.toNat != 0) = decide (noRetry ≠ 0) := by
    rw [Bool.eq_iff_iff, bne_iff_ne, decide_eq_true_iff, Ne, byte_toNat_eq_zero]
  unfold postedOrder
  rw [hno]
  simp only [OrderKind.counted_iff]

theorem exec_winchPost (k hi lo turns timeout noRetry : Byte) :
    exec (.winchPost [k, hi, lo, turns, timeout, noRetry]) s =
      completed (s.takeCommand true false noSlot fun w =>
        w.winchCommandRule [0xFF] (State.winchPost · [k, hi, lo, turns, timeout, noRetry])) := rfl

/-- Settles O43: the post asks for the first EMPTY slot of the ring where its table passes, and is refused elsewhere. -/
theorem orderPosted : Obligations.OrderPosted := by
  intro s k hi lo turns timeout noRetry m hopen newest
  rw [exec_winchPost]
  refine ⟨fun kind hrun hk hturns htimeout hempty hfirst => ?_, fun hrun hbad => ?_, fun hrun hk hturns htimeout hfull => ?_,
    winchCommand_asleep _ _ _ hopen⟩
  · have hpassed : ¬postRefused k turns timeout := by
      rintro (hbad | ⟨hbad, hzero⟩ | hzero)
      · have hcode : kind.code ≤ 3 := by cases kind <;> decide
        omega
      · exact hturns ((kind.counted_iff).1 (kind.counted_iff_code.2 (hk ▸ hbad))) hzero
      · exact htimeout hzero
    refine ⟨_, winchCommand_awake _ _ _ hopen hrun, ?_⟩
    rw [(State.winchPost_passed hk hpassed).2 _ (Wch.freeSlot_eq_some hempty hfirst), postedOrder_eq]
    refine ⟨rfl, ?_⟩
    have hstatus : (if within 100 (hi.toNat * 256 + lo.toNat) 1000 then Status.ok else .okClamped) =
        if 100 ≤ hi.toNat * 256 + lo.toNat ∧ hi.toNat * 256 + lo.toNat ≤ 1000 then .ok else .okClamped :=
      if_congr (by simp [within]) rfl rfl
    rw [hstatus]
    exact answersWith_winch hrun _
  · refine ⟨_, winchCommand_awake _ _ _ hopen hrun, ?_⟩
    rw [State.winchPost_refused hbad]
    exact answersWith_unmoved hrun
  · have hpassed : ¬postRefused k turns timeout := by
      rintro (hbad | hbad | hbad)
      · omega
      · exact hturns hbad
      · exact htimeout hbad
    obtain ⟨kind, hkind⟩ : ∃ kind : OrderKind, kind.code = k.toNat := by
      generalize k.toNat = n at hk
      match n, hk with
      | 0, _ => exact ⟨.haul, rfl⟩
      | 1, _ => exact ⟨.payout, rfl⟩
      | 2, _ => exact ⟨.haulTurns, rfl⟩
      | 3, _ => exact ⟨.payoutTurns, rfl⟩
    refine ⟨_, winchCommand_awake _ _ _ hopen hrun, ?_⟩
    rw [(State.winchPost_passed hkind hpassed).1 (Wch.freeSlot_eq_none hfull)]
    exact answersWith_unmoved hrun

/-! ### The end of an order, posted or ACTIVE (R106) -/

/-- From `s` to `t` the motor is left as it is, or stopped, the drive following its moving flag (R71). -/
def State.motorEases (s t : State) : Prop :=
  (t.wch.moving = s.wch.moving ∧ t.drv = s.drv) ∨
    (t.wch.moving = false ∧ t.drv = { s.drv with interlock := s.drv.interlock && !s.wch.moving })

theorem State.motorEases.rfl : s.motorEases s := .inl ⟨.refl _, .refl _⟩

theorem State.motorEases.trans {t u : State} (h : s.motorEases t) (h' : t.motorEases u) : s.motorEases u := by
  obtain ⟨hm, hd⟩ | ⟨hm, hd⟩ := h'
  · unfold State.motorEases
    rwa [hm, hd]
  · refine .inr ⟨hm, ?_⟩
    obtain ⟨hm', hd'⟩ | ⟨hm', hd'⟩ := h <;> simp [hd, hm', hd']

/-- And so to a state with the same winch and drive. -/
theorem State.motorEases.to_moved {t u : State} (h : s.motorEases t) (hw : u.wch = t.wch) (hd : u.drv = t.drv) :
    s.motorEases u := by
  unfold State.motorEases
  rwa [hw, hd]

theorem State.motorEases.driveFollows {t : State} (h : s.motorEases t) : driveFollows s t := by
  apply driveFollows_of_onMoving
  obtain ⟨hm, hd⟩ | ⟨hm, hd⟩ := h
  · rw [hm, hd, Drv.onMoving_self]
  · rw [hm, hd]
    cases hs : s.wch.moving <;> simp [Drv.onMoving]

theorem State.setWinchDuty_zero_motorEases (s : State) : s.motorEases (s.setWinchDuty 0) :=
  .inr ⟨rfl, s.setWinchDuty_zero_drv⟩

section
variable (s : State) (i : Fin 4) (o : Order) (result : OrderResult)

/-- The winch after the end of an order that was not ACTIVE: its record and the run flag alone. -/
theorem State.endOrder_wch_posted (h : o.isActive = false) :
    (s.endOrder i o result).wch =
      { s.wch with
        slots := s.wch.slots.set i (some (o.ended result)), runFlag := s.wch.runFlag && result == .ok } := by
  simp [State.endOrder, h, Wch.putOrder, Order.ended]

theorem State.endOrder_motorEases : s.motorEases (s.endOrder i o result) := by
  cases h : o.isActive with
  | true =>
    refine .inr ⟨by rw [s.endOrder_wch result h], ?_⟩
    rw [s.endOrder_drv result h]
    cases hm : s.wch.moving <;> simp [Drv.onMoving]
  | false =>
    refine .inl ⟨by rw [s.endOrder_wch_posted i o result h], ?_⟩
    simp [State.endOrder, h]

/-- An end that raises no fault posts ORDER_DONE and touches nothing else of the port (R106). -/
theorem State.endOrder_acp_eq (h : ∀ v : State, v.raiseResult result = v) :
    (s.endOrder i o result).acp = { s.acp with orderDone := true } := by
  unfold State.endOrder
  dsimp only
  rw [h]
  cases o.isActive <;> rfl

theorem State.endOrder_frame : unchangedBut [.grt, .drv, .wch, .acp] s (s.endOrder i o result) := by
  intro b hb
  cases b <;> simp at hb <;> simp [State.agree]

/-- The WINCH value is 0 after an end under AP, and no other record is touched (R105, R106). -/
theorem State.endOrder_fns (f : Fn) :
    (s.endOrder i o result).grt.fns.get f =
      if f = .winch ∧ s.holderOf .winch = .ap then { s.grt.fns.get f with value := 0 } else s.grt.fns.get f := by
  rw [State.endOrder_grt, State.writeHeldWinchValue_get]

end

/-! ### WINCH_CANCEL (R114) -/

theorem slotOf_byte (i : Fin 4) : slotOf (byteOf i.val).toNat = some i := by
  revert i
  decide

theorem slotOf_above {n : Nat} (h : 3 < n) : slotOf n = none := dif_neg (by omega)

theorem Wch.cancellable_eq_some {w : Wch} {i : Fin 4} {o : Order} (ho : w.slots.get i = some o)
    (h : o.finished = false) :
    w.cancellable (byteOf i.val).toNat = some (i, o) := by
  simp [Wch.cancellable, slotOf_byte, ho, h]

theorem Wch.cancellable_eq_none {w : Wch} {i : Fin 4} (h : ∀ o, w.slots.get i = some o → o.finished = true) :
    w.cancellable (byteOf i.val).toNat = none := by
  unfold Wch.cancellable
  rw [slotOf_byte, Option.bind_some]
  cases ho : w.slots.get i with
  | none => rfl
  | some o => simp [h o ho]

theorem State.winchCancel_none {b : Byte} (h : s.wch.cancellable b.toNat = none) :
    s.winchCancel [b] = s.respond .badValue [] := by
  have h' : s.wch.cancellable (param [b] 0) = none := h
  simp only [State.winchCancel, h']

theorem State.winchCancel_some {b : Byte} {i : Fin 4} {o : Order} (h : s.wch.cancellable b.toNat = some (i, o)) :
    s.winchCancel [b] = (s.endOrder i o .cancelled).respond .ok [] := by
  have h' : s.wch.cancellable (param [b] 0) = some (i, o) := h
  simp only [State.winchCancel, h']

theorem exec_winchCancel (b : Byte) :
    exec (.winchCancel [b]) s =
      completed (s.takeCommand true false noData fun w => w.winchCommandRule [] (State.winchCancel · [b])) := rfl

/-! ### WINCH_REAP (R115) -/

/-- Reaping takes the slot from its place in the post list. -/
theorem Wch.reap_eq {w : Wch} {i : Fin 4} {before after : List (Fin 4)} (hlist : w.postList = before ++ i :: after)
    (hnodup : w.postList.Nodup) : w.reap i = { w with slots := w.slots.set i none, postList := before ++ after } := by
  have hbefore : i ∉ before := fun hi => by
    obtain ⟨-, -, hdisjoint⟩ := List.nodup_append.1 (hlist ▸ hnodup)
    exact hdisjoint i hi i (by simp) rfl
  have hrest : w.postList.filter (· != i) = before ++ after := by
    rw [← hnodup.erase_eq_filter, hlist, List.erase_append_right _ hbefore, List.erase_cons_head]
  rw [Wch.reap, hrest]

theorem exec_winchReap :
    exec (.winchReap []) s =
      completed (s.takeCommand true false noData fun w => w.winchCommandRule [] State.winchReap) :=
  rfl

/-- Settles O44: a cancel is the end of the order it finds, a reap takes the oldest finished order of the post list. -/
theorem orderCancelledAndReaped : Obligations.OrderCancelledAndReaped := by
  intro s i b before after hopen
  refine ⟨fun hrun => ⟨fun o ho hfin => ?cancelled, fun hfin => ?finished, fun hb => ?unknown,
    fun o ho hlist hnodup hfin hbefore => ?reaped, fun hnone => ?nothing⟩, fun hrun => ⟨?_, ?_⟩⟩
  case cancelled =>
    have hrule := State.winchCancel_some (Wch.cancellable_eq_some ho hfin)
    obtain ⟨hslots, hpost, hflag⟩ := s.endOrder_queue i o .cancelled
    have hacp := s.endOrder_acp_eq i o .cancelled fun _ => rfl
    refine ⟨_, (exec_winchCancel _).trans (winchCommand_awake _ _ _ hopen hrun), ?_⟩
    rw [hrule]
    rw [State.settle_wch, State.respond_wch]
    refine ⟨hslots, hpost, hflag.trans (Bool.and_false _), ?_, s.endOrder_stops i o .cancelled, fun hact => ?_,
      s.endOrder_fns i o .cancelled, ?_, State.motorEases.driveFollows ?_, ?_⟩
    · rw [State.settle_acp, State.respond_acp, hacp]
    · have hwch := s.endOrder_wch_posted i o .cancelled hact
      exact ⟨by rw [hwch], by rw [hwch]⟩
    · rw [State.settle_latches, State.respond_acp, hacp]
    · exact (s.endOrder_motorEases i o .cancelled).to_moved (by rw [State.settle_wch, State.respond_wch])
        (by rw [State.settle_drv, State.respond_drv])
    · refine unchangedBut.settle (l := [.grt, .drv, .wch, .acp]) ?_ (by simp) (by simp) (by simp)
      exact (s.endOrder_frame i o .cancelled).trans fun b hb => by cases b <;> simp at hb <;> rfl
  case finished =>
    refine ⟨_, (exec_winchCancel _).trans (winchCommand_awake _ _ _ hopen hrun), ?_⟩
    rw [State.winchCancel_none (Wch.cancellable_eq_none hfin)]
    exact answersWith_unmoved hrun
  case unknown =>
    have hnone : s.wch.cancellable b.toNat = none := by simp [Wch.cancellable, slotOf_above hb]
    refine ⟨_, (exec_winchCancel _).trans (winchCommand_awake _ _ _ hopen hrun), ?_⟩
    rw [State.winchCancel_none hnone]
    exact answersWith_unmoved hrun
  case reaped =>
    have holdest : s.wch.oldestFinished = some (i, o) :=
      (s.wch.oldestWith_eq_some _ i o).2 ⟨before, after, hlist, ho, hfin, hbefore⟩
    refine ⟨_, exec_winchReap.trans (winchCommand_awake _ _ _ hopen hrun), ?_⟩
    simp only [State.winchReap, holdest, Wch.reap_eq hlist hnodup]
    exact ⟨rfl, answersWith_winch hrun _⟩
  case nothing =>
    have holdest : s.wch.oldestFinished = none := (s.wch.oldestWith_eq_none _).2 hnone
    refine ⟨_, exec_winchReap.trans (winchCommand_awake _ _ _ hopen hrun), ?_⟩
    simp only [State.winchReap, holdest]
    exact answersWith_unmoved hrun
  · rw [exec_winchCancel]
    exact winchCommand_asleep _ _ _ hopen hrun
  · rw [exec_winchReap]
    exact winchCommand_asleep _ _ _ hopen hrun

/-! ### WINCH_RESUME (R116) -/

theorem exec_winchResume :
    exec (.winchResume []) s =
      completed (s.takeCommand true false noData fun w => w.winchCommandRule [] State.winchResume) := rfl

/-- Settles O45: the rule sets the run flag and answers. -/
theorem queueResumed : Obligations.QueueResumed := by
  intro s hopen
  rw [exec_winchResume]
  exact ⟨fun hrun => ⟨_, winchCommand_awake _ _ _ hopen hrun, rfl, answersWith_winch hrun _⟩,
    winchCommand_asleep _ _ _ hopen⟩

end Sys2Proof.Machine
end

section
/-! PROOFS. O50: the drum pulses and WINCH_ZERO (R93 to R95, R106, R107, R168). -/

namespace Sys2Proof.Machine

/-- A drum pulse seen from `s` at a moment, with the time of the next injected one: its position and its time (R93). -/
def State.pulseSeen (s : State) (now : Nat) (next : Option Nat) : State :=
  (s.withNow now).withWch
    { s.wch with nextBenchPulse := next, linePos := linePosAfter s.wch.dir s.wch.linePos, lastPulse := some now }

section
variable (s : State)

/-! ### The moment of a pulse (R168) -/

theorem exec_drumPulse_seen (hrun : s.rsc.run ≠ .benchDry) (hdir : s.wch.dir ≠ .none) :
    exec .drumPulse s = completed
      (((s.pulseSeen s.now s.wch.nextBenchPulse).countForOrder s.wch.dir).limitAtPulse s.wch.dir) := by
  have hdir' : (s.wch.dir == WinchDir.none) = false := beq_false_of_ne hdir
  simp only [exec, execDrumPulse, beq_false_of_ne hrun, State.drumPulse, hdir', Bool.false_eq_true, if_false]
  rfl

theorem exec_drumPulse_unseen (h : s.rsc.run = .benchDry ∨ s.wch.dir = .none) : exec .drumPulse s = completed s := by
  rcases h with h | h
  · simp only [exec, execDrumPulse, h, beq_self_eq_true, if_true]
  · simp only [exec, execDrumPulse, State.drumPulse, h, beq_self_eq_true, if_true, ite_self]

/-- The clock at an injected pulse, and the time of the next. -/
def State.benchPulsed (s : State) (now : Nat) : State :=
  (s.withNow now).withWch { s.wch with nextBenchPulse := some (now + benchInterval s.wch.drumRate) }

theorem exec_benchDrumPulse_eq {due : Nat} (h : s.wch.nextBenchPulse = some due) :
    exec .benchDrumPulse s = completed (s.benchPulsed (max s.now due)).drumPulse := by
  simp only [exec, execBenchDrumPulse, h]
  rfl

theorem State.benchPulsed_seen (now : Nat) (hdir : s.wch.dir ≠ .none) :
    (s.benchPulsed now).drumPulse =
      ((s.pulseSeen now (some (now + benchInterval s.wch.drumRate))).countForOrder s.wch.dir).limitAtPulse
        s.wch.dir := by
  have hdir' : ((s.benchPulsed now).wch.dir == WinchDir.none) = false := beq_false_of_ne hdir
  simp only [State.drumPulse, hdir', Bool.false_eq_true, if_false]
  rfl

theorem State.benchPulsed_unseen (now : Nat) (hdir : s.wch.dir = .none) :
    (s.benchPulsed now).drumPulse = s.benchPulsed now :=
  if_pos (beq_iff_eq.2 hdir)

/-! ### What every pulse leaves (R93) -/

/-- From `s` to `t` a pulse has gone on: the motor left or stopped, the line and the time of the pulse kept,
and every block kept that the end of an order does not touch. -/
structure State.pulseGoesOn (s t : State) : Prop where
  motor : s.motorEases t
  linePos : t.wch.linePos = s.wch.linePos
  lastPulse : t.wch.lastPulse = s.wch.lastPulse
  nextBenchPulse : t.wch.nextBenchPulse = s.wch.nextBenchPulse
  frame : unchangedBut [.grt, .drv, .wch, .acp] s t

end

theorem State.pulseGoesOn.rfl {s : State} : s.pulseGoesOn s :=
  ⟨.rfl, .refl _, .refl _, .refl _, fun b _ => by cases b <;> exact .refl _⟩

theorem State.pulseGoesOn.trans {s t u : State} (h : s.pulseGoesOn t) (h' : t.pulseGoesOn u) : s.pulseGoesOn u :=
  ⟨h.motor.trans h'.motor, h'.linePos.trans h.linePos, h'.lastPulse.trans h.lastPulse,
    h'.nextBenchPulse.trans h.nextBenchPulse, h.frame.trans h'.frame⟩

section
variable (s : State)

theorem State.endOrder_pulseGoesOn (i : Fin 4) (o : Order) (result : OrderResult) :
    s.pulseGoesOn (s.endOrder i o result) := by
  have hwch : (s.endOrder i o result).wch.linePos = s.wch.linePos ∧
      (s.endOrder i o result).wch.lastPulse = s.wch.lastPulse ∧
      (s.endOrder i o result).wch.nextBenchPulse = s.wch.nextBenchPulse := by
    cases h : o.isActive with
    | true => rw [s.endOrder_wch result h]; exact ⟨rfl, rfl, rfl⟩
    | false => rw [s.endOrder_wch_posted i o result h]; exact ⟨rfl, rfl, rfl⟩
  obtain ⟨hline, hlast, hnext⟩ := hwch
  exact ⟨s.endOrder_motorEases i o result, hline, hlast, hnext, s.endOrder_frame i o result⟩

theorem State.putOrder_pulseGoesOn (i : Fin 4) (o : Order) : s.pulseGoesOn (s.withWch (s.wch.putOrder i o)) :=
  ⟨.inl ⟨rfl, rfl⟩, rfl, rfl, rfl, fun b hb => by cases b <;> first | rfl | exact absurd (by simp) hb⟩

theorem State.stopped_wch : (s.setWinchDuty 0).wch = { s.wch with duty := 0, moving := false, pwm := 0 } := by
  simp [State.setWinchDuty]

theorem State.stopped_pulseGoesOn : s.pulseGoesOn (s.setWinchDuty 0) :=
  ⟨s.setWinchDuty_zero_motorEases, rfl, rfl, rfl, fun b hb => by cases b <;> first | rfl | exact absurd (by simp) hb⟩

theorem State.countForOrder_pulseGoesOn (dir : WinchDir) : s.pulseGoesOn (s.countForOrder dir) := by
  unfold State.countForOrder
  split
  · exact .rfl
  split
  · exact .rfl
  dsimp only
  split
  · exact (s.putOrder_pulseGoesOn _ _).trans (State.endOrder_pulseGoesOn _ _ _ _)
  · exact s.putOrder_pulseGoesOn _ _

theorem State.limitAtPulse_pulseGoesOn (dir : WinchDir) : s.pulseGoesOn (s.limitAtPulse dir) := by
  have hended : s.pulseGoesOn (if s.wch.payingOut then s.endActive .lineEnd else s) := by
    unfold State.endActive
    split
    · split
      · exact s.endOrder_pulseGoesOn _ _ _
      · exact .rfl
    · exact .rfl
  have hstopped (v : State) (h : s.pulseGoesOn v) :
      s.pulseGoesOn (if 0 < v.wch.duty then v.setWinchDuty 0 else v) := by
    split
    · exact h.trans v.stopped_pulseGoesOn
    · exact h
  unfold State.limitAtPulse
  split
  · exact hstopped _ hended
  · exact .rfl

/-! ### The order counted for (R107) -/

theorem OrderKind.dir_eq_iff {k : OrderKind} {dir : WinchDir} (hdir : dir ≠ .none) :
    k.dir = dir ↔ if k = .haul ∨ k = .haulTurns then dir = .haul else dir = .payout := by
  cases k <;> cases dir <;> simp_all [OrderKind.dir, OrderKind.hauls]

theorem OrderKind.dir_eq_payout_iff {k : OrderKind} : k.dir = .payout ↔ k.hauls = false := by
  cases k <;> simp [OrderKind.dir, OrderKind.hauls]

/-- The order of a slot with a pulse counted for it. -/
def Order.pulsed (o : Order) (r : OrderRun) (turns : Nat) : Order :=
  { o with phase := .active { r with pulseCount := r.pulseCount + 1 }, turnsDone := turns }

theorem State.countForOrder_none {dir : WinchDir} (h : s.wch.active = none) : s.countForOrder dir = s := by
  simp only [State.countForOrder, h]

variable {s} {i : Fin 4} {o : Order} {r : OrderRun} {dir : WinchDir}

theorem State.countForOrder_against (ha : s.wch.active = some (i, o, r)) (h : o.kind.dir ≠ dir) :
    s.countForOrder dir = s := by
  have hne : (o.kind.dir != dir) = true := bne_iff_ne.2 h
  simp only [State.countForOrder, ha, hne, if_true]

/-- With its pulse counted the order has its turns (R107). -/
def Order.turnsReached (p : Order) : Prop :=
  (p.kind = .haulTurns ∨ p.kind = .payoutTurns) ∧ ∃ n, p.turns = some n ∧ n ≤ p.turnsDone

/-- A pulse in the order's direction is counted. -/
theorem State.countForOrder_counts (ha : s.wch.active = some (i, o, r)) (h : o.kind.dir = dir)
    (hr : ¬(o.pulsed r (turnsAt s.cfg (r.pulseCount + 1))).turnsReached) :
    s.countForOrder dir = s.withWch (s.wch.putOrder i (o.pulsed r (turnsAt s.cfg (r.pulseCount + 1)))) := by
  have heq : (o.kind.dir != dir) = false := bne_eq_false_iff_eq.2 h
  simp only [State.countForOrder, ha, heq, Bool.false_eq_true, if_false]
  refine if_neg fun hc => hr ?_
  simpa [Order.turnsReached, Order.pulsed, OrderKind.counted_iff, Option.any_eq_true] using hc

/-- The pulse that brings the order its turns ends it (R107). -/
theorem State.countForOrder_reaches (ha : s.wch.active = some (i, o, r)) (h : o.kind.dir = dir)
    (hr : (o.pulsed r (turnsAt s.cfg (r.pulseCount + 1))).turnsReached) :
    s.countForOrder dir =
      (s.withWch (s.wch.putOrder i (o.pulsed r (turnsAt s.cfg (r.pulseCount + 1))))).endOrder i
        (o.pulsed r (turnsAt s.cfg (r.pulseCount + 1))) .ok := by
  have heq : (o.kind.dir != dir) = false := bne_eq_false_iff_eq.2 h
  simp only [State.countForOrder, ha, heq, Bool.false_eq_true, if_false]
  refine if_pos ?_
  simpa [Order.turnsReached, Order.pulsed, OrderKind.counted_iff, Option.any_eq_true] using hr

/-! ### The line limit (R95) -/

/-- Away from the limit a pulse ends nothing. -/
theorem State.limitAtPulse_away (h : ¬(dir = .payout ∧ s.wch.atLimit s.cfg = true)) : s.limitAtPulse dir = s :=
  if_neg fun hc => h (by simpa using hc)

theorem Wch.payingOut_eq {w : Wch} (ha : w.active = some (i, o, r)) : w.payingOut = !o.kind.hauls := by
  simp [Wch.payingOut, ha]

/-- At the limit a positive duty goes to 0 where no order pays out. -/
theorem State.limitAtPulse_stops (hdir : dir = .payout) (h : s.wch.atLimit s.cfg = true)
    (hp : s.wch.payingOut = false) :
    s.limitAtPulse dir = if 0 < s.wch.duty then s.setWinchDuty 0 else s := by
  subst hdir
  simp [State.limitAtPulse, h, hp]

/-- An order that pays out ends there, and the motor with it. -/
theorem State.limitAtPulse_ends (hdir : dir = .payout) (h : s.wch.atLimit s.cfg = true)
    (ha : s.wch.active = some (i, o, r)) (hp : o.kind.hauls = false) :
    s.limitAtPulse dir = s.endOrder i o .lineEnd := by
  obtain ⟨-, hphase, -⟩ := s.wch.active_spec i o r ha
  obtain ⟨hduty, -, -⟩ := s.endOrder_stops i o .lineEnd (by simp [Order.isActive, Order.run?, hphase])
  subst hdir
  simp [State.limitAtPulse, h, Wch.payingOut_eq ha, hp, State.endActive, ha, hduty]

end

/-- The clock and the next injected pulse, past the count and the limit. -/
theorem State.pulseSeen_now (s : State) (now : Nat) (next : Option Nat) (dir : WinchDir) :
    (((s.pulseSeen now next).countForOrder dir).limitAtPulse dir).settle.now = now :=
  ((State.countForOrder_pulseGoesOn _ dir).trans (State.limitAtPulse_pulseGoesOn _ dir)).frame .now (by simp)

theorem State.pulseSeen_nextBenchPulse (s : State) (now : Nat) (next : Option Nat) (dir : WinchDir) :
    (((s.pulseSeen now next).countForOrder dir).limitAtPulse dir).settle.wch.nextBenchPulse = next :=
  ((State.countForOrder_pulseGoesOn _ dir).trans (State.limitAtPulse_pulseGoesOn _ dir)).nextBenchPulse

/-! ### A pulse counted (R93, R95, R107) -/

/-- The position a pulse brings leaves a referenced line at or above its limit (R95). -/
def State.pulseAtLimit (s : State) : Prop :=
  s.wch.dir = .payout ∧ s.wch.referenced = true ∧
    ((s.cfg.lineMax * s.cfg.pulsesPerTurn : Nat) : Int) ≤
      if s.wch.dir = .payout then min 32767 (s.wch.linePos + 1) else max (-32768) (s.wch.linePos - 1)

theorem linePosAfter_eq {dir : WinchDir} (hdir : dir ≠ .none) (pos : Int) :
    linePosAfter dir pos = if dir = .payout then min 32767 (pos + 1) else max (-32768) (pos - 1) := by
  cases dir <;> simp_all [linePosAfter]

/-- The pulse seen, with the slots as its count leaves them. -/
def State.pulseTaken (s : State) (now : Nat) (next : Option Nat) (slots : PerSlot (Option Order)) : State :=
  (s.pulseSeen now next).withWch { (s.pulseSeen now next).wch with slots := slots }

section
variable {s : State} {now : Nat} {next : Option Nat} {slots : PerSlot (Option Order)}

theorem State.pulseTaken_atLimit :
    s.wch.dir = .payout ∧ (s.pulseTaken now next slots).wch.atLimit s.cfg = true ↔ s.pulseAtLimit := by
  refine and_congr_right fun hdir => ?_
  rw [Wch.atLimit_iff, if_pos hdir]
  simp [State.pulseTaken, State.pulseSeen, linePosAfter, hdir]

/-- An order that pays out ends at the limit. -/
theorem State.pulseTaken_ends {i : Fin 4} {o : Order} {r : OrderRun} (hl : s.pulseAtLimit)
    (ha : (s.pulseTaken now next slots).wch.active = some (i, o, r)) (hp : o.kind.hauls = false) :
    (s.pulseTaken now next slots).limitAtPulse s.wch.dir = (s.pulseTaken now next slots).endOrder i o .lineEnd :=
  State.limitAtPulse_ends hl.1 (State.pulseTaken_atLimit.2 hl).2 ha hp

/-- A pulse that ends no order: at the limit a positive duty goes to 0 (R95), however that condition is decided. -/
theorem State.pulseTaken_goesOn (hdir : s.wch.dir ≠ .none)
    (hp : s.pulseAtLimit → (s.pulseTaken now next slots).wch.payingOut = false) :
    let t := ((s.pulseTaken now next slots).limitAtPulse s.wch.dir).settle
    let stops := s.pulseAtLimit ∧ 0 < s.wch.duty
    (∀ _ : Decidable stops, t.wch =
      { s.wch with
        linePos := if s.wch.dir = .payout then min 32767 (s.wch.linePos + 1) else max (-32768) (s.wch.linePos - 1)
        lastPulse := some t.now, nextBenchPulse := t.wch.nextBenchPulse, slots := slots
        duty := if stops then 0 else s.wch.duty
        moving := if stops then false else s.wch.moving
        pwm := if stops then 0 else s.wch.pwm }) ∧
    changesOnly [.now, .wch, .drv] s t := by
  intro t stops
  have hframe (u : State) (hu : unchangedBut [.now, .wch, .drv] s u) : changesOnly [.now, .wch, .drv] s u.settle :=
    changesOnly_settle (fun b hb _ _ => hu b hb) (hu .acp (by simp)) (hu .rsc (by simp))
  rw [← linePosAfter_eq hdir]
  by_cases hstops : stops
  · obtain ⟨hpay, hlimit⟩ := (State.pulseTaken_atLimit (now := now) (next := next) (slots := slots)).2 hstops.1
    have ht : t = ((s.pulseTaken now next slots).setWinchDuty 0).settle := by
      have hduty : 0 < (s.pulseTaken now next slots).wch.duty := hstops.2
      simp only [t, State.limitAtPulse_stops hpay hlimit (hp hstops.1), if_pos hduty]
    rw [ht]
    refine ⟨fun _ => ?_, hframe _ fun b hb => by cases b <;> first | rfl | exact absurd (by simp) hb⟩
    simp only [if_pos hstops]
    rw [State.settle_wch, State.stopped_wch]
    rfl
  · have ht : t = (s.pulseTaken now next slots).settle := by
      by_cases hlimit : s.pulseAtLimit
      · obtain ⟨hpay, hat⟩ := (State.pulseTaken_atLimit (now := now) (next := next) (slots := slots)).2 hlimit
        have hduty : ¬0 < (s.pulseTaken now next slots).wch.duty := fun hd => hstops ⟨hlimit, hd⟩
        simp only [t, State.limitAtPulse_stops hpay hat (hp hlimit), if_neg hduty]
      · have haway := State.limitAtPulse_away (s := s.pulseTaken now next slots) (dir := s.wch.dir)
          fun h => hlimit (State.pulseTaken_atLimit.1 h)
        simp only [t, haway]
    rw [ht]
    refine ⟨fun _ => ?_, hframe _ fun b hb => by cases b <;> first | rfl | exact absurd (by simp) hb⟩
    simp only [if_neg hstops]
    rfl

/-- A pulse that ends the ACTIVE order, its record already counted (R106). -/
theorem pulseEnds_endOrder {i : Fin 4} {o p : Order} (result : OrderResult) (turns : Nat)
    (hraise : ∀ v : State, v.raiseResult result = v) (hp : p.isActive = true)
    (hended : p.ended result =
      { o with phase := if result = .ok then .done else .failed, result := some result, turnsDone := turns }) :
    pulseEnds s ((s.pulseTaken now next (s.wch.slots.set i (some p))).endOrder i p result).settle i o turns result := by
  have hwch := (s.pulseTaken now next (s.wch.slots.set i (some p))).endOrder_wch (i := i) result hp
  have hgrt := (s.pulseTaken now next (s.wch.slots.set i (some p))).endOrder_grt i p result
  have hacp := (s.pulseTaken now next (s.wch.slots.set i (some p))).endOrder_acp_eq i p result hraise
  have hfns := (s.pulseTaken now next (s.wch.slots.set i (some p))).endOrder_fns i p result
  have hslots : (s.pulseTaken now next (s.wch.slots.set i (some p))).wch.slots = s.wch.slots.set i (some p) := rfl
  unfold pulseEnds
  rw [State.settle_wch, hwch, hslots, PerSlot.set_set, hended]
  refine ⟨rfl, hfns, ?_, ?_, ?_⟩
  · rw [State.settle_grt, hgrt]
    rfl
  · rw [State.settle_latches, hacp]
    rfl
  · have hrsc : ((s.pulseTaken now next (s.wch.slots.set i (some p))).endOrder i p result).rsc = s.rsc := by simp; rfl
    rw [rscIdle, State.settle_rsc, hrsc, State.idleAfter_eq_idleUntil (s := s) (by rw [hrsc])]

/-- With no order ACTIVE and the motor at rest a pulse at the limit leaves all as it was. -/
theorem State.limitAtPulse_rest {dir : WinchDir} (ha : s.wch.active = none) (hduty : s.wch.duty = 0) :
    s.limitAtPulse dir = s := by
  simp [State.limitAtPulse, Wch.payingOut, ha, hduty]

/-- A pulse counted (R93, R95, R106, R107). -/
theorem pulseCounted_limitAtPulse (hdir : s.wch.dir ≠ .none) :
    pulseCounted s (((s.pulseSeen now next).countForOrder s.wch.dir).limitAtPulse s.wch.dir).settle := by
  obtain ⟨hmotor, hline, hlast, -, hframe⟩ :=
    ((s.pulseSeen now next).countForOrder_pulseGoesOn s.wch.dir).trans
      (State.limitAtPulse_pulseGoesOn ((s.pulseSeen now next).countForOrder s.wch.dir) s.wch.dir)
  have hnow : (((s.pulseSeen now next).countForOrder s.wch.dir).limitAtPulse s.wch.dir).now = now :=
    hframe .now (by simp)
  have hseen : unchangedBut [.now, .wch] s (s.pulseSeen now next) := fun b hb => by
    cases b <;> first | rfl | exact absurd (by simp) hb
  have hmoved : s.motorEases (((s.pulseSeen now next).countForOrder s.wch.dir).limitAtPulse s.wch.dir).settle :=
    (State.motorEases.trans (.inl ⟨rfl, rfl⟩) hmotor).to_moved rfl rfl
  refine ⟨hline.trans (linePosAfter_eq hdir _), hlast.trans (congrArg some hnow.symm), hmoved.driveFollows,
    (hseen.append hframe).settle (by simp) (by simp) (by simp), fun hnone => ?none, fun i o r ha hone => ?order⟩
  case none =>
    dsimp only
    have hcount : (s.pulseSeen now next).countForOrder s.wch.dir = s.pulseSeen now next :=
      State.countForOrder_none _ ((Wch.active_congr rfl).trans hnone)
    rw [hcount]
    have hpays : (s.pulseTaken now next s.wch.slots).wch.payingOut = false := by
      simp [Wch.payingOut, Wch.active_congr (w := s.wch) (w' := (s.pulseTaken now next s.wch.slots).wch) rfl, hnone]
    obtain ⟨hwch, hchanges⟩ := State.pulseTaken_goesOn hdir fun _ => hpays
    exact ⟨hwch _, hchanges⟩
  case order =>
    have hactive : (s.pulseSeen now next).wch.active = some (i, o, r) := (Wch.active_congr rfl).trans ha
    have hkind := OrderKind.dir_eq_iff (k := o.kind) hdir
    let counted := o.pulsed r (turnsAt s.cfg (r.pulseCount + 1))
    have hput : (s.pulseTaken now next (s.wch.slots.set i (some counted))).wch.active = some (i, counted, _) :=
      Wch.active_of_only (PerSlot.get_set_same _ _ _) rfl (Wch.activeAt_set hone rfl)
    have hcounts (hc) (hr : ¬counted.turnsReached) :
        (s.pulseSeen now next).countForOrder s.wch.dir = s.pulseTaken now next (s.wch.slots.set i (some counted)) :=
      State.countForOrder_counts hactive (hkind.2 hc) hr
    refine ⟨fun hc => ?against, fun hc hr => ?reached, fun hc hr hl => ?lineEnd, fun hc hr hl => ?carried⟩
    case against =>
      dsimp only
      rw [State.countForOrder_against hactive fun h => hc (hkind.1 h)]
      have hpays (hl : s.pulseAtLimit) : (s.pulseTaken now next s.wch.slots).wch.payingOut = false := by
        rw [Wch.payingOut_eq (w := (s.pulseTaken now next s.wch.slots).wch) hactive, Bool.not_eq_false']
        exact eq_true_of_ne_false fun hpay =>
          hc (hkind.1 ((OrderKind.dir_eq_payout_iff.2 hpay).trans hl.1.symm))
      obtain ⟨hwch, hchanges⟩ := State.pulseTaken_goesOn hdir hpays
      exact ⟨hwch _, hchanges⟩
    case reached =>
      have hcount : (s.pulseSeen now next).countForOrder s.wch.dir =
          (s.pulseTaken now next (s.wch.slots.set i (some counted))).endOrder i counted .ok :=
        State.countForOrder_reaches hactive (hkind.2 hc) hr
      have hat : (s.pulseTaken now next (s.wch.slots.set i (some counted))).wch.activeAt i :=
        ⟨counted, PerSlot.get_set_same _ _ _, rfl⟩
      rw [hcount, State.limitAtPulse_rest (State.endOrder_active_none _ .ok (Wch.activeAt_set hone rfl) hat)
        (State.endOrder_stops _ i counted .ok rfl).1]
      exact pulseEnds_endOrder .ok _ (fun _ => rfl) rfl rfl
    case lineEnd =>
      have hpays : counted.kind.hauls = false := OrderKind.dir_eq_payout_iff.1 ((hkind.2 hc).trans hl.1)
      rw [hcounts hc hr, State.pulseTaken_ends hl hput hpays]
      exact pulseEnds_endOrder .lineEnd _ (fun _ => rfl) rfl rfl
    case carried =>
      dsimp only
      rw [hcounts hc hr]
      obtain ⟨hwch, hchanges⟩ := State.pulseTaken_goesOn hdir fun hl' => absurd hl' hl
      exact ⟨hwch _, hchanges⟩

end

/-! ### WINCH_ZERO (R94) -/

theorem Wch.activeSlot_isNone_iff {w : Wch} : w.activeSlot.isNone = true ↔ w.active = none := by
  rw [Wch.active_eq_none_iff, Option.isNone_iff_eq_none, Wch.activeSlot, List.find?_eq_none]
  simp [Wch.activeAt, Option.any_eq_true, allSlots, Fin.forall_fin_succ]

section
variable {s : State}

theorem State.winchZero_references (ha : s.wch.active = none) (hduty : s.wch.duty = 0) :
    s.winchZero = (s.withWch { s.wch with linePos := 0, referenced := true }).respond .ok [] :=
  if_pos (by simp [Wch.activeSlot_isNone_iff.2 ha, hduty])

theorem State.winchZero_refused (h : s.wch.active ≠ none ∨ s.wch.duty ≠ 0) : s.winchZero = s.respond .refusedState [] :=
  if_neg fun hc => by
    rw [Bool.and_eq_true, Wch.activeSlot_isNone_iff, beq_iff_eq] at hc
    exact h.elim (· hc.1) (· hc.2)

theorem exec_winchZero_awake (hopen : s.portOpen) (hrun : s.rsc.run ≠ .sleep) :
    exec (.winchZero []) s = .next s.winchZero.settle :=
  winchCommand_awake noData [] State.winchZero hopen hrun

end

/-- Settles O50: a pulse seen is counted for the ACTIVE order of its direction, then the line limit is judged. -/
theorem drumPulsesCount : Obligations.DrumPulsesCount := by
  intro s
  refine ⟨fun hrun hdir => ?seen, fun h => ?unseen, fun due hdue => ?injected,
    fun hopen hrun => ⟨fun ha hduty => ?references, fun h => ?refused⟩,
    fun hopen hrun => winchCommand_asleep noData [] State.winchZero hopen hrun⟩
  case seen =>
    exact ⟨_, exec_drumPulse_seen s hrun hdir, s.pulseSeen_now _ _ _, s.pulseSeen_nextBenchPulse _ _ _,
      pulseCounted_limitAtPulse hdir⟩
  case unseen =>
    exact ⟨_, exec_drumPulse_unseen s h, changesOnly_settle (fun b _ _ _ => by cases b <;> rfl) rfl rfl⟩
  case injected =>
    refine ⟨_, exec_benchDrumPulse_eq s hdue, ?_⟩
    by_cases hdir : s.wch.dir = .none
    · rw [s.benchPulsed_unseen _ hdir]
      refine ⟨rfl, rfl, fun h => absurd hdir h, fun _ => ⟨rfl, changesOnly_settle (fun b hb _ _ => ?_) rfl rfl⟩⟩
      cases b <;> first | rfl | exact absurd (by simp) hb
    · rw [s.benchPulsed_seen _ hdir]
      have hnow := s.pulseSeen_now (max s.now due) (some (max s.now due + benchInterval s.wch.drumRate)) s.wch.dir
      refine ⟨hnow, (s.pulseSeen_nextBenchPulse _ _ _).trans ?_, fun _ => pulseCounted_limitAtPulse hdir,
        fun h => absurd h hdir⟩
      rw [hnow]
      rfl
  case references =>
    rw [exec_winchZero_awake hopen hrun, State.winchZero_references ha hduty]
    exact ⟨_, rfl, by rw [State.settle_wch]; rfl, answersWith_winch hrun _⟩
  case refused =>
    rw [exec_winchZero_awake hopen hrun, State.winchZero_refused h]
    exact ⟨_, rfl, answersWith_unmoved hrun⟩

end Sys2Proof.Machine
end

section
/-! PROOFS. O47 to O49: the winch step at which an order starts (R104), and the steps that are events of their own: a
timeout, a starvation, a stall, the end of a retry pause (R108 to R112, log 3). -/

namespace Sys2Proof.Machine

section
variable {s t : State} {i : Fin 4} {o : Order} {r : OrderRun}

/-! ### The order that starts (R104) -/

/-- The oldest POSTED order, by its place in the post list. -/
theorem Wch.oldestPosted_at {w : Wch} {before after : List (Fin 4)} (hlist : w.postList = before ++ i :: after)
    (ho : w.slots.get i = some o) (hposted : o.phase = .posted)
    (hbefore : ∀ j ∈ before, (w.slots.get j).any (fun p => p.phase == .posted) = false) :
    w.oldestPosted = some (i, o) :=
  (w.oldestWith_eq_some _ i o).2 ⟨before, after, hlist, ho, beq_iff_eq.2 hposted, hbefore⟩

theorem OrderKind.not_hauls_iff (k : OrderKind) : (!k.hauls) = true ↔ k = .payout ∨ k = .payoutTurns := by
  cases k <;> simp [OrderKind.hauls]

/-- The conditions of R104 that do not concern one order. -/
theorem State.mayStartOrder_iff : s.mayStartOrder = true ↔
    s.wch.runFlag = true ∧ s.holderOf .winch = .ap ∧ s.wch.active = none ∧ s.winchMayDrive = true := by
  simp only [State.mayStartOrder, Bool.and_eq_true, beq_iff_eq, Wch.activeSlot_isNone_iff, and_assoc]

/-- What the order that starts at a step carries (R104, R169). -/
def State.runAt (s : State) (now : Nat) : OrderRun :=
  { startTime := now, pulseCount := 0, pauseStart := none, currentTimer := none, drumTimer := none
    armed := s.wch.stallArm }

/-- The order ACTIVE from a step on. -/
def State.startedAt (s : State) (now : Nat) (o : Order) : Order := { o with phase := .active (s.runAt now) }

/-- The step once the oldest POSTED order has become ACTIVE. -/
def State.orderTaken (s : State) (now next : Nat) (i : Fin 4) (o : Order) : State :=
  s.atStep ((s.firstMarks now next).put i (s.startedAt now o))

/-- The oldest POSTED order becomes ACTIVE, and ends at once where it pays out at the line limit (R104). -/
theorem State.startOrder_takes (hmay : s.mayStartOrder = true) (hold : s.wch.oldestPosted = some (i, o))
    (now next : Nat) :
    (s.atStep (s.firstMarks now next)).startOrder =
      if !o.kind.hauls && s.wch.atLimit s.cfg then
        (s.orderTaken now next i o).endOrder i (s.startedAt now o) .lineEnd
      else s.orderTaken now next i o := by
  have hmay' : (s.atStep (s.firstMarks now next)).mayStartOrder = true := hmay
  have hold' : (s.atStep (s.firstMarks now next)).wch.oldestPosted = some (i, o) := hold
  simp only [State.startOrder, hmay', hold', if_true]
  rfl

theorem State.onlyActive_of_none (hnone : s.wch.active = none) (i : Fin 4) : ∀ j, s.wch.activeAt j → j = i :=
  fun j hj => absurd hj (s.wch.active_eq_none_iff.1 hnone j)

/-- It is the only ACTIVE order. -/
theorem State.orderTaken_active (hone : ∀ j, s.wch.activeAt j → j = i) (now next : Nat) :
    (s.orderTaken now next i o).wch.active = some (i, s.startedAt now o, s.runAt now) ∧
      ∀ j, (s.orderTaken now next i o).wch.activeAt j → j = i :=
  State.atStep_active hone rfl rfl

/-- What a check ends at the step of the start ends as it would end an ACTIVE order, and the motor stands (R106). -/
theorem State.orderTaken_ended (result : OrderResult) (hap : s.holderOf .winch = .ap)
    (hone : ∀ j, s.wch.activeAt j → j = i) (now next : Nat) :
    ((s.orderTaken now next i o).endOrder i (s.startedAt now o) result).driveWinch =
      ((s.orderTaken now next i o).endOrder i (s.startedAt now o) result).finishWinchStep 0 := by
  obtain ⟨hactive, hone'⟩ := State.orderTaken_active (o := o) hone now next
  exact State.driveWinch_ended (s := s.orderTaken now next i o) result hap hactive hone'

theorem orderEnded_orderTaken (result : OrderResult) (hap : s.holderOf .winch = .ap)
    (hone : ∀ j, s.wch.activeAt j → j = i) (now next : Nat) :
    orderEnded s (((s.orderTaken now next i o).endOrder i (s.startedAt now o) result).finishWinchStep 0).settle i o
      result :=
  orderEnded_finish result hap hone rfl rfl rfl

/-- A paying-out order at the line limit ends at the step of its start (R104). -/
theorem orderEnded_blocked (hmay : s.mayStartOrder = true) (hold : s.wch.oldestPosted = some (i, o))
    (hb : (!o.kind.hauls && s.wch.atLimit s.cfg) = true) (now next : Nat) :
    orderEnded s (s.stepBegins now next).winchWork.settle i o .lineEnd := by
  obtain ⟨-, hap, hnone, -⟩ := State.mayStartOrder_iff.1 hmay
  have hone := State.onlyActive_of_none hnone i
  obtain ⟨hactive, hone'⟩ := State.orderTaken_active (o := o) hone now next
  have hended := State.endOrder_active_none _ (o := s.startedAt now o) .lineEnd hone' (Wch.activeAt_of_active _ hactive)
  rw [State.stepBegins_winchWork, State.startOrder_takes hmay hold, if_pos hb, State.orderChecks_none _ hended,
    State.orderTaken_ended .lineEnd hap hone]
  exact orderEnded_orderTaken .lineEnd hap hone now next

/-- Another one is taken through its checks and driven from that step on (R96). -/
theorem State.winchWork_starts (hmay : s.mayStartOrder = true) (hold : s.wch.oldestPosted = some (i, o))
    (hb : (!o.kind.hauls && s.wch.atLimit s.cfg) = false) (now next : Nat) :
    (s.stepBegins now next).winchWork = (s.orderTaken now next i o).orderChecks.driveWinch := by
  rw [State.stepBegins_winchWork, State.startOrder_takes hmay hold, hb]
  rfl

/-- A timeout of its own stands later than its start (R103, R108). -/
theorem State.startedAt_deadline (htimeout : 0 < o.timeout) (now : Nat) :
    now < orderDeadline (s.startedAt now o) (s.runAt now) :=
  Nat.lt_add_of_pos_right (Nat.mul_pos (Nat.mul_pos htimeout (by decide)) (by decide))

theorem orderEnded_starvedAtStart (hmay : s.mayStartOrder = true) (hold : s.wch.oldestPosted = some (i, o))
    (hb : (!o.kind.hauls && s.wch.atLimit s.cfg) = false) (htimeout : 0 < o.timeout)
    (hst : s.cfg.starveT ≤ s.bgt.starved.get .winch) (now next : Nat) :
    orderEnded s (s.stepBegins now next).winchWork.settle i o .starved ∧
      (s.stepBegins now next).winchWork.settle.faultLatched .winchStarved = true := by
  obtain ⟨-, hap, hnone, -⟩ := State.mayStartOrder_iff.1 hmay
  have hone := State.onlyActive_of_none hnone i
  obtain ⟨hactive, -⟩ := State.orderTaken_active (o := o) hone now next
  have hstarves : (s.orderTaken now next i o).winchStarves = true := decide_eq_true hst
  rw [State.winchWork_starts hmay hold hb,
    State.orderChecks_starved hactive (State.startedAt_deadline htimeout now) hstarves,
    State.orderTaken_ended .starved hap hone]
  exact ⟨orderEnded_orderTaken .starved hap hone now next, State.endOrder_latches _ fun _ => rfl⟩

theorem orderCarried_atStart (hmay : s.mayStartOrder = true) (hold : s.wch.oldestPosted = some (i, o))
    (hb : (!o.kind.hauls && s.wch.atLimit s.cfg) = false) (htimeout : 0 < o.timeout)
    (hfed : s.bgt.starved.get .winch < s.cfg.starveT) (now next : Nat) :
    orderCarried s (s.stepBegins now next).winchWork.settle i o (s.runAt now) := by
  obtain ⟨-, hap, hnone, -⟩ := State.mayStartOrder_iff.1 hmay
  have hone := State.onlyActive_of_none hnone i
  obtain ⟨hactive, -⟩ := State.orderTaken_active (o := o) hone now next
  have hfed' : (s.orderTaken now next i o).winchStarves = false := decide_eq_false (not_le.2 hfed)
  rw [State.winchWork_starts hmay hold hb,
    State.orderChecks_passes hactive (State.startedAt_deadline htimeout now) hfed' nofun]
  exact orderCarried_driveWinch hap hone rfl rfl rfl

/-! ### The events that are winch steps (log 3) -/

theorem exec_orderTimeout_active (ha : s.wch.active = some (i, o, r)) :
    exec .orderTimeout s = .next (s.stepBegins (max s.now (orderDeadline o r)) s.wch.nextStep).winchWork.settle := by
  simp only [exec, execOrderTimeout, ha]
  rfl

theorem exec_orderStarved_active (ha : s.wch.active = some (i, o, r)) (hst : s.cfg.starveT ≤ s.bgt.starved.get .winch) :
    exec .orderStarved s = .next (s.stepBegins s.now s.wch.nextStep).winchWork.settle := by
  have hstarves : s.winchStarves = true := decide_eq_true hst
  simp only [exec, execOrderStarved, ha, hstarves, Option.isSome_some, Bool.and_self, if_true]
  rfl

theorem exec_retryPauseEnd_active (ha : s.wch.active = some (i, o, r)) {start : Nat} (hp : r.pauseStart = some start) :
    exec .retryPauseEnd s = .next (s.stepBegins (max s.now (s.pauseEnd start)) s.wch.nextStep).winchWork.settle := by
  simp only [exec, execRetryPauseEnd, ha, hp, Option.bind_some]
  rfl

theorem exec_currentCheckStall_due {start : Nat} (ht : s.stallTimers.1 = some start) (hhigh : s.stallCurrent = true) :
    exec .currentCheckStall s =
      .next (s.stepBegins (max s.now (s.currentDue start)) s.wch.nextStep).winchWork.settle := by
  simp only [exec, execCurrentCheckStall, ht, State.estimateHigh_eq, hhigh, if_true]
  rfl

theorem exec_drumCheckStall_due {start : Nat} (ht : s.stallTimers.2 = some start) :
    exec .drumCheckStall s = .next (s.stepBegins (max s.now (s.drumDue start)) s.wch.nextStep).winchWork.settle := by
  simp only [exec, execDrumCheckStall, ht]
  rfl

theorem State.stallTimers_order (hap : s.holderOf .winch = .ap) (ha : s.wch.active = some (i, o, r)) :
    s.stallTimers = (r.currentTimer, r.drumTimer) := by
  simp only [State.stallTimers, hap, beq_self_eq_true, if_true, ha]

theorem State.stallTimers_direct (hap : s.holderOf .winch ≠ .ap) :
    s.stallTimers = (s.wch.directCurrent, s.wch.directDrum) := by
  simp only [State.stallTimers, beq_false_of_ne hap, Bool.false_eq_true, if_false]

/-- The current check's condition where the estimate itself reaches STALL_I (R109). -/
theorem State.stallCurrent_of_estimate (h : ∃ pack : Int, s.published .packCurrent = some pack ∧
    ∃ rail : Int, s.published .servoCurrent = some rail ∧
      (s.cfg.stallI : Int) ≤ pack - rail - s.cfg.baseLoad - s.grantFor .drive - s.grantFor .lights) :
    s.stallCurrent = true := by
  obtain ⟨pack, hpack, rail, hrail, hle⟩ := h
  simp only [State.stallCurrent, hpack, hrail, Option.any_some, decide_eq_true_eq]
  exact le_max_of_le_right hle

/-! ### The motor that a step has driven (R97, R98) -/

/-- The duty a step has driven with is 0 where it lets nothing drive, or cap or value are 0. -/
theorem winchDriven.duty_eq_zero {lets : Prop} {value : Int} (h : winchDriven s t lets value)
    (hn : ¬(lets ∧ min 1000 (1000 * s.grantFor .winch / s.cfg.winchRated) ≠ 0 ∧ value ≠ 0)) : t.wch.duty = 0 := by
  obtain ⟨hcap, hopen, hclosed, -⟩ := h
  by_cases hlets : lets
  · rw [hopen hlets, hcap]
    exact not_not.1 fun hne => hn ⟨hlets, (clamped_ne_zero _ _).1 hne⟩
  · exact hclosed hlets

/-- A motor driven with a duty of 0 stands. -/
theorem winchDriven.stands {lets : Prop} {value : Int} (h : winchDriven s t lets value) (hzero : t.wch.duty = 0) :
    t.wch.moving = false ∧ t.wch.pwm = 0 := by
  obtain ⟨-, -, -, hmoving, hpwm, -⟩ := h
  simp [hmoving, hpwm, hzero]

/-! ### Stalls (R109 to R111) -/

/-- A step that carries an order whose stall timer has run its time has judged that stall. -/
theorem orderCarried.stalled (h : orderCarried s t i o r) (hdue : s.stallDue t.now r.currentTimer r.drumTimer) :
    orderStalled s t i o r := by
  unfold orderCarried at h
  extract_lets cap drives armed stalls at h
  obtain ⟨-, -, hstalls, hcarries⟩ := h
  by_cases hd : drives
  · exact hstalls ⟨hd, .inr hdue⟩
  · obtain ⟨hdriven, ⟨hdemand, hfns, -, hflag, -, hframe⟩, hslots⟩ := hcarries fun hs => hd hs.1
    have hzero : t.wch.duty = 0 := hdriven.duty_eq_zero fun ⟨hlets, hcap, hspeed⟩ =>
      hd ⟨hlets, hcap, mt o.signedSpeed_eq_zero.2 hspeed⟩
    obtain ⟨hmoving, hpwm⟩ := hdriven.stands hzero
    obtain ⟨hcap, -, -, -, -, -, hfollows⟩ := hdriven
    simp only [hzero, bne_self_eq_false, Bool.false_and, timerAfter, Bool.false_eq_true, if_false] at hslots
    exact ⟨fun hd' => absurd hd' hd, fun _ => ⟨fun hd' => absurd hd' hd, fun _ => hslots, hflag, hzero, hmoving, hpwm,
      hdemand, hcap, congrArg FnRecord.value (hfns .winch), hfollows, hframe⟩⟩

/-- A step under direct drive, whose stall timer has run its time with no hold present, has judged that stall. -/
theorem directStepped.stalled (h : directStepped s t) (hhold : s.wch.stallHold = false)
    (hdue : s.stallDue t.now s.wch.directCurrent s.wch.directDrum) : directStalled s t := by
  unfold directStepped at h
  extract_lets cap value held open' drives stalls at h
  have hheld : ¬held := fun hh => Bool.false_ne_true (hhold.symm.trans hh.1)
  obtain ⟨-, -, hstalls, hgoes⟩ := h
  by_cases hd : drives
  · exact hstalls ⟨hd, hdue⟩
  · obtain ⟨hdriven, -, hkept, -, -, hcurrent, hdrum, hslots, hframe⟩ := hgoes fun hs => hd hs.1
    have hzero : t.wch.duty = 0 := hdriven.duty_eq_zero hd
    obtain ⟨hmoving, hpwm⟩ := hdriven.stands hzero
    obtain ⟨-, -, -, -, -, -, hfollows⟩ := hdriven
    simp only [hzero, bne_self_eq_false, Bool.false_and, timerAfter, Bool.false_eq_true, if_false] at hcurrent hdrum
    exact ⟨hcurrent, hdrum, hzero, hmoving, hpwm, fun ⟨hrun, hst, hsw, hen, hcap, hvalue, hlimit⟩ =>
      absurd ⟨⟨hrun, hst, hsw, hen, hheld, hlimit⟩, hcap, hvalue⟩ hd,
      fun _ => hkept.trans (decide_eq_false hheld), hslots, hfollows, hframe⟩

/-- A step before the timeout and with the grant fed carries an order out of its pause, and finds the stall
that is due. -/
theorem orderStepped.stalled (h : orderStepped s t i o r) (hdeadline : t.now < r.startTime + o.timeout * 100 * msec)
    (hfed : s.bgt.starved.get .winch < s.cfg.starveT) (hp : r.pauseStart = none)
    (hdue : s.stallDue t.now r.currentTimer r.drumTimer) : orderStalled s t i o r := by
  obtain ⟨-, -, hgoes⟩ := h
  exact ((hgoes hdeadline hfed).1 hp).stalled hdue

/-- An order carried with its stall timers stopped and no arm of its own meets no stall: each timer starts where it is
driven (R109, R110). -/
theorem orderCarried.afresh (h : orderCarried s t i o r) (hcurrent : r.currentTimer = none) (hdrum : r.drumTimer = none)
    (harmed : r.armed = false) :
    winchDriven s t (s.winchOpen o) o.signedSpeed ∧ orderAsked s t o ∧
      t.wch.slots = s.wch.slots.set i (some
        { o with
          phase := .active
            { r with
              currentTimer := if t.wch.duty ≠ 0 ∧ s.estimateHigh = true then some t.now else none
              drumTimer := if t.wch.duty ≠ 0 then some t.now else none } }) := by
  unfold orderCarried at h
  extract_lets cap drives armed stalls at h
  obtain ⟨-, -, -, hcarries⟩ := h
  have hn : ¬stalls := by
    rintro ⟨-, ⟨-, ha⟩ | hdue⟩
    · exact Bool.false_ne_true (harmed.symm.trans ha)
    · simp [State.stallDue, hcurrent, hdrum] at hdue
  obtain ⟨hdriven, hasked, hslots⟩ := hcarries hn
  refine ⟨hdriven, hasked, hslots.trans ?_⟩
  simp [timerAfter, hcurrent, hdrum, State.estimateHigh_eq]

end

/-! ### O47 to O49 -/

/-- Settles O47: the oldest POSTED order becomes ACTIVE (`State.startOrder_takes`), and the checks and the drive of the
same step find it so. -/
theorem orderStarts : Obligations.OrderStarts := by
  intro s i o before after hlist ho hposted hbefore hnone hflag hap hrun hst hsw hen htimeout
  extract_lets blocked
  have hmay : s.mayStartOrder = true :=
    State.mayStartOrder_iff.2 ⟨hflag, hap, hnone, s.winchMayDrive_iff.2 ⟨hrun, hst, hsw, hen⟩⟩
  have hold := Wch.oldestPosted_at hlist ho hposted hbefore
  have hblocked : (!o.kind.hauls && s.wch.atLimit s.cfg) = true ↔ blocked := by
    rw [Bool.and_eq_true, Wch.atLimit_iff, OrderKind.not_hauls_iff]
  have hopen (hn : ¬blocked) : (!o.kind.hauls && s.wch.atLimit s.cfg) = false := eq_false_of_ne_true (mt hblocked.1 hn)
  obtain ⟨hnow, hnext⟩ := s.winchWork_times (max s.now s.wch.nextStep) (max s.now s.wch.nextStep + stepPeriod)
  refine ⟨fun hn hfed => ⟨_, exec_winchStep s, hnow, hnext.trans (congrArg (· + stepPeriod) hnow.symm), ?carried⟩,
    fun hn hstarved => ⟨_, exec_winchStep s, orderEnded_starvedAtStart hmay hold (hopen hn) htimeout hstarved _ _⟩,
    fun hb => ⟨_, exec_winchStep s, orderEnded_blocked hmay hold (hblocked.2 hb) _ _⟩⟩
  case carried =>
    change orderCarried s _ i o (s.runAt _)
    rw [hnow]
    exact orderCarried_atStart hmay hold (hopen hn) htimeout hfed _ _

/-- Settles O48: both are winch steps, judged by `orderStepped_winchWork`. -/
theorem orderTimesOutOrStarves : Obligations.OrderTimesOutOrStarves := by
  intro s i o r ha hap hone
  extract_lets deadline timedOut
  refine ⟨⟨_, exec_orderTimeout_active ha, ?timeout⟩, fun hst => ⟨_, exec_orderStarved_active ha hst, ?starved⟩⟩
  case timeout =>
    have hnow := (s.winchWork_times (max s.now deadline) s.wch.nextStep).1
    obtain ⟨hends, -⟩ := orderStepped_winchWork hap ha hone (max s.now deadline) s.wch.nextStep
    exact ⟨hnow, hends (hnow.symm ▸ le_max_right _ _)⟩
  case starved =>
    have hnow := (s.winchWork_times s.now s.wch.nextStep).1
    obtain ⟨hends, hstarves, -⟩ := orderStepped_winchWork hap ha hone s.now s.wch.nextStep
    rw [hnow] at hends hstarves
    refine ⟨hnow, hends, fun hlt => ?_⟩
    obtain ⟨hended, hlatched⟩ := hstarves hlt hst
    exact ⟨hended, hlatched, rfl⟩

/-- Settles O49: each is a winch step; an ACTIVE order's is judged by `orderStepped_winchWork`, a direct one by
`directStepped_winchWork`. -/
theorem stallsHandled : Obligations.StallsHandled := by
  intro s i o r start
  extract_lets currentDue drumDue estimateHigh
  refine ⟨fun ha hap hone hfed hp => ⟨fun hdrum hlt => ?drum, fun hcurrent hhigh hlt => ?current⟩,
    fun ha hap hone hp hcurrent hdrum harmed => ?pauseEnd,
    fun hnone hap hhold => ⟨fun hcurrent hhigh => ?directCurrent, fun hdrum => ?directDrum⟩⟩
  case drum =>
    have hnow := (s.winchWork_times drumDue s.wch.nextStep).1
    have hstepped := orderStepped_winchWork hap ha hone drumDue s.wch.nextStep
    have ht : s.stallTimers.2 = some start := by rw [State.stallTimers_order hap ha, hdrum]
    exact ⟨_, exec_drumCheckStall_due ht, hnow, hstepped.stalled (hnow.symm ▸ hlt) hfed hp
      (.inr ⟨start, hdrum, hnow.symm ▸ le_max_right _ _⟩)⟩
  case current =>
    have hnow := (s.winchWork_times currentDue s.wch.nextStep).1
    have hstepped := orderStepped_winchWork hap ha hone currentDue s.wch.nextStep
    have ht : s.stallTimers.1 = some start := by rw [State.stallTimers_order hap ha, hcurrent]
    have hcheck := State.stallCurrent_of_estimate hhigh
    exact ⟨_, exec_currentCheckStall_due ht hcheck, hnow, hstepped.stalled (hnow.symm ▸ hlt) hfed hp
      (.inl ⟨hcheck, start, hcurrent, hnow.symm ▸ le_max_right _ _⟩)⟩
  case pauseEnd =>
    have hnow := (s.winchWork_times (max s.now (s.pauseEnd start)) s.wch.nextStep).1
    obtain ⟨hends, hstarves, hgoes⟩ :=
      orderStepped_winchWork hap ha hone (max s.now (s.pauseEnd start)) s.wch.nextStep
    refine ⟨_, exec_retryPauseEnd_active ha hp, hnow, hends, fun hlt hst => (hstarves hlt hst).1, fun hlt hfed => ?_⟩
    have hover := le_max_right s.now (s.pauseEnd start)
    rw [← hnow] at hover
    obtain ⟨hdriven, ⟨-, hfns, -, -, -, hframe⟩, hslots⟩ :=
      (((hgoes hlt hfed).2 start hp).1 hover).afresh hcurrent hdrum harmed
    obtain ⟨hcap, hopen, hclosed, -, -, -, hfollows⟩ := hdriven
    exact ⟨hslots, hcap, hopen, hclosed, congrArg FnRecord.value (hfns .winch), hfollows, hframe⟩
  case directCurrent =>
    have hnow := (s.winchWork_times currentDue s.wch.nextStep).1
    have hstepped := directStepped_winchWork hap hnone currentDue s.wch.nextStep
    have ht : s.stallTimers.1 = some start := by rw [State.stallTimers_direct hap, hcurrent]
    have hcheck := State.stallCurrent_of_estimate hhigh
    exact ⟨_, exec_currentCheckStall_due ht hcheck, hnow, hstepped.stalled hhold
      (.inl ⟨hcheck, start, hcurrent, hnow.symm ▸ le_max_right _ _⟩)⟩
  case directDrum =>
    have hnow := (s.winchWork_times drumDue s.wch.nextStep).1
    have hstepped := directStepped_winchWork hap hnone drumDue s.wch.nextStep
    have ht : s.stallTimers.2 = some start := by rw [State.stallTimers_direct hap, hdrum]
    exact ⟨_, exec_drumCheckStall_due ht, hnow, hstepped.stalled hhold
      (.inr ⟨start, hdrum, hnow.symm ▸ le_max_right _ _⟩)⟩

end Sys2Proof.Machine
end

section
/-! PROOFS. The draws of the eight outputs at a light frame boundary, and the trim that brings them within the grant (R119,
R129 to R132). -/

namespace Sys2Proof.Machine

variable {c : Settings} {grant : Nat} {duties : PerLamp Nat}

/-! ### Draws (R119) -/

theorem drawOf_mono (l : Lamp) {a b : Nat} (h : a ≤ b) : drawOf c l a ≤ drawOf c l b :=
  Nat.div_le_div_right (Nat.mul_le_mul_right _ h)

theorem totalDraw_mono {d e : PerLamp Nat} (h : ∀ l, d.get l ≤ e.get l) : totalDraw c d ≤ totalDraw c e :=
  List.sum_le_sum fun l _ => drawOf_mono l (h l)

/-- Of the sum of the draws, one output's part alone follows its duty. -/
theorem totalDraw_set (l : Lamp) (v : Nat) :
    totalDraw c (duties.set l v) + drawOf c l (duties.get l) = totalDraw c duties + drawOf c l v := by
  cases l <;> simp only [totalDraw, Lamp.all, PerLamp.get, PerLamp.set, List.map_cons, List.map_nil, List.sum_cons,
    List.sum_nil] <;> omega

theorem totalDraw_eq_zero (h : ∀ l, drawOf c l (duties.get l) = 0) : totalDraw c duties = 0 := by
  simp [totalDraw, h]

/-! ### The trim (R132) -/

/-- The duty an output is cut to draws no more than it is allowed. -/
theorem drawOf_allowed (l : Lamp) (allowed : Nat) : drawOf c l (1000 * allowed / c.ratedMa l) ≤ allowed := by
  unfold drawOf
  have h := Nat.div_mul_le_self (1000 * allowed) (c.ratedMa l)
  omega

/-- A visit raises no duty. -/
theorem trimOne_le (l j : Lamp) : (trimOne c grant duties l).get j ≤ duties.get j := by
  unfold trimOne
  dsimp only
  split
  · exact le_rfl
  · by_cases hj : j = l
    · rw [hj, PerLamp.get_set_same]
      exact min_le_left _ _
    · rw [PerLamp.get_set_other _ _ _ _ hj]

/-- A visit finds the draws within the grant, or brings them there, or leaves its output no draw. -/
theorem trimOne_settles (l : Lamp) :
    totalDraw c (trimOne c grant duties l) ≤ grant ∨ drawOf c l ((trimOne c grant duties l).get l) = 0 := by
  unfold trimOne
  dsimp only
  split
  next h =>
    simp only [Bool.or_eq_true, beq_iff_eq] at h
    exact h.imp_left Nat.sub_eq_zero_iff_le.1
  next =>
    rw [PerLamp.get_set_same]
    have hsum := totalDraw_set (c := c) (duties := duties) l (min (duties.get l)
      (1000 * (drawOf c l (duties.get l) - min (drawOf c l (duties.get l)) (totalDraw c duties - grant)) / c.ratedMa l))
    have hdraw := (drawOf_mono (c := c) l (min_le_right (duties.get l) _)).trans (drawOf_allowed l
      (drawOf c l (duties.get l) - min (drawOf c l (duties.get l)) (totalDraw c duties - grant)))
    omega

/-- Draws within the grant are left as they are. -/
theorem trimOne_within (l : Lamp) (h : totalDraw c duties ≤ grant) : trimOne c grant duties l = duties := by
  simp [trimOne, Nat.sub_eq_zero_of_le h]

theorem trim_within (visits : List Lamp) (h : totalDraw c duties ≤ grant) :
    visits.foldl (trimOne c grant) duties = duties := by
  induction visits with
  | nil => rfl
  | cons l visits ih => rw [List.foldl_cons, trimOne_within l h, ih]

/-- After visits no duty has risen, and the draws are within the grant or every output visited has none. -/
theorem trim_settles (visits : List Lamp) (duties : PerLamp Nat) :
    (∀ l, (visits.foldl (trimOne c grant) duties).get l ≤ duties.get l) ∧
    (totalDraw c (visits.foldl (trimOne c grant) duties) ≤ grant ∨
      ∀ l ∈ visits, drawOf c l ((visits.foldl (trimOne c grant) duties).get l) = 0) := by
  induction visits generalizing duties with
  | nil => exact ⟨fun _ => le_rfl, .inr nofun⟩
  | cons l visits ih =>
    obtain ⟨hle, hsettled⟩ := ih (trimOne c grant duties l)
    refine ⟨fun j => (hle j).trans (trimOne_le l j), ?_⟩
    rcases trimOne_settles (c := c) (grant := grant) (duties := duties) l with hwithin | hnone
    · exact .inl ((totalDraw_mono hle).trans hwithin)
    · exact hsettled.imp_right fun h =>
        List.forall_mem_cons.2 ⟨Nat.eq_zero_of_le_zero ((drawOf_mono l (hle l)).trans_eq hnone), h⟩

theorem mem_trimOrder (l : Lamp) : l ∈ trimOrder c := by
  cases h : c.essential l <;> simp [trimOrder, h]

/-- R132: after the trim the draws are within the grant. -/
theorem totalDraw_trimDuties : totalDraw c (trimDuties c grant duties) ≤ grant := by
  obtain ⟨-, hwithin | hnone⟩ := trim_settles (c := c) (grant := grant) (trimOrder c) duties
  · exact hwithin
  · exact (totalDraw_eq_zero fun l => hnone l (mem_trimOrder l)).trans_le grant.zero_le

theorem trimDuties_le (l : Lamp) : (trimDuties c grant duties).get l ≤ duties.get l :=
  (trim_settles (trimOrder c) duties).1 l

theorem trimDuties_within (h : totalDraw c duties ≤ grant) : trimDuties c grant duties = duties := trim_within _ h

/-- The trim of the model is the one of Safety.lean, visit for visit. -/
theorem trimDuties_eq_cutToGrant : trimDuties c grant duties = cutToGrant c grant duties := by
  have hvisit : trimOne c grant = cutAt c grant := by
    funext duties l
    simp [trimOne, cutAt, drawOf, totalDraw, drawnBy]
  have horder : trimOrder c = (Lamp.all.reverse.filter fun l => c.essential l = false) ++
      Lamp.all.reverse.filter fun l => c.essential l = true := by
    simp [trimOrder, List.filter_reverse]
  rw [trimDuties, hvisit, horder]
  rfl

/-! ### How far the dimmed draws exceed the grant (R129 to R131) -/

/-- A scale takes no more of a demand than the grant allows (R129, R131). -/
theorem scaleOf_le (grant demand : Nat) : scaleOf grant demand ≤ 1000 ∧ scaleOf grant demand * demand ≤ 1000 * grant := by
  unfold scaleOf
  split
  next h => simp [eq_of_beq h]
  next =>
    exact ⟨min_le_left _ _, (Nat.mul_le_mul_right _ (min_le_right _ _)).trans (Nat.div_mul_le_self _ _)⟩

/-- One output's draw at a dimmed duty, against the draw of the base duty it is dimmed from: each rounds down. -/
theorem drawOf_dimmed (l : Lamp) (base scale : Nat) :
    1000000 * drawOf c l (base * scale / 1000) ≤ scale * (1000 * drawOf c l base + 999) := by
  unfold drawOf
  have hduty : 1000 * (base * scale / 1000) ≤ base * scale := Nat.mul_div_le _ _
  have hdraw : 1000 * (base * scale / 1000 * c.ratedMa l / 1000) ≤ base * scale / 1000 * c.ratedMa l := Nat.mul_div_le _ _
  have hbase : base * c.ratedMa l ≤ 1000 * (base * c.ratedMa l / 1000) + 999 := by omega
  calc 1000000 * (base * scale / 1000 * c.ratedMa l / 1000)
      ≤ 1000 * (base * scale / 1000 * c.ratedMa l) := by omega
    _ = 1000 * (base * scale / 1000) * c.ratedMa l := by ring
    _ ≤ base * scale * c.ratedMa l := Nat.mul_le_mul_right _ hduty
    _ = scale * (base * c.ratedMa l) := by ring
    _ ≤ _ := Nat.mul_le_mul_left _ hbase

theorem sum_drawOf_dimmed (base : PerLamp Nat) (scale : Nat) (lamps : List Lamp) :
    1000000 * (lamps.map fun l => drawOf c l (base.get l * scale / 1000)).sum ≤
      scale * (1000 * (lamps.map fun l => drawOf c l (base.get l)).sum + 999 * lamps.length) := by
  induction lamps with
  | nil => simp
  | cons l lamps ih =>
    have h := drawOf_dimmed (c := c) l (base.get l) scale
    simp only [List.map_cons, List.sum_cons, List.length_cons]
    linarith

/-- At most eight outputs, dimmed by the scale of their own demand, exceed the grant by 7 mA at most: the part of a
milliampere that each base draw rounds away. -/
theorem sum_drawOf_scaled (base : PerLamp Nat) (lamps : List Lamp) (h : lamps.length ≤ 8) :
    (lamps.map fun l => drawOf c l (base.get l *
      scaleOf grant (lamps.map fun l => drawOf c l (base.get l)).sum / 1000)).sum ≤ grant + 7 := by
  generalize hd : (lamps.map fun l => drawOf c l (base.get l)).sum = demand
  obtain ⟨hscale, hdemand⟩ := scaleOf_le grant demand
  have hsum := sum_drawOf_dimmed (c := c) base (scaleOf grant demand) lamps
  rw [hd] at hsum
  have hparts : scaleOf grant demand * lamps.length ≤ 1000 * 8 := Nat.mul_le_mul hscale h
  rw [Nat.mul_add, Nat.mul_left_comm, Nat.mul_left_comm _ 999] at hsum
  omega

end Sys2Proof.Machine
end

section
/-! PROOFS. What the draws of the lights are judged on, the panel: the operations and rules that leave it, and those that
darken it (R133). -/

namespace Sys2Proof.Machine

/-- What R132 reads of a state: the inputs latched at the latest boundary and the records of the eight outputs. -/
structure Panel where
  latched : Option LightInputs
  lamp : PerLamp LampRecord

/-- The panel of a state. -/
def State.panel (s : State) : Panel := ⟨s.lgt.latched, s.lgt.lamp⟩

/-- From `a` to `b` the latched inputs stand and no output draws more. -/
structure Panel.dims (a b : Panel) : Prop where
  latched : b.latched = a.latched
  draw : ∀ l, (b.lamp.get l).draw ≤ (a.lamp.get l).draw

theorem Panel.dims.rfl {a : Panel} : a.dims a := ⟨.refl _, fun _ => le_rfl⟩

theorem Panel.dims.trans {a b c : Panel} (h : a.dims b) (h' : b.dims c) : a.dims c :=
  ⟨h'.latched.trans h.latched, fun l => (h'.draw l).trans (h.draw l)⟩

variable {s t u : State}

/-- An answer leaves the panel. -/
theorem Panel.dims.answered {a : Panel} (h : a.dims t.panel) (st : Status) (d : List Byte) :
    a.dims (t.respond st d).panel := h

theorem State.panel_eq (h : t.lgt = s.lgt) : t.panel = s.panel := congrArg (fun x : Lgt => Panel.mk x.latched x.lamp) h

/-- An operation that goes on from a state with the same panel. -/
theorem State.dims_of_eq (h : u.panel.dims t.panel) (hu : u.panel = s.panel) : s.panel.dims t.panel := hu ▸ h

theorem State.respond_panel (st : Status) (d : List Byte) : (s.respond st d).panel = s.panel := rfl

theorem State.raise_panel (e : FaultEntry) : (s.raise e).panel = s.panel := rfl

/-- Draws within the grant they were latched with stay within it where they do not grow. -/
theorem State.lightsOk.dimmed (hok : s.lightsOk) (h : s.panel.dims t.panel) : t.lightsOk := by
  have hlatched : t.lgt.latched = s.lgt.latched := h.latched
  have hdraw (l : Lamp) : (t.lgt.lamp.get l).draw ≤ (s.lgt.lamp.get l).draw := h.draw l
  unfold State.lightsOk at *
  rw [hlatched]
  refine le_trans ?_ hok
  exact List.sum_le_sum (l := Lamp.all) (f := fun l => (t.lgt.lamp.get l).draw) fun l _ => hdraw l

section
variable (s)

/-! ### Rules that leave the panel -/

/-- A new grant table reaches the lights through the pending scene alone (R123). -/
@[simp] theorem State.commitGrants_panel (g : Grt) : (s.commitGrants g).panel = s.panel := by simp [State.panel]

theorem State.receiveFrame_panel (bytes : List Byte) : (s.receiveFrame bytes).panel = s.panel := by
  unfold State.receiveFrame State.handOn
  (repeat' split) <;> simp [State.panel]

theorem State.linkByte_panel (b : Byte) : (s.linkByte b).panel = s.panel := by
  unfold State.linkByte
  split
  · split <;> rfl
  split
  · exact State.receiveFrame_panel _ _
  · rfl

theorem State.presentPendant_panel (pressed : Bool) : (s.presentPendant pressed).panel = s.panel := by
  unfold State.presentPendant
  split
  · split <;> rfl
  · exact s.commitGrants_panel _

theorem State.drumPulse_panel : s.drumPulse.panel = s.panel := by
  have hcount (w : State) (d : WinchDir) : (w.countForOrder d).lgt = w.lgt := by
    unfold State.countForOrder
    dsimp only
    (repeat' split) <;> simp
  have hlimit (w : State) (d : WinchDir) : (w.limitAtPulse d).lgt = w.lgt := by
    unfold State.limitAtPulse
    dsimp only
    (repeat' split) <;> simp
  unfold State.drumPulse
  split
  · rfl
  · exact State.panel_eq (by simp [hcount, hlimit])

theorem State.grantTo_panel (f : Fn) (r : FnRecord) (st : Status) : (s.grantTo f r st).panel = s.panel :=
  s.commitGrants_panel _

theorem State.grantRule_panel (ps : List Byte) (rule : Fn → State → State)
    (h : ∀ f (w : State), (rule f w).panel = w.panel) : (s.grantRule ps rule).panel = s.panel := by
  unfold State.grantRule
  split
  · rfl
  split
  · rfl
  · exact h _ _

theorem State.claim_panel (f : Fn) : (s.claim f).panel = s.panel := by
  unfold State.claim
  split
  · rfl
  · exact s.grantTo_panel _ _ _

theorem State.setValue_panel (f : Fn) (v : Int) (q : Nat) : (s.setValue f v q).panel = s.panel := by
  unfold State.setValue
  dsimp only
  split
  · rfl
  split
  · rfl
  split
  · rfl
  · exact s.grantTo_panel _ _ _

theorem State.claimSet_panel (f : Fn) (v : Int) : (s.claimSet f v).panel = s.panel := by
  unfold State.claimSet
  split
  · rfl
  split
  · rfl
  split
  · rfl
  · exact s.grantTo_panel _ _ _

theorem State.releaseFn_panel (f : Fn) : (s.releaseFn f).panel = s.panel := by
  unfold State.releaseFn
  split
  · rfl
  · exact s.grantTo_panel _ _ _

theorem State.winchCommandRule_panel (d : List Byte) (rule : State → State) (h : ∀ w : State, (rule w).panel = w.panel) :
    (s.winchCommandRule d rule).panel = s.panel := by
  unfold State.winchCommandRule
  split
  · rfl
  · exact h _

theorem State.applySettings_panel (c : Settings) : (s.applySettings c).panel = s.panel := by
  unfold State.applySettings
  dsimp only
  split <;> simp [State.panel]

theorem State.cfgWrite_panel (ps : List Byte) : (s.cfgWrite ps).panel = s.panel := by
  have hedit (c : Settings) : (s.editConfig c).panel = s.panel := s.applySettings_panel c
  unfold State.cfgWrite
  dsimp only
  split
  · rfl
  split
  · rfl
  split
  · rfl
  · rw [State.respond_panel, hedit]

/-! ### The switch and the bench (R133) -/

theorem State.leaveClosed_dims : s.panel.dims s.leaveClosed.panel := by
  obtain ⟨-, -, hlgt, -⟩ := s.leaveClosed_spec
  rw [State.panel_eq (s := s.withLgt s.lgt.dark) hlgt]
  exact ⟨rfl, fun l => by simp [State.panel, Lgt.dark]⟩

theorem State.openSwitch_dims : s.panel.dims s.openSwitch.panel := by
  unfold State.openSwitch
  split
  · exact s.leaveClosed_dims
  · exact .rfl
  · exact .rfl

/-- Leaving BENCH-DRY discards what was computed there (R133, R171). -/
theorem State.leaveBench_dims (b : Bool) : s.panel.dims (s.leaveBench b).panel := by
  unfold State.leaveBench
  split
  next => exact .rfl
  next sv _ =>
    split
    · have hlgt : ((s.restoreSave sv b).leaveDry sv).lgt = s.lgt.discardTrial := by simp [State.leaveDry]
      rw [State.panel_eq (s := s.withLgt s.lgt.discardTrial) hlgt]
      exact ⟨rfl, fun l => by simp [State.panel, Lgt.discardTrial, Lgt.dark]⟩
    · exact .rfl

theorem State.haltWith_dims (b : Bool) : s.panel.dims (s.haltWith b).panel :=
  have hbase := (s.leaveBench_dims b).trans (State.openSwitch_dims _)
  have hpanel : (s.haltWith b).panel = (s.haltBase b).panel := State.commitGrants_panel _ _
  hpanel ▸ hbase

theorem State.enterSleep_dims (o : SleepOrigin) : s.panel.dims (s.enterSleep o).panel :=
  have hpanel : (s.enterSleep o).panel = s.openSwitch.panel := State.commitGrants_panel _ _
  hpanel ▸ s.openSwitch_dims

/-! ### LOCKOUT, the hard trip, precharge and start -/

theorem State.lockoutBegun_panel : s.lockoutBegun.panel = s.panel := State.panel_eq (by simp [State.lockoutBegun])

theorem State.enterCutoff_panel (c : CutCause) : (s.enterCutoff c).panel = s.panel := State.panel_eq (by simp)

theorem State.enterLockout_dims : s.panel.dims s.enterLockout.panel := by
  rw [State.enterLockout_eq, ← s.lockoutBegun_panel]
  split
  next => exact .rfl
  next => exact State.haltWith_dims _ _
  next => exact State.haltWith_dims _ _
  next => exact State.haltWith_dims _ _
  next => exact State.openSwitch_dims s.lockoutBegun

theorem State.hardTrip_dims : s.panel.dims s.hardTrip.panel := by
  unfold State.hardTrip
  split
  · exact s.enterCutoff_panel _ ▸ .rfl
  · exact s.enterCutoff_panel _ ▸ .rfl
  · split
    · exact s.enterLockout_dims
    · exact .rfl
  · exact .rfl

theorem State.prechargeFailed_dims : s.panel.dims s.prechargeFailed.panel := by
  unfold State.prechargeFailed
  split
  · exact s.haltWith_dims false
  · exact .rfl

theorem State.abortPrecharge_dims : s.panel.dims s.abortPrecharge.panel :=
  State.dims_of_eq (State.prechargeFailed_dims _) rfl

theorem State.failPrecharge_dims : s.panel.dims s.failPrecharge.panel :=
  State.dims_of_eq (State.prechargeFailed_dims _) rfl

theorem State.requestPrecharge_dims : s.panel.dims s.requestPrecharge.panel := by
  unfold State.requestPrecharge
  split
  · split
    · exact s.prechargeFailed_dims
    · dsimp only
      split
      · exact State.dims_of_eq (State.abortPrecharge_dims _) rfl
      · exact .rfl
  · exact .rfl

theorem State.makeStart_dims : s.panel.dims s.makeStart.panel :=
  State.dims_of_eq (State.requestPrecharge_dims _) rfl

theorem State.closeSwitch_dims : s.panel.dims s.closeSwitch.panel := by
  have hclosed : s.switchClosed.panel = s.panel := by
    unfold State.switchClosed State.prechargeSucceeded
    split <;> rfl
  rw [State.closeSwitch_eq, ← hclosed]
  split
  · exact State.hardTrip_dims _
  · exact .rfl

/-! ### The dwell timers, the bench and run control -/

theorem State.protTransition_dims (done : Dwell → Bool) (tapSeen : Bool) :
    s.panel.dims (s.protTransition done tapSeen).panel := by
  unfold State.protTransition
  split
  · exact s.enterLockout_dims
  split
  · exact s.enterCutoff_panel _ ▸ .rfl
  (repeat' split) <;> exact .rfl

theorem State.completeDwell_dims (k : Dwell) : s.panel.dims (s.completeDwell k).panel := by
  unfold State.completeDwell
  split
  · exact State.dims_of_eq (State.protTransition_dims _ _ _) rfl
  · exact .rfl

theorem State.protSample_dims (publishes tapSeen : Bool) : s.panel.dims (s.protSample publishes tapSeen).panel := by
  unfold State.protSample
  split
  · exact State.dims_of_eq (State.protTransition_dims _ _ _) rfl
  · exact s.protTransition_dims _ _

theorem State.injected_panel (code : Nat) (v : Int) (h : s.injected code v = some t) : t.panel = s.panel := by
  unfold State.injected at h
  (repeat' split at h) <;> cases h <;> rfl

theorem State.benchInject_panel (ps : List Byte) : (s.benchInject ps).panel = s.panel := by
  unfold State.benchInject
  split
  · rfl
  split
  next t h =>
    have hpanel : t.panel = s.panel := s.injected_panel _ _ h
    exact hpanel
  next => rfl

theorem State.benchDryRule_dims : s.panel.dims s.benchDryRule.panel := by
  unfold State.benchDryRule State.enterDry
  split
  · split
    · have htrip : s.panel.dims (s.enterBench .benchDry).hardTrip.panel := State.dims_of_eq (State.hardTrip_dims _) rfl
      exact htrip.answered _ _
    · exact .rfl
  · exact .rfl

theorem State.benchWetRule_dims : s.panel.dims s.benchWetRule.panel := by
  unfold State.benchWetRule
  split
  · exact .rfl
  split
  · exact .rfl
  split
  · exact .rfl
  · have hrequest : s.panel.dims (s.enterBench .benchWet).requestPrecharge.panel :=
      State.dims_of_eq (State.requestPrecharge_dims _) rfl
    exact hrequest.answered _ _

theorem State.sleepRule_dims : s.panel.dims s.sleepRule.panel := by
  unfold State.sleepRule
  split
  · exact (s.enterSleep_dims _).answered _ _
  · exact .rfl
  · exact .rfl

theorem State.startRule_dims : s.panel.dims s.startRule.panel := by
  unfold State.startRule
  split
  · exact .rfl
  split
  · exact .rfl
  split
  · exact .rfl
  split
  · exact .rfl
  · exact s.makeStart_dims.answered _ _

theorem State.finishLoad_dims (powerUp : Bool) : s.panel.dims (s.finishLoad powerUp).panel := by
  have hend (c : Settings) (valid : Bool) : (s.endLoad c valid).panel = s.panel := s.applySettings_panel c
  unfold State.finishLoad
  split
  next c _ =>
    have hstart : s.panel.dims (s.endLoad c true).startAfterLoad.panel := by
      rw [← hend c true]
      unfold State.startAfterLoad
      split
      · exact .rfl
      · exact State.makeStart_dims _
    have hstay : s.panel.dims (s.endLoad c true).panel := hend c true ▸ .rfl
    split_ifs <;> assumption
  next =>
    rw [State.raise_panel, hend]
    exact .rfl

theorem State.endWake_dims : s.panel.dims s.endWake.panel := by
  unfold State.endWake
  dsimp only
  split
  · exact State.dims_of_eq (State.makeStart_dims _) rfl
  · exact .rfl

end

end Sys2Proof.Machine
end

section
/-! PROOFS. O8: a light frame boundary trims the draws to the grant it latches, and every other command leaves the grant
latched and raises no draw. -/

namespace Sys2Proof.Machine

variable {s t u : State}

/-! ### The boundary and the resets -/

/-- R132: the draws after a boundary are within the grant it latched. -/
theorem State.lightFrame_lightsOk (s : State) : (s.withLgt s.lightFrame).lightsOk := by
  unfold State.lightsOk
  rw [State.withLgt_lgt, State.lightFrame]
  split
  next => exact totalDraw_trimDuties
  next => simp [Lgt.offFrame, lampRecords, PerLamp.toList, PerLamp.build, PerLamp.get, drawOf]

theorem State.lightsOk_of_fresh {now : Nat} (h : t.lgt = Lgt.fresh now) : t.lightsOk := by
  unfold State.lightsOk
  rw [h]
  exact le_rfl

/-! ### Every other command -/

/-- An outcome of `s` dims its panel. -/
def dimsPanel (s : State) (o : Host.Outcome State Fault Refusal) : Prop := ∀ t, o = .next t → s.panel.dims t.panel

theorem dimsPanel_completed (h : s.panel.dims u.panel) : dimsPanel s (completed u) := by
  rintro _ ⟨⟩
  exact h

/-- An event whose rule starts from a state with the same panel. -/
theorem dimsPanel_from (h : t.panel.dims u.panel) (ht : t.panel = s.panel) : dimsPanel s (completed u) :=
  dimsPanel_completed (State.dims_of_eq h ht)

theorem dimsPanel_of_eq (h : u.panel = s.panel) : dimsPanel s (completed u) := dimsPanel_completed (h ▸ .rfl)

theorem dimsPanel_taken {ok ex : Bool} {al : State → List Byte} {owner : State → State}
    (h : ∀ w : State, w.panel.dims (owner w).panel) : dimsPanel s (completed (s.takeCommand ok ex al owner)) := by
  apply dimsPanel_completed
  obtain ⟨st, d, e⟩ | ⟨-, e⟩ := s.takeCommand_cases ok ex al owner <;> rw [e]
  · exact .rfl
  · exact h s.wakeSource

/-- An accessory command whose rule leaves the panel. -/
theorem dimsPanel_heard {ok ex : Bool} {al : State → List Byte} {owner : State → State}
    (h : ∀ w : State, (owner w).panel = w.panel) : dimsPanel s (completed (s.takeCommand ok ex al owner)) :=
  dimsPanel_taken fun w => (h w) ▸ .rfl

theorem quiet_dimsPanel (c : Instr) (hc : quiet c = true) (hl : c ≠ .lightFrameBoundary) (s : State) :
    dimsPanel s (exec c s) := by
  cases c
  all_goals try exact Bool.noConfusion hc
  case lightFrameBoundary => exact absurd rfl hl
  case ocTripRelease | budgetPeriod | servoShort | driveStep | servoFrame | framingError | pendantEdge =>
    exact dimsPanel_of_eq rfl
  case winchStep => exact dimsPanel_of_eq (State.panel_eq (State.winchWork_lgt _))
  case orderTimeout | orderStarved | retryPauseEnd | currentCheckStall | drumCheckStall =>
    simp only [exec, execOrderTimeout, execOrderStarved, execRetryPauseEnd, execCurrentCheckStall, execDrumCheckStall]
    (repeat' split) <;> exact dimsPanel_of_eq (State.panel_eq (by simp))
  case drumPulse =>
    simp only [exec, execDrumPulse]
    split
    · exact dimsPanel_of_eq rfl
    · exact dimsPanel_of_eq s.drumPulse_panel
  case benchDrumPulse =>
    simp only [exec, execBenchDrumPulse]
    split
    · exact dimsPanel_of_eq (State.drumPulse_panel _)
    · exact dimsPanel_of_eq rfl
  case radioFrame => exact dimsPanel_of_eq (State.receiveFrame_panel _ _)
  case linkByteReceived => exact dimsPanel_of_eq (s.linkByte_panel _)
  case linkGapTimeout | replyTimerExpiry | replySent | acpUnknownWrite =>
    simp only [exec, execLinkGapTimeout, execReplyTimerExpiry, execReplySent, execAcpUnknownWrite]
    split <;> exact dimsPanel_of_eq rfl
  case dlFreshnessExpiry | apLeaseExpiry =>
    simp only [exec, execDlFreshnessExpiry, execApLeaseExpiry]
    split
    · exact dimsPanel_of_eq (State.commitGrants_panel _ _)
    · exact dimsPanel_of_eq rfl
  case pendantSettleExpiry =>
    simp only [exec, execPendantSettleExpiry]
    split
    · exact dimsPanel_of_eq rfl
    split
    · exact dimsPanel_of_eq rfl
    · exact dimsPanel_of_eq (State.presentPendant_panel _ _)
  case storeEnd =>
    simp only [exec, execStoreEnd, State.endStore]
    (repeat' split) <;> exact dimsPanel_of_eq rfl
  case status | readCause | faultNext | attnMask | runctlNoFlag => exact dimsPanel_heard fun _ => rfl
  case read => exact dimsPanel_heard fun w => by unfold State.readRule; split <;> rfl
  case faultAck => exact dimsPanel_heard fun w => by unfold State.faultAck; (repeat' split) <;> rfl
  case cfgRead => exact dimsPanel_heard fun w => by unfold State.cfgRead; dsimp only; split <;> rfl
  case cfgCheck => exact dimsPanel_heard fun w => by unfold State.cfgCheck; split <;> rfl
  case cfgStore => exact dimsPanel_heard fun w => by unfold State.cfgStore; (repeat' split) <;> rfl
  case sceneWrite => exact dimsPanel_heard fun w => by unfold State.sceneWrite; split <;> rfl
  case benchStall => exact dimsPanel_heard fun w => by unfold State.benchStall; split <;> rfl
  case cfgWrite => exact dimsPanel_heard fun w => w.cfgWrite_panel _
  case claim => exact dimsPanel_heard fun w => w.grantRule_panel _ _ fun f v => v.claim_panel f
  case set => exact dimsPanel_heard fun w => w.grantRule_panel _ _ fun f v => v.setValue_panel f _ _
  case claimSet => exact dimsPanel_heard fun w => w.grantRule_panel _ _ fun f v => v.claimSet_panel f _
  case release => exact dimsPanel_heard fun w => w.grantRule_panel _ _ fun f v => v.releaseFn_panel f
  case refresh => exact dimsPanel_heard fun w => by unfold State.refresh; split <;> rfl
  case winchPost =>
    refine dimsPanel_heard fun w => w.winchCommandRule_panel _ _ fun v => ?_
    unfold State.winchPost
    (repeat' split) <;> rfl
  case winchCancel =>
    refine dimsPanel_heard fun w => w.winchCommandRule_panel _ _ fun v => ?_
    unfold State.winchCancel
    split
    · rfl
    · exact State.panel_eq (by simp)
  case winchReap =>
    exact dimsPanel_heard fun w => w.winchCommandRule_panel _ _ fun v => by unfold State.winchReap; split <;> rfl
  case winchResume => exact dimsPanel_heard fun w => w.winchCommandRule_panel _ _ fun _ => rfl
  case winchZero =>
    exact dimsPanel_heard fun w => w.winchCommandRule_panel _ _ fun v => by unfold State.winchZero; split <;> rfl

/-- Every command but the boundary and the resets dims the panel. -/
theorem exec_dimsPanel (c : Instr) (hl : c ≠ .lightFrameBoundary) (hr : resets c = false) (s : State) :
    dimsPanel s (exec c s) := by
  by_cases hc : quiet c = true
  · exact quiet_dimsPanel c hc hl s
  have hstays : dimsPanel s (completed s) := dimsPanel_completed .rfl
  cases c
  all_goals try exact absurd rfl hc
  all_goals try exact Bool.noConfusion hr
  case sampleSet => exact dimsPanel_from (State.protSample_dims _ _ _) rfl
  case warnEntryComplete | warnExitComplete | cutTimerComplete | critTimerComplete | rearmTimerComplete =>
    exact dimsPanel_completed (s.completeDwell_dims _)
  case ocTripAssert =>
    simp only [exec, execOcTripAssert]
    split
    · exact hstays
    split
    · exact dimsPanel_from (State.hardTrip_dims _) rfl
    split
    · exact dimsPanel_from (State.abortPrecharge_dims _) rfl
    · exact dimsPanel_of_eq rfl
  case prechargeExpiry =>
    simp only [exec, execPrechargeExpiry]
    split
    · split
      · exact dimsPanel_from (State.closeSwitch_dims _) rfl
      · exact dimsPanel_from (State.failPrecharge_dims _) rfl
    · exact hstays
  case lockoutClear => exact dimsPanel_heard fun w => by unfold State.lockoutClear; split <;> rfl
  case benchInject => exact dimsPanel_heard fun w => w.benchInject_panel _
  case halt => exact dimsPanel_taken fun w => (w.haltWith_dims false).answered _ _
  case sleep => exact dimsPanel_taken State.sleepRule_dims
  case benchDry => exact dimsPanel_taken State.benchDryRule_dims
  case benchWet => exact dimsPanel_taken State.benchWetRule_dims
  case load => exact dimsPanel_heard fun w => by unfold State.loadRule; split <;> rfl
  case start => exact dimsPanel_taken State.startRule_dims
  case loadEnd =>
    simp only [exec, execLoadEnd]
    split
    · split
      · exact dimsPanel_from (State.finishLoad_dims _ _) rfl
      · exact hstays
    · exact hstays
  case wakeTimerExpiry =>
    simp only [exec, execWakeTimerExpiry]
    split
    · split
      · exact dimsPanel_from (State.endWake_dims _) rfl
      · exact hstays
    · exact hstays
  case armingTimerExpiry =>
    simp only [exec, execArmingTimerExpiry]
    (repeat' split) <;> exact dimsPanel_of_eq rfl
  case idleSleepExpiry =>
    simp only [exec, execIdleSleepExpiry]
    split
    · split
      · exact dimsPanel_from (State.enterSleep_dims _ _) rfl
      · exact hstays
    · exact hstays

/-- A reset begins with nothing drawn (R135). -/
theorem resets_lightsOk (c : Instr) (hr : resets c = true) (hok : s.lightsOk) (h : exec c s = .next t) : t.lightsOk := by
  cases c
  all_goals try exact Bool.noConfusion hr
  case powerOnReset | brownOutReset | pinReset =>
    cases h
    exact State.lightsOk_of_fresh rfl
  case reset params =>
    cases h
    obtain ⟨st, d, e⟩ | ⟨-, e⟩ :=
        s.takeCommand_cases (params.bytes.length == 0) false noData (State.softReset · params.strap) <;> rw [e]
    · exact hok
    · exact State.lightsOk_of_fresh (s.wakeSource.softReset_lgt params.strap)

/-- Settles O8: a boundary trims the draws to the grant it latches, a reset begins with none, and every other command
leaves the grant latched and raises no draw. -/
theorem lightDrawsWithinGrant : Obligations.LightDrawsWithinGrant := by
  intro s t hok h
  obtain rfl | ⟨c, rest, h⟩ := step_next h
  · exact hok
  by_cases hl : c = .lightFrameBoundary
  · subst hl
    cases h
    exact State.lightFrame_lightsOk _
  cases hr : resets c with
  | true => exact resets_lightsOk c hr (s := s.withPending rest) hok h
  | false => exact hok.dimmed (exec_dimsPanel c hl hr (s.withPending rest) t h)

end Sys2Proof.Machine
end

section
/-! PROOFS. O59: what a light frame boundary makes of the scene, the demand, the dimming, the trim and the lines (R119 to
R133). -/

namespace Sys2Proof.Machine

/-! ### The excess (R129 to R132) -/

/-- Outputs that draw nothing may be left out of a sum of draws. -/
theorem sum_map_filter_of_zero {p : Lamp → Bool} {f : Lamp → Nat} (h : ∀ l, p l = false → f l = 0) (lamps : List Lamp) :
    (lamps.map f).sum = ((lamps.filter p).map f).sum := by
  induction lamps with
  | nil => rfl
  | cons l lamps ih => cases hp : p l <;> simp [hp, h, ih]

section
variable {c : Settings} {i : LightInputs} {m : LightScene}

/-- The duty of a lit output dimmed by the scale in use (R130, R131). -/
theorem untrimmed_get (l : Lamp) : (untrimmed c i m).get l =
    if m.lit.get l = false ∨ (reducedMode c i (scaleOf i.grant m.demand) = true ∧ c.essential l = false) then 0
    else m.base.get l * (if reducedMode c i (scaleOf i.grant m.demand) then scaleOf i.grant m.essentialDemand
      else scaleOf i.grant m.demand) / 1000 := by
  simp [untrimmed, dutiesOf]

/-- Before the trim the draws exceed the grant by 7 mA at most (R132): in full mode all eight outputs are dimmed by the
scale of their demand, in reduced mode the essential ones by the scale of theirs. -/
theorem totalDraw_untrimmed_le (hdemand : m.demand = totalDraw c m.base)
    (hessential : m.essentialDemand = essentialDraw c m.base) : totalDraw c (untrimmed c i m) ≤ i.grant + 7 := by
  cases hr : reducedMode c i (scaleOf i.grant m.demand) with
  | false =>
    have hle : totalDraw c (untrimmed c i m) ≤
        (Lamp.all.map fun l => drawOf c l (m.base.get l * scaleOf i.grant m.demand / 1000)).sum := by
      refine List.sum_le_sum fun l _ => drawOf_mono l ?_
      rw [untrimmed_get, hr]
      split
      · exact Nat.zero_le _
      · exact le_rfl
    rw [hdemand] at hle
    exact hle.trans (sum_drawOf_scaled m.base Lamp.all le_rfl)
  | true =>
    have hdark (l : Lamp) (h : c.essential l = false) : drawOf c l ((untrimmed c i m).get l) = 0 := by
      rw [untrimmed_get, if_pos (.inr ⟨hr, h⟩)]
      simp [drawOf]
    have hle : totalDraw c (untrimmed c i m) ≤
        ((Lamp.all.filter c.essential).map fun l =>
          drawOf c l (m.base.get l * scaleOf i.grant m.essentialDemand / 1000)).sum := by
      rw [totalDraw, sum_map_filter_of_zero hdark]
      refine List.sum_le_sum fun l _ => drawOf_mono l ?_
      rw [untrimmed_get, hr]
      split
      · exact Nat.zero_le _
      · exact le_rfl
    rw [hessential] at hle
    exact hle.trans (sum_drawOf_scaled m.base _ (List.length_filter_le _ _))

end

/-! ### The scene (R119, R125 to R127) -/

theorem SceneEntry.base_eq (e : SceneEntry) : e.base = if e.mode = 0 then 0 else e.level := by simp [SceneEntry.base]

/-- Whether an output is lit, by the mode of its entry (R126, R127). -/
theorem SceneEntry.lit_spec (e : SceneEntry) (follow : List Bool) (counter : Nat) :
    (e.mode = 0 → e.lit follow counter = false) ∧ (e.mode = 1 → e.lit follow counter = true) ∧
    (e.mode = 2 → e.period ≠ 0 → e.lit follow counter = decide (counter * 20 / (e.period * 100) % 2 = e.phase)) ∧
    (e.mode = 3 → e.lit follow counter = follow.getD e.follow false) := by
  refine ⟨fun h => ?_, fun h => ?_, fun h hp => ?_, fun h => ?_⟩ <;> simp only [SceneEntry.lit, h]
  simp only [blinkOn, beq_iff_eq, hp, if_false, halfCycle]
  rfl

/-- The six follow sources (R125). -/
theorem followSources_eq (c : Settings) (i : LightInputs) (counter : Nat) :
    followSources c i counter =
      [i.brake, i.reverse, decide (i.steer < -(c.turnThresh : Int)), decide ((c.turnThresh : Int) < i.steer), i.winchRun,
        decide (i.prot ≠ .normal ∧ counter * 20 / 500 % 2 = 0)] := by
  cases hp : i.prot <;> simp [followSources, halfCycle, hp] <;> rfl

/-! ### Scales and modes (R129 to R131) -/

theorem scaleOf_eq (grant demand : Nat) :
    scaleOf grant demand = if demand = 0 then 1000 else min 1000 (1000 * grant / demand) := by simp [scaleOf]

theorem LightInputs.forced_eq (i : LightInputs) : i.forced = decide (i.prot = .cutoff ∨ i.prot = .lockout) := by
  rw [Bool.eq_iff_iff]
  simp [LightInputs.forced]

theorem reducedMode_eq (c : Settings) (i : LightInputs) (scale : Nat) :
    reducedMode c i scale = decide ((i.prot = .cutoff ∨ i.prot = .lockout) ∨ scale < c.reduceThresh) := by
  simp [reducedMode, LightInputs.forced_eq]

theorem State.lightsDriven_iff (s : State) : s.lightsDriven = true ↔ s.prot.sw = .closed ∧ s.rsc.run ≠ .benchDry := by
  simp [State.lightsDriven]

/-! ### Whether duties are computed (R128) -/

theorem LightInputs.computes_iff (i : LightInputs) : i.computes = true ↔
    ¬(i.lightsEn = false ∨ i.run = .halted ∨ i.run = .loading ∨ i.run = .sleep) := by
  cases he : i.lightsEn <;> cases hr : i.run <;> simp [LightInputs.computes, LightInputs.off, he, hr]

theorem LightInputs.off_iff_of_computes {i : LightInputs} (h : i.computes = true) : i.off = true ↔ i.run = .benchDry := by
  obtain ⟨he, hh, hl, hs⟩ := by simpa only [not_or] using i.computes_iff.1 h
  simp [LightInputs.off, he, hh, hl, hs]

/-! ### The boundary (R124) -/

section
variable (s : State)

/-- The scene of a boundary (R125 to R127). -/
def State.lightSceneNow (s : State) : LightScene :=
  lightScene s.cfg s.cfg.sceneTable s.lgt.pendingScene s.lightInputs s.lgt.blink

theorem State.lightFrame_eq :
    s.lightFrame = if s.lightInputs.computes then
      (s.lgt.latch s.cfg s.lightInputs s.now).onFrame s.lightSceneNow s.cfg s.lightInputs s.lightsDriven
    else (s.lgt.latch s.cfg s.lightInputs s.now).offFrame s.lightSceneNow s.cfg := rfl

theorem State.lightFrame_on (h : s.lightInputs.computes = true) :
    s.lightFrame =
      (s.lgt.latch s.cfg s.lightInputs s.now).onFrame s.lightSceneNow s.cfg s.lightInputs s.lightsDriven :=
  s.lightFrame_eq.trans (if_pos h)

theorem State.lightFrame_off (h : s.lightInputs.computes ≠ true) :
    s.lightFrame = (s.lgt.latch s.cfg s.lightInputs s.now).offFrame s.lightSceneNow s.cfg :=
  s.lightFrame_eq.trans (if_neg h)

/-- What every boundary latches and moves on, with the lights on or off (R121, R123 to R126). -/
theorem State.lightFrame_latches :
    s.lightFrame.nextFrame = s.now + 20 * msec ∧ s.lightFrame.frameTable = s.cfg.sceneTable ∧
    s.lightFrame.activeScene = s.lgt.pendingScene ∧ s.lightFrame.pendingScene = s.lgt.pendingScene ∧
    s.lightFrame.blink = (s.lgt.blink + 1) % 2 ^ 32 ∧ s.lightFrame.latched = some s.lightInputs ∧
    s.lightFrame.follow = followSources s.cfg s.lightInputs s.lgt.blink := by
  rw [State.lightFrame_eq]
  split <;> exact ⟨rfl, rfl, rfl, rfl, rfl, rfl, rfl⟩

/-- The outputs after a boundary at which duties are computed (R119, R133). -/
theorem State.lightFrame_lamp (h : s.lightInputs.computes = true) (l : Lamp) :
    s.lightFrame.lamp.get l =
      let duties := trimDuties s.cfg (s.grantFor .lights) (untrimmed s.cfg s.lightInputs s.lightSceneNow)
      { base := s.lightSceneNow.base.get l, lit := s.lightSceneNow.lit.get l, duty := duties.get l
        draw := drawOf s.cfg l (duties.get l), line := if s.lightsDriven then duties.get l else 0 } := by
  rw [s.lightFrame_on h]
  exact PerLamp.get_build _ _

theorem State.lightScene_base (l : Lamp) :
    s.lightSceneNow.base.get l = (frameEntry s.cfg.sceneTable s.lgt.pendingScene l).base := PerLamp.get_build _ _

theorem State.lightScene_lit (l : Lamp) :
    s.lightSceneNow.lit.get l = (frameEntry s.cfg.sceneTable s.lgt.pendingScene l).lit
      (followSources s.cfg s.lightInputs s.lgt.blink) s.lgt.blink := PerLamp.get_build _ _

/-- The figures of a boundary at which duties are computed (R128 to R132). -/
theorem State.lightFrame_figures (h : s.lightInputs.computes = true) :
    s.lightFrame.demand = s.lightSceneNow.demand ∧
    s.lightFrame.essentialDemand = s.lightSceneNow.essentialDemand ∧
    s.lightFrame.pubDemand = (if s.lightInputs.off then 0 else s.lightSceneNow.demand) ∧
    s.lightFrame.scale = scaleOf (s.grantFor .lights) s.lightSceneNow.demand ∧
    s.lightFrame.reduced = reducedMode s.cfg s.lightInputs (scaleOf (s.grantFor .lights) s.lightSceneNow.demand) ∧
    (s.lightFrame.reduced = true →
      s.lightFrame.essentialScale = scaleOf (s.grantFor .lights) s.lightSceneNow.essentialDemand) ∧
    s.lightFrame.forced = s.lightInputs.forced ∧
    s.lightFrame.excess = totalDraw s.cfg (untrimmed s.cfg s.lightInputs s.lightSceneNow) - s.grantFor .lights ∧
    s.lightFrame.trimmed = (s.lightFrame.excess != 0) := by
  rw [s.lightFrame_on h]
  exact ⟨rfl, rfl, rfl, rfl, rfl, fun hr => if_pos hr, rfl, rfl, rfl⟩

/-- The duties before the trim, from the figures and the records a boundary reports (R130, R131). -/
def Lgt.dimmed (x : Lgt) (c : Settings) (l : Lamp) : Nat :=
  if (x.lamp.get l).lit = false ∨ (x.reduced = true ∧ c.essential l = false) then 0
  else (x.lamp.get l).base * (if x.reduced then x.essentialScale else x.scale) / 1000

theorem State.lightFrame_dimmed (h : s.lightInputs.computes = true) :
    PerLamp.build (s.lightFrame.dimmed s.cfg) = untrimmed s.cfg s.lightInputs s.lightSceneNow := by
  obtain ⟨-, -, -, hscale, hreduced, hessential, -⟩ := s.lightFrame_figures h
  refine PerLamp.ext_get _ _ fun l => ?_
  have hused : (if s.lightFrame.reduced then s.lightFrame.essentialScale else s.lightFrame.scale) =
      if s.lightFrame.reduced then scaleOf (s.grantFor .lights) s.lightSceneNow.essentialDemand
      else scaleOf (s.grantFor .lights) s.lightSceneNow.demand := by
    split
    next hr => exact hessential hr
    next => exact hscale
  rw [PerLamp.get_build, untrimmed_get, Lgt.dimmed, hused, hreduced, s.lightFrame_lamp h]
  rfl

theorem State.lightFrame_dimmed_get (h : s.lightInputs.computes = true) (l : Lamp) :
    s.lightFrame.dimmed s.cfg l = (untrimmed s.cfg s.lightInputs s.lightSceneNow).get l := by
  rw [← s.lightFrame_dimmed h, PerLamp.get_build]

/-- The demands are the draws of the base duties, and none is published in BENCH-DRY (R127, R128). -/
theorem State.lightFrame_demands (h : s.lightInputs.computes = true) :
    s.lightFrame.demand = (Lamp.all.map fun l => (s.lightFrame.lamp.get l).base * s.cfg.ratedMa l / 1000).sum ∧
    s.lightFrame.essentialDemand =
      ((Lamp.all.filter s.cfg.essential).map fun l => (s.lightFrame.lamp.get l).base * s.cfg.ratedMa l / 1000).sum ∧
    s.lightFrame.pubDemand = (if s.rsc.run = .benchDry then 0 else s.lightFrame.demand) := by
  obtain ⟨hdemand, hessential, hpub, -⟩ := s.lightFrame_figures h
  simp only [s.lightFrame_lamp h]
  refine ⟨hdemand, hessential, ?_⟩
  rw [hpub, hdemand]
  exact if_congr (LightInputs.off_iff_of_computes h) rfl rfl

/-- The scales, and reduced mode (R129 to R131). -/
theorem State.lightFrame_scales (h : s.lightInputs.computes = true) :
    s.lightFrame.scale = (if s.lightFrame.demand = 0 then 1000
      else min 1000 (1000 * s.grantFor .lights / s.lightFrame.demand)) ∧
    s.lightFrame.reduced = decide ((s.prot.st = .cutoff ∨ s.prot.st = .lockout) ∨
      s.lightFrame.scale < s.cfg.reduceThresh) ∧
    (s.lightFrame.reduced = true → s.lightFrame.essentialScale = if s.lightFrame.essentialDemand = 0 then 1000
      else min 1000 (1000 * s.grantFor .lights / s.lightFrame.essentialDemand)) ∧
    s.lightFrame.forced = decide (s.prot.st = .cutoff ∨ s.prot.st = .lockout) := by
  obtain ⟨hdemand, hessential, -, hscale, hreduced, hessentialScale, hforced, -⟩ := s.lightFrame_figures h
  rw [hdemand, hessential, ← scaleOf_eq, ← scaleOf_eq]
  exact ⟨hscale, hreduced.trans (hscale ▸ reducedMode_eq _ _ _), hessentialScale, hforced.trans (LightInputs.forced_eq _)⟩

/-- The excess is what the dimmed draws have above the grant, by rounding alone, and the trim takes it (R132). -/
theorem State.lightFrame_trims (h : s.lightInputs.computes = true) :
    s.lightFrame.excess = drawnBy s.cfg (PerLamp.build (s.lightFrame.dimmed s.cfg)) - s.grantFor .lights ∧
    s.lightFrame.excess ≤ 7 ∧ s.lightFrame.trimmed = decide (s.lightFrame.excess ≠ 0) ∧
    (Lamp.all.map fun l => (s.lightFrame.lamp.get l).draw).sum ≤ s.grantFor .lights := by
  obtain ⟨-, -, -, -, -, -, -, hexcess, htrimmed⟩ := s.lightFrame_figures h
  have hle : totalDraw s.cfg (untrimmed s.cfg s.lightInputs s.lightSceneNow) ≤ s.grantFor .lights + 7 :=
    totalDraw_untrimmed_le rfl rfl
  refine ⟨?_, ?_, htrimmed.trans ?_, ?_⟩
  · rw [hexcess, s.lightFrame_dimmed h]
    rfl
  · rw [hexcess]
    exact Nat.sub_le_iff_le_add'.2 hle
  · rw [Bool.eq_iff_iff]
    simp
  · simp only [s.lightFrame_lamp h]
    exact totalDraw_trimDuties

/-- One output after a boundary at which duties are computed, by its scene entry and the trim (R119, R127, R132, R133). -/
theorem State.lightFrame_output (h : s.lightInputs.computes = true) (l : Lamp) :
    let e := frameEntry s.lightFrame.frameTable s.lightFrame.activeScene l
    let r := s.lightFrame.lamp.get l
    r.base = (if e.mode = 0 then 0 else e.level) ∧ (e.mode = 0 → r.lit = false) ∧ (e.mode = 1 → r.lit = true) ∧
    (e.mode = 2 → e.period ≠ 0 → r.lit = decide (s.lgt.blink * 20 / (e.period * 100) % 2 = e.phase)) ∧
    (e.mode = 3 → r.lit = s.lightFrame.follow.getD e.follow false) ∧
    r.draw = r.duty * s.cfg.ratedMa l / 1000 ∧
    r.duty = (cutToGrant s.cfg (s.grantFor .lights) (PerLamp.build (s.lightFrame.dimmed s.cfg))).get l ∧
    r.duty ≤ s.lightFrame.dimmed s.cfg l ∧ (s.lightFrame.excess = 0 → r.duty = s.lightFrame.dimmed s.cfg l) ∧
    r.line = if s.prot.sw = .closed ∧ s.rsc.run ≠ .benchDry then r.duty else 0 := by
  obtain ⟨-, -, -, -, -, -, -, hexcess, -⟩ := s.lightFrame_figures h
  obtain ⟨-, htable, hscene, -, -, -, hfollow⟩ := s.lightFrame_latches
  obtain ⟨hoff, hon, hblink, hfollows⟩ := (frameEntry s.cfg.sceneTable s.lgt.pendingScene l).lit_spec
    (followSources s.cfg s.lightInputs s.lgt.blink) s.lgt.blink
  rw [← s.lightScene_lit] at hoff hon hblink hfollows
  dsimp only
  rw [s.lightFrame_dimmed h, s.lightFrame_dimmed_get h, s.lightFrame_lamp h, hexcess, htable, hscene, hfollow]
  exact ⟨(s.lightScene_base l).trans (SceneEntry.base_eq _), hoff, hon, hblink, hfollows, rfl,
    congrArg (·.get l) trimDuties_eq_cutToGrant, trimDuties_le l,
    fun hex => congrArg (·.get l) (trimDuties_within (Nat.sub_eq_zero_iff_le.1 hex)),
    if_congr s.lightsDriven_iff rfl rfl⟩

/-- With the lights off nothing is demanded, driven or trimmed (R128). -/
theorem State.lightFrame_dark (h : s.lightInputs.computes ≠ true) :
    s.lightFrame.pubDemand = 0 ∧ s.lightFrame.scale = 1000 ∧ s.lightFrame.reduced = false ∧
    s.lightFrame.trimmed = false ∧ s.lightFrame.excess = 0 ∧
    ∀ l, (s.lightFrame.lamp.get l).duty = 0 ∧ (s.lightFrame.lamp.get l).draw = 0 ∧ (s.lightFrame.lamp.get l).line = 0 := by
  rw [s.lightFrame_off h]
  exact ⟨rfl, rfl, rfl, rfl, rfl, fun l => by simp [Lgt.offFrame, lampRecords, drawOf]⟩

theorem exec_lightFrameBoundary :
    exec .lightFrameBoundary s =
      .next ((s.reach s.lgt.nextFrame).withLgt (s.reach s.lgt.nextFrame).lightFrame).settle := rfl

end

/-- Settles O59: what every boundary latches, then with the lights off `lightFrame_dark`, and else the demands, the scales,
the trim and each output. -/
theorem lightFrameDrives : Obligations.LightFrameDrives := by
  intro s
  obtain ⟨hnext, htable, hscene, hpending, hblink, hlatched, hfollow⟩ := (s.reach s.lgt.nextFrame).lightFrame_latches
  refine ⟨_, exec_lightFrameBoundary s, rfl, hnext, htable, hscene, hpending, hblink, hlatched,
    hfollow.trans (followSources_eq _ _ _), ⟨fun hoff => ?off, fun hon => ?on⟩,
    changesOnly_settle (fun b hb _ _ => ?frame) rfl rfl⟩
  case off =>
    exact State.lightFrame_dark (s.reach s.lgt.nextFrame) fun h => (LightInputs.computes_iff _).1 h hoff
  case on =>
    have hc : (s.reach s.lgt.nextFrame).lightInputs.computes = true := (LightInputs.computes_iff _).2 hon
    obtain ⟨hdemand, hessential, hpub⟩ := State.lightFrame_demands _ hc
    obtain ⟨hscale, hreduced, hessentialScale, hforced⟩ := State.lightFrame_scales _ hc
    obtain ⟨hexcess, hle, htrimmed, hdraws⟩ := State.lightFrame_trims _ hc
    exact ⟨hdemand, hessential, hpub, hscale, hreduced, hessentialScale, hforced, hexcess, hle, htrimmed, hdraws,
      State.lightFrame_output _ hc⟩
  case frame =>
    cases b with
    | now | lgt => exact absurd (by simp) hb
    | _ => rfl

end Sys2Proof.Machine
end

section
/-! PROOFS. O60: a scene entry written, a measurement substituted and a stall armed (R122, R168, R169). -/

namespace Sys2Proof.Machine

/-! ### The working copy written (R122) -/

/-- The bytes after a write inside the working copy: those written where they were written, the old ones elsewhere. -/
theorem Settings.write_getD {c : Settings} {offset : Nat} {data : List Byte} (h : offset + data.length ≤ c.bytes.length)
    (i : Nat) : (c.write offset data).bytes.getD i 0 =
      if offset ≤ i ∧ i < offset + data.length then data.getD (i - offset) 0 else c.bytes.getD i 0 := by
  have hfront : (c.bytes.take offset).length = offset := List.length_take_of_le (by omega)
  simp only [Settings.write, List.append_assoc, List.getD_eq_getElem?_getD]
  by_cases hlow : i < offset
  · rw [if_neg (by omega), List.getElem?_append_left (by omega), List.getElem?_take_of_lt hlow]
  rw [List.getElem?_append_right (by omega), hfront]
  by_cases hhigh : i < offset + data.length
  · rw [if_pos ⟨by omega, hhigh⟩, List.getElem?_append_left (by omega)]
  · rw [if_neg (by omega), List.getElem?_append_right (by omega), List.getElem?_drop,
      show offset + data.length + (i - offset - data.length) = i by omega]

/-- What SCENE_WRITE asks of its parameters (R120, R122). -/
theorem sceneWriteOk_iff (sc out b1 b2 b3 : Byte) : sceneWriteOk [sc, out, b1, b2, b3] = true ↔
    let e := sceneEntryOf b1.toNat b2.toNat b3.toNat
    sc.toNat ≤ 7 ∧ out.toNat ≤ 7 ∧ e.level ≤ 1000 ∧ (e.mode = 2 → 2 ≤ e.period ∧ e.period ≤ 20) ∧
      (e.mode = 3 → e.follow ≤ 5) := by
  simp [sceneWriteOk, param, SceneEntry.levelOk, SceneEntry.periodOk, SceneEntry.followOk, and_assoc, imp_iff_not_or]

section
variable {s : State}

/-! ### Commands that reach their rule (R147) -/

theorem exec_sceneWrite (hopen : s.portOpen) (sc out b1 b2 b3 : Byte) :
    exec (.sceneWrite [sc, out, b1, b2, b3]) s = .next (s.wakeSource.sceneWrite [sc, out, b1, b2, b3]).settle :=
  congrArg completed (s.takeCommand_taken false noData (State.sceneWrite · _) (.inl hopen))

theorem exec_benchInject (hopen : s.portOpen) (q v1 v2 v3 v4 : Byte) :
    exec (.benchInject [q, v1, v2, v3, v4]) s = .next (s.wakeSource.benchInject [q, v1, v2, v3, v4]).settle :=
  congrArg completed (s.takeCommand_taken false noData (State.benchInject · _) (.inl hopen))

theorem exec_benchStall (hopen : s.portOpen) : exec (.benchStall []) s = .next s.wakeSource.benchStall.settle :=
  congrArg completed (s.takeCommand_taken false noData State.benchStall (.inl hopen))

/-! ### SCENE_WRITE (R122) -/

/-- The entry's three bytes stand inside the working copy. -/
theorem sceneAt_within {scene output : Nat} (hs : scene ≤ 7) (ho : output ≤ 7) : sceneAt scene output + 3 ≤ 350 := by
  simp only [sceneAt]
  omega

/-- A working copy put in the place of the old one. -/
def State.withWork (s : State) (c : Settings) : State := s.withRsc { s.rsc with work := c }

theorem State.sceneWrite_accepted {ps : List Byte} (h : sceneWriteOk ps = true) :
    s.sceneWrite ps =
      (s.withWork (s.cfg.write (sceneAt (param ps 0) (param ps 1)) ((ps.drop 2).take 3))).respond .ok [] := if_pos h

theorem State.sceneWrite_refused {ps : List Byte} (h : ¬sceneWriteOk ps = true) :
    s.sceneWrite ps = s.respond .badValue [] := if_neg h

/-- An answer after the working copy alone is replaced. -/
theorem answered_withWork (c : Settings) (status : Status) (data : List Byte) :
    ((s.wakeSource.withWork c).respond status data).settle.rsc =
        { s.wakeSource.rsc with
          work := c, idleEnd := s.idleUntil ((s.wakeSource.withWork c).respond status data).settle } ∧
      answers s ((s.wakeSource.withWork c).respond status data).settle status data ∧
      apHeard s ((s.wakeSource.withWork c).respond status data).settle status ∧
      unchangedBut [.grt, .acp, .rsc] s ((s.wakeSource.withWork c).respond status data).settle := by
  have hrsc : (s.wakeSource.withWork c).rsc = { s.wakeSource.rsc with work := c } := rfl
  have hacp : (s.wakeSource.withWork c).acp = s.acp := rfl
  have hgrt : (s.wakeSource.withWork c).grt = s.grt := rfl
  have hother (b : Block) (hb : b ≠ .rsc) : s.agree (s.wakeSource.withWork c) b := by
    cases b with
    | rsc => exact absurd rfl hb
    | _ => rfl
  generalize s.wakeSource.withWork c = u at *
  refine ⟨?_, ?_, ?_, unchangedBut_settle (fun b hb _ hr => ?_) (by simp) (by simp)⟩
  · rw [State.settle_rsc, State.respond_rsc, hrsc,
      State.idleAfter_eq_idleUntil (s := s) (by rw [State.respond_rsc, hrsc]; rfl)]
  · simp [answers, State.settle_acp, State.respond_acp, hacp]
  · simp [apHeard, State.respond_grt, hgrt]
  · have hu := hother b hr
    cases b with
    | grt | acp | rsc => exact absurd (by simp) hb
    | _ => exact hu

/-! ### BENCH_INJECT and BENCH_STALL (R168, R169) -/

theorem Quantity.ofCode_code (k : Quantity) : Quantity.ofCode k.code = some k := by cases k <;> rfl

theorem Quantity.ofCode_above {n : Nat} (h : 10 ≤ n) : Quantity.ofCode n = none := List.getElem?_eq_none h

theorem withinInt_iff (lo x hi : Int) : withinInt lo x hi = true ↔ lo ≤ x ∧ x ≤ hi := by simp [withinInt]

/-- A quantity of the table takes a value in its range (R168). -/
theorem State.injected_quantity (k : Quantity) (v : Int) :
    s.injected k.code v = if k.range.1 ≤ v ∧ v ≤ k.range.2 then some (s.injectQuantity k v) else none := by
  rw [State.injected, Quantity.ofCode_code]
  exact if_congr (withinInt_iff _ _ _) rfl rfl

/-- Code 10 is the drum pulse rate, up to 500 a second, and no code above it names anything (R168). -/
theorem State.injected_above {code : Nat} (h : 10 ≤ code) (v : Int) :
    s.injected code v = if code = 10 ∧ 0 ≤ v ∧ v ≤ 500 then some (s.injectDrumRate v.toNat) else none := by
  rw [State.injected, Quantity.ofCode_above h]
  refine if_congr ?_ rfl rfl
  rw [Bool.and_eq_true, withinInt_iff, beq_iff_eq]
  rfl

/-- The window of the quantity is filled with the substitute, and its mean stands until the next sample set (R168). -/
theorem State.injectQuantity_chan (k : Quantity) (v : Int) :
    ((s.injectQuantity k v).pmon.chan.get k).window = List.replicate k.depth v ∧
    ((s.injectQuantity k v).pmon.chan.get k).substituted = true ∧
    ((s.injectQuantity k v).pmon.chan.get k).published = s.published k ∧
    (∀ j, j ≠ k → (s.injectQuantity k v).pmon.chan.get j = s.pmon.chan.get j) ∧
    (s.injectQuantity k v).pmon = { s.pmon with chan := (s.injectQuantity k v).pmon.chan } := by
  have hchan : (s.injectQuantity k v).pmon.chan.get k = (s.pmon.chan.get k).inject k.depth v :=
    PerQuantity.get_set_same _ _ _
  rw [hchan]
  exact ⟨rfl, rfl, rfl, fun j hj => PerQuantity.get_set_other _ _ _ _ hj, rfl⟩

/-- A rate above 0 starts the series of injected drum pulses afresh (R168). -/
theorem State.injectDrumRate_wch {v : Int} (h : 0 ≤ v) :
    (s.injectDrumRate v.toNat).wch =
      { s.wch with
        drumRate := v.toNat
        nextBenchPulse := if v = 0 then none else some (s.now + 1000000 / v.toNat) } := by
  have hzero : (v.toNat == 0) = true ↔ v = 0 := by
    rw [beq_iff_eq]
    omega
  simp [State.injectDrumRate, hzero]

/-- An answer in BENCH-DRY from a state in which one block alone has changed. -/
theorem answersWith_bench {u : State} {b : Block} (hrun : s.rsc.run = .benchDry) (h : ∀ b', b' ≠ b → s.agree u b')
    (hb : b ≠ .acp ∧ b ≠ .grt ∧ b ≠ .rsc) (st : Status) (d : List Byte) :
    answersWith [b] s (u.respond st d).settle st d := by
  obtain ⟨hacp, hgrt, hrsc⟩ := hb
  refine answersWith_respond (fun b' hb _ _ _ => h b' (by simpa using hb)) (h .acp hacp.symm) (h .grt hgrt.symm) ?_
  rw [s.wakeSource_awake (hrun ▸ nofun)]
  exact h .rsc hrsc.symm

theorem State.agree_withPmon (x : Pmon) (b : Block) (h : b ≠ .pmon) : s.agree (s.withPmon x) b := by
  cases b with
  | pmon => exact absurd rfl h
  | _ => rfl

theorem State.agree_withWch (x : Wch) (b : Block) (h : b ≠ .wch) : s.agree (s.withWch x) b := by
  cases b with
  | wch => exact absurd rfl h
  | _ => rfl

theorem State.benchInject_taken {ps : List Byte} {u : State} (hrun : s.rsc.run = .benchDry)
    (h : s.injected (param ps 0) (paramSigned32 ps 1) = some u) : s.benchInject ps = u.respond .ok [] := by
  rw [State.benchInject, if_neg (by simp [hrun]), h]

theorem State.benchInject_refused {ps : List Byte} (hrun : s.rsc.run = .benchDry)
    (h : s.injected (param ps 0) (paramSigned32 ps 1) = none) : s.benchInject ps = s.respond .badValue [] := by
  rw [State.benchInject, if_neg (by simp [hrun]), h]

/-- Off BENCH-DRY nothing is substituted and no stall is armed (R168, R169). -/
theorem State.benchInject_off (ps : List Byte) (h : s.rsc.run ≠ .benchDry) :
    s.benchInject ps = s.respond .refusedState [] := if_pos (bne_iff_ne.2 h)

theorem State.benchStall_off (h : s.rsc.run ≠ .benchDry) : s.benchStall = s.respond .refusedState [] :=
  if_neg fun he => h (eq_of_beq he)

theorem State.benchStall_armed (h : s.rsc.run = .benchDry) :
    s.benchStall = (s.withWch { s.wch with stallArm := true }).respond .ok [] := if_pos (beq_iff_eq.2 h)

section
variable {q v1 v2 v3 v4 : Byte} {v : Int}

/-- In BENCH-DRY an injection is judged by its code and its value alone (R168). -/
theorem exec_benchInject_taken (hopen : s.portOpen) (hrun : s.rsc.run = .benchDry) (hv : beInt [v1, v2, v3, v4] = v)
    {u : State} (h : s.injected q.toNat v = some u) :
    exec (.benchInject [q, v1, v2, v3, v4]) s = .next (u.respond .ok []).settle := by
  subst hv
  rw [exec_benchInject hopen, s.wakeSource_awake (hrun ▸ nofun), State.benchInject_taken (ps := [q, v1, v2, v3, v4]) hrun h]

theorem exec_benchInject_refused (hopen : s.portOpen) (hrun : s.rsc.run = .benchDry) (hv : beInt [v1, v2, v3, v4] = v)
    (h : s.injected q.toNat v = none) :
    ∃ t, exec (.benchInject [q, v1, v2, v3, v4]) s = .next t ∧ answersWith [] s t .badValue [] := by
  subst hv
  have hwake : s.wakeSource = s := s.wakeSource_awake (hrun ▸ nofun)
  have hanswer := answersWith_wake (s := s) (status := .badValue) (data := [])
  rw [hwake] at hanswer
  rw [exec_benchInject hopen, hwake, State.benchInject_refused (ps := [q, v1, v2, v3, v4]) hrun h]
  exact ⟨_, rfl, hanswer⟩

end

end

/-! ### O60 -/

/-- An accepted SCENE_WRITE replaces the entry's three bytes in the working copy, and answers (R122). -/
theorem sceneWritten {s : State} (hopen : s.portOpen) (hlength : s.configOk) {sc out b1 b2 b3 : Byte}
    (hgood : sceneWriteOk [sc, out, b1, b2, b3] = true) :
    ∃ t, exec (.sceneWrite [sc, out, b1, b2, b3]) s = .next t ∧ t.configOk ∧
      (∀ i, t.cfg.bytes.getD i 0 =
        if sceneAt sc.toNat out.toNat ≤ i ∧ i < sceneAt sc.toNat out.toNat + 3 then
          [b1, b2, b3].getD (i - sceneAt sc.toNat out.toNat) 0
        else s.cfg.bytes.getD i 0) ∧
      t.rsc = { s.wakeSource.rsc with work := t.cfg, idleEnd := s.idleUntil t } ∧ answers s t .ok [] ∧
      apHeard s t .ok ∧ unchangedBut [.grt, .acp, .rsc] s t := by
  obtain ⟨hscene, houtput, -⟩ := (sceneWriteOk_iff sc out b1 b2 b3).1 hgood
  have hat : sceneAt sc.toNat out.toNat + 3 ≤ s.cfg.bytes.length := hlength.symm ▸ sceneAt_within hscene houtput
  refine ⟨_, exec_sceneWrite hopen sc out b1 b2 b3, ?_⟩
  rw [State.sceneWrite_accepted hgood]
  exact ⟨(Settings.write_length (data := [b1, b2, b3]) hat).trans hlength,
    Settings.write_getD (data := [b1, b2, b3]) hat, answered_withWork _ _ _⟩

/-- Settles O60: SCENE_WRITE by `sceneWritten`, BENCH_INJECT by what its code and its value inject, BENCH_STALL by the run
state. -/
theorem sceneWrittenAndBenchDriven : Obligations.SceneWrittenAndBenchDriven := by
  intro s sc out b1 b2 b3 q value hopen hlen
  obtain ⟨v1, v2, v3, v4, rfl⟩ := List.length_eq_four.1 hlen
  generalize hv : beInt [v1, v2, v3, v4] = v
  refine ⟨⟨fun hgood hlength => ?written, fun hbad => ?refused⟩,
    fun hrun => ⟨fun k hk => ?quantity, fun hq hlow hhigh => ?rate, fun hq => ?unnamed, ?armed⟩, fun hrun => ?off⟩
  case written =>
    obtain ⟨t, hexec, hok, hbytes, hrest⟩ := sceneWritten hopen hlength ((sceneWriteOk_iff sc out b1 b2 b3).2 hgood)
    have hend : sceneAt sc.toNat out.toNat + 3 = 161 + 3 * (8 * sc.toNat + out.toNat) := by
      simp only [sceneAt]
      omega
    exact ⟨t, hexec, hok, fun i => by rw [hbytes, hend]; rfl, hrest⟩
  case refused =>
    refine ⟨_, exec_sceneWrite hopen sc out b1 b2 b3, ?_⟩
    rw [State.sceneWrite_refused (mt (sceneWriteOk_iff sc out b1 b2 b3).1 hbad)]
    exact answersWith_wake
  case quantity =>
    have hinjected := s.injected_quantity k v
    rw [hk] at hinjected
    refine ⟨fun hin => ?_, fun hout => ?_⟩
    · obtain ⟨hwindow, hsubstituted, hpublished, hothers, hpmon⟩ := s.injectQuantity_chan k v
      exact ⟨_, exec_benchInject_taken hopen hrun hv (hinjected.trans (if_pos hin)), hwindow, hsubstituted, hpublished,
        hothers, hpmon, answersWith_bench hrun (s.agree_withPmon _) ⟨nofun, nofun, nofun⟩ _ _⟩
    · exact exec_benchInject_refused hopen hrun hv (hinjected.trans (if_neg (by omega)))
  case rate =>
    have hinjected := (State.injected_above (s := s) hq.ge v).trans (if_pos ⟨hq, hlow, hhigh⟩)
    exact ⟨_, exec_benchInject_taken hopen hrun hv hinjected, State.injectDrumRate_wch hlow,
      answersWith_bench hrun (s.agree_withWch _) ⟨nofun, nofun, nofun⟩ _ _⟩
  case unnamed =>
    exact exec_benchInject_refused hopen hrun hv ((State.injected_above (by omega) v).trans (if_neg (by omega)))
  case armed =>
    rw [exec_benchStall hopen, s.wakeSource_awake (hrun ▸ nofun), State.benchStall_armed hrun]
    exact ⟨_, rfl, rfl, answersWith_bench hrun (s.agree_withWch _) ⟨nofun, nofun, nofun⟩ _ _⟩
  case off =>
    rw [exec_benchInject hopen, exec_benchStall hopen, State.benchInject_off (s := s.wakeSource) _ hrun,
      State.benchStall_off (s := s.wakeSource) hrun]
    exact ⟨⟨_, rfl, answersWith_wake⟩, _, rfl, answersWith_wake⟩

end Sys2Proof.Machine
end

section
/-! PROOFS. O39 and O41: the frame assembler and the radio reply (R136, R142, R143). -/

namespace Sys2Proof.Machine

variable {s : State} {b : Byte} {held : List Byte} {due : Nat}

/-! ### The frame assembler (R136) -/

/-- A command whose effect reaches neither the port nor the run-state controller. -/
theorem changesOnly_of_unchangedBut {blocks : List Block} {u : State} (h : unchangedBut blocks s u)
    (ha : .acp ∉ blocks) (hr : .rsc ∉ blocks) : changesOnly blocks s u.settle :=
  changesOnly_settle (fun b hb _ _ => h b hb) (h .acp ha) (h .rsc hr)

theorem unchangedBut_withDlr (s : State) (d : Dlr) : unchangedBut [.dlr] s (s.withDlr d) := by
  intro b hb
  cases b <;> first | rfl | exact absurd (by simp) hb

theorem unchangedBut_reach_withDlr (s : State) (due : Nat) (d : Dlr) :
    unchangedBut [.now, .dlr] s ((s.reach due).withDlr d) := by
  intro b hb
  cases b <;> first | rfl | exact absurd (by simp) hb

/-- The end of a command that has reached the receiver alone. -/
theorem changesOnly_withDlr (d : Dlr) : changesOnly [.dlr] s (s.withDlr d).settle :=
  changesOnly_of_unchangedBut (unchangedBut_withDlr s d) (by simp) (by simp)

/-- The end of a command that has reached the receiver alone, at the moment of an expiry. -/
theorem changesOnly_reach_withDlr (d : Dlr) : changesOnly [.now, .dlr] s ((s.reach due).withDlr d).settle :=
  changesOnly_of_unchangedBut (unchangedBut_reach_withDlr s due d) (by simp) (by simp)

/-- HUNTING, the assembler begins a frame at 0xC5 and drops every other byte (R136). -/
theorem State.linkByte_hunting (h : s.dlr.asm = .hunting) :
    s.linkByte b = s.withDlr (if b = 0xC5 then s.dlr.collect [b] s.now else s.dlr) := by
  unfold State.linkByte
  rw [h]
  by_cases hb : b = 0xC5
  · simp [hb]
  · simp only [beq_false_of_ne hb, if_neg hb, Bool.false_eq_true, if_false]
    rfl

theorem State.linkByte_collecting (h : s.dlr.asm = .collecting held) (hlen : held.length + 1 < 19) :
    s.linkByte b = s.withDlr (s.dlr.collect (held ++ [b]) s.now) := by
  unfold State.linkByte
  rw [h]
  exact if_neg (by simpa using hlen.ne)

/-- The 19th byte is the frame received (R136, R137). -/
theorem State.linkByte_completing (h : s.dlr.asm = .collecting held) (hlen : held.length + 1 = 19) :
    s.linkByte b = (s.withDlr s.dlr.hunt).receiveFrame (held ++ [b]) := by
  unfold State.linkByte
  rw [h]
  exact if_pos (by simpa using hlen)

theorem exec_linkGapTimeout (h : s.dlr.gapEnd = some due) :
    exec .linkGapTimeout s = .next ((s.reach due).withDlr s.dlr.hunt).settle := by
  simp only [exec, execLinkGapTimeout, h]
  rfl

/-- Settles O39: a byte by the assembler's state and the bytes held, and the two falls back to HUNTING. -/
theorem assemblerCollects : Obligations.AssemblerCollects := by
  intro s b held due
  have hexec : exec (.linkByteReceived b) s = .next (s.linkByte b).settle := rfl
  refine ⟨fun hhunt => ?_, fun hasm hlen => ?_, fun hasm hlen => ?_, ?_, fun hgap => ?_⟩
  · rw [hexec, State.linkByte_hunting hhunt]
    exact ⟨_, rfl, rfl, changesOnly_withDlr _⟩
  · rw [hexec, State.linkByte_collecting hasm hlen]
    exact ⟨_, rfl, rfl, changesOnly_withDlr _⟩
  · rw [hexec, State.linkByte_completing hasm hlen]
    exact ⟨_, rfl, rfl⟩
  · exact ⟨_, rfl, rfl, changesOnly_withDlr _⟩
  · exact ⟨_, exec_linkGapTimeout hgap, rfl, rfl, changesOnly_reach_withDlr _⟩

/-! ### The reply (R142, R143) -/

theorem byteOf_toNat {n : Nat} (h : n < 256) : (byteOf n).toNat = n := by
  simpa [byteOf] using h

/-- A published value on one byte, limited at both ends (Table 11-2). -/
theorem replyByte_toNat {top : Int} (h0 : 0 ≤ top) (h : top < 256) (v : Int) :
    ((replyByte top v).toNat : Int) = max 0 (min top v) := by
  unfold replyByte clampInt
  rw [byteOf_toNat (by omega)]
  omega

/-- The status byte holds the three codes side by side (Table 11-2). -/
theorem State.replyStatus_toNat (s : State) :
    s.replyStatus.toNat = s.prot.st.code + 4 * s.rsc.run.code + (if s.acp.latched = 0 then 0 else 128) := by
  have hst : s.prot.st.code < 4 := by cases s.prot.st <;> decide
  have hrun : s.rsc.run.code < 8 := by cases s.rsc.run <;> decide
  unfold State.replyStatus
  have hflag : (if (s.acp.latched != 0) = true then 128 else 0) = if s.acp.latched = 0 then 0 else 128 := by
    by_cases h : s.acp.latched = 0
    · rw [h]; rfl
    · rw [if_pos (bne_iff_ne.2 h), if_neg h]
  rw [hflag]
  refine byteOf_toNat ?_
  split <;> omega

/-- The bytes of the reply record in order (Table 11-2). -/
theorem State.replyRecord_bytes (s : State) (counter : Nat) :
    s.replyRecord counter =
      0xC6 :: byteOf counter :: (word16 (BitVec.ofInt 16 ((s.published .packVoltage).getD 0)).toNat ++
        (word16 (BitVec.ofInt 16 (s.pmon.vmin.getD 0)).toNat ++
          [(s.published .packCurrent).elim 0 (fun v => replyByte 255 (v.tdiv 100)),
            (s.published .packTemp).elim 255 (fun v => replyByte 254 (v + 40)), s.replyStatus,
            crc8 (s.replyBody counter)])) := rfl

/-- The pack current on the reply's byte, in 100 mA (Table 11-2). -/
theorem replyByte_current (i : Nat) : (replyByte 255 ((i : Int).tdiv 100)).toNat = min 255 (i / 100) := by
  have h := replyByte_toNat (top := 255) (by omega) (by omega) ((i : Int).tdiv 100)
  have hdiv : (i : Int).tdiv 100 = ((i / 100 : Nat) : Int) := rfl
  rw [hdiv] at h ⊢
  omega

theorem exec_replyTimerExpiry {counter : Nat} (h : s.dlr.reply = .waiting counter due) :
    exec .replyTimerExpiry s =
      .next ((s.reach due).withDlr
        { s.dlr with reply := .sending (s.replyRecord counter) (max s.now due + replyLength) }).settle := by
  simp only [exec, execReplyTimerExpiry, h]
  rfl

theorem exec_replySent {bytes : List Byte} (h : s.dlr.reply = .sending bytes due) :
    exec .replySent s = .next ((s.reach due).withDlr { s.dlr with reply := .idle }).settle := by
  simp only [exec, execReplySent, h]
  rfl

/-- Settles O41: the record of Table 11-2 byte by byte, and the transmitter idle again at its end. -/
theorem replySent : Obligations.ReplySent := by
  intro s counter due bytes
  constructor
  · intro hreply hcounter
    refine ⟨_, exec_replyTimerExpiry hreply, rfl, rfl, rfl, ?_⟩
    have hout : (((s.reach due).withDlr { s.dlr with
        reply := .sending (s.replyRecord counter) (max s.now due + replyLength) }).settle).linkOut =
          s.replyRecord counter := rfl
    rw [hout]
    refine ⟨rfl, rfl, byteOf_toNat (by omega), rfl, rfl, fun i hi => ?current, fun hi => ?_, fun c hc => ?temp,
      fun hc => ?_, s.replyStatus_toNat, rfl, changesOnly_reach_withDlr _⟩
    all_goals rw [s.replyRecord_bytes]
    case current =>
      rw [hi]
      exact replyByte_current i
    case temp =>
      rw [hc]
      exact replyByte_toNat (by omega) (by omega) _
    · rw [hi]
      rfl
    · rw [hc]
      rfl
  · intro hreply
    exact ⟨_, exec_replySent hreply, rfl, rfl, changesOnly_reach_withDlr _⟩

end Sys2Proof.Machine
end

section
/-! PROOFS. O37 and O38: an accepted frame, the reply it asks for, and what it decodes (R137 to R141, R143). -/

namespace Sys2Proof.Machine

variable {s : State} {bytes : List Byte}

/-! ### Acceptance (R137 to R139) -/

/-- The state with an accepted frame kept by the receiver, before it is handed on (R138, R143). -/
def State.frameStored (s : State) (bytes : List Byte) : State := s.withDlr (s.dlr.hunt.store bytes s.now)

theorem exec_radioFrame_accepted (h : frameAccepted s.cfg bytes = true) :
    exec (.radioFrame bytes) s = .next ((s.frameStored bytes).handOn bytes (s.dlr.isFresh bytes)).settle := by
  have hreceive :
      (s.withDlr s.dlr.hunt).receiveFrame bytes = (s.frameStored bytes).handOn bytes (s.dlr.isFresh bytes) := by
    unfold State.receiveFrame
    exact if_pos h
  simp only [exec, execRadioFrame, hreceive]
  rfl

theorem exec_radioFrame_rejected (h : frameAccepted s.cfg bytes = false) :
    exec (.radioFrame bytes) s = .next (s.withDlr s.dlr.hunt).settle := by
  have hreceive : (s.withDlr s.dlr.hunt).receiveFrame bytes = s.withDlr s.dlr.hunt := by
    unfold State.receiveFrame
    exact if_neg (Bool.eq_false_iff.1 h)
  simp only [exec, execRadioFrame, hreceive]
  rfl

theorem Dlr.isFresh_eq_false_iff (d : Dlr) :
    d.isFresh bytes = false ↔ d.lastCounter = some (frameCounter bytes) ∨ frameFailsafe bytes = true := by
  simp [Dlr.isFresh, -Bool.not_eq_true, imp_iff_not_or]

/-- A frame that is not fresh, or that comes in SLEEP, is at most a wake source (R139). -/
theorem State.handOn_unpresented {fresh : Bool} (h : s.rsc.run = .sleep ∨ fresh = false) :
    s.handOn bytes fresh = s.wakeSource := by
  unfold State.handOn
  by_cases hrun : s.rsc.run = .sleep
  · exact if_pos (beq_iff_eq.2 hrun)
  · rw [s.wakeSource_awake hrun, h.resolve_left hrun, beq_false_of_ne hrun]
    rfl

@[simp] theorem State.handOn_dlr (fresh : Bool) : (s.handOn bytes fresh).dlr = s.dlr := by
  unfold State.handOn
  (repeat' split) <;> simp

/-- HUNTING already, the assembler has nothing to drop (R136). -/
theorem Dlr.hunt_of_hunting {d : Dlr} (hasm : d.asm = .hunting) (hgap : d.gapEnd = none) : d.hunt = d := by
  cases d
  cases hasm
  cases hgap
  rfl

/-- The wake an accepted frame begins in SLEEP reaches the wake timer alone (R139, R162). -/
theorem unchangedBut_wakeSource (s : State) : unchangedBut [.rsc] s s.wakeSource := by
  intro b hb
  cases b <;> first | rfl | exact absurd (by simp) hb

/-- The transmitter takes a reply up only while it is idle (R143). -/
theorem replyAfter_idle (now : Nat) (h : frameReplyReq bytes = true) :
    replyAfter .idle bytes now = .waiting (frameCounter bytes) (now + 200) := if_pos h

theorem replyAfter_left {tx : ReplyTx} (now : Nat) (h : tx ≠ .idle ∨ frameReplyReq bytes = false) :
    replyAfter tx bytes now = tx := by
  cases tx with
  | idle => exact if_neg (by simpa using h)
  | waiting => rfl
  | sending => rfl

/-- Settles O38: a rejected frame leaves the receiver HUNTING as it was, an accepted one that is not presented is at
most a wake source, and the reply is judged by `replyAfter` however the frame is handed on. -/
theorem frameAcceptance : Obligations.FrameAcceptance := by
  intro s bytes hasm hgap
  have hhunt := Dlr.hunt_of_hunting hasm hgap
  refine ⟨fun hrejected => ?_, fun haccepted hunpresented => ?_, fun haccepted => ?_⟩
  · refine ⟨_, exec_radioFrame_rejected hrejected, ?_⟩
    rw [hhunt]
    exact changesOnly_of_unchangedBut (fun b _ => by cases b <;> rfl) (by simp) (by simp)
  · have hasleep : (s.frameStored bytes).rsc.run = .sleep ∨ s.dlr.isFresh bytes = false :=
      hunpresented.imp id s.dlr.isFresh_eq_false_iff.2
    refine ⟨_, exec_radioFrame_accepted haccepted, ?_⟩
    rw [State.handOn_unpresented hasleep]
    refine ⟨rfl, rfl, ?_, rfl, ?_⟩
    · change s.dlr.hunt.store bytes s.now = _
      rw [hhunt]
      rfl
    · exact ((unchangedBut_withDlr s _).append (unchangedBut_wakeSource (s.frameStored bytes))).settle
        (by simp) (by simp) (by simp)
  · have hreply : ((s.frameStored bytes).handOn bytes (s.dlr.isFresh bytes)).settle.dlr.reply =
        replyAfter s.dlr.reply bytes s.now := by
      rw [State.settle_dlr, State.handOn_dlr]
      rfl
    refine ⟨_, exec_radioFrame_accepted haccepted, fun hidle hreq => ?_, fun hleft => ?_⟩
    · rw [hreply, hidle, replyAfter_idle s.now hreq]
    · rw [hreply, replyAfter_left s.now hleft]

/-! ### A fresh frame presented (R139) -/

/-- The grant table a fresh frame commits (R49, R51). -/
def State.freshTable (s : State) (bytes : List Byte) : Grt :=
  s.grt.freshFrame s.cfg (decodeFrame s.cfg (frameChannels bytes)) s.now

theorem exec_radioFrame_fresh (hrun : s.rsc.run ≠ .sleep) (haccepted : frameAccepted s.cfg bytes = true)
    (hcounter : s.dlr.lastCounter ≠ some (frameCounter bytes)) (hfailsafe : frameFailsafe bytes = false) :
    exec (.radioFrame bytes) s = .next ((s.frameStored bytes).commitGrants (s.freshTable bytes)).settle := by
  have hfresh : s.dlr.isFresh bytes = true := by
    rw [← Bool.not_eq_false, s.dlr.isFresh_eq_false_iff]
    simp [hcounter, hfailsafe]
  have hhand : (s.frameStored bytes).handOn bytes true = (s.frameStored bytes).commitGrants (s.freshTable bytes) := by
    unfold State.handOn
    exact (if_neg fun hasleep => hrun (eq_of_beq hasleep)).trans (if_pos rfl)
  rw [exec_radioFrame_accepted haccepted, hfresh, hhand]

variable {g : Grt} {c : Settings} {decoded : Decoded} {f : Fn} {now : Nat}

/-- A function without a decoded value keeps all the frame could move of it. -/
theorem Grt.freshFrame_undecoded (h : decoded.get f = none) :
    (g.freshFrame c decoded now).fns.get f = g.fns.get f ∧
      (g.freshFrame c decoded now).lastDecoded.get f = g.lastDecoded.get f ∧
      (g.freshFrame c decoded now).lost.get f = g.lost.get f := by
  simp [Grt.freshFrame, Grt.recordAtFrame, Grt.lostAtFrame, h]

/-- What a decoded value makes of its function (R51, R52, R63). -/
theorem Grt.freshFrame_decoded {v : Int} (h : decoded.get f = some v) :
    (g.freshFrame c decoded now).fns.get f = (g.fns.get f).atFrame c f (g.lastDecoded.get f) v ∧
      (g.freshFrame c decoded now).lastDecoded.get f = some v ∧
      (g.freshFrame c decoded now).lost.get f =
        (g.lost.get f || ((g.fns.get f).holder == .ap && overrides c f (g.lastDecoded.get f) v)) := by
  simp [Grt.freshFrame, Grt.recordAtFrame, Grt.lostAtFrame, h]

/-- A function with a channel is decoded from that channel (R139). -/
theorem decodeFrame_channel {raw : List Nat} (h : c.dlChannel f ≠ 0) :
    (decodeFrame c raw).get f = some (decodeFn c (c.dlChannel f) f (raw.getD (c.dlChannel f - 1) 0)) := by
  simp [decodeFrame, h]

/-! ### Decoding (R140, R141) -/

theorem clampInt_natCast (n : Nat) : clampInt (-1000) 1000 n = (min 1000 n : Nat) := by
  unfold clampInt
  omega

theorem clampInt_neg_natCast (n : Nat) : clampInt (-1000) 1000 (-(n : Int)) = -((min 1000 n : Nat) : Int) := by
  unfold clampInt
  omega

/-- A stick within its half-span of a sound calibration: 0 in the deadband, beyond it the share of the span left,
limited to full (R140). -/
theorem decodeStick_eq {center halfSpan deadband raw : Nat} (h : deadband < halfSpan) :
    decodeStick center halfSpan deadband raw =
      if ((raw : Int) - center).natAbs ≤ deadband then (0 : Int)
      else if center < raw then (min 1000 ((raw - center - deadband) * 1000 / (halfSpan - deadband)) : Nat)
      else -((min 1000 ((center - raw - deadband) * 1000 / (halfSpan - deadband)) : Nat) : Int) := by
  unfold decodeStick
  dsimp only
  rw [if_neg (not_le.2 h)]
  refine ite_congr rfl (fun _ => rfl) fun hout => ?_
  have hspan : (halfSpan : Int) - deadband = ((halfSpan - deadband : Nat) : Int) := by omega
  by_cases hright : center < raw
  · have hsign : signInt ((raw : Int) - center) = 1 := if_pos (by omega)
    have hshare : ((raw : Int) - center - 1 * deadband) * 1000 = (((raw - center - deadband) * 1000 : Nat) : Int) := by
      omega
    rw [if_pos hright, hsign, hshare, hspan, ← Int.ofNat_tdiv]
    exact clampInt_natCast _
  · have hsign : signInt ((raw : Int) - center) = -1 := (if_neg (by omega)).trans (if_pos (by omega))
    have hshare : ((raw : Int) - center - -1 * deadband) * 1000 = -(((center - raw - deadband) * 1000 : Nat) : Int) :=
      by omega
    rw [if_neg hright, hsign, hshare, hspan, Int.neg_tdiv, ← Int.ofNat_tdiv]
    exact clampInt_neg_natCast _

/-- The value of a function by its channel's raw value (R140, R141). -/
theorem decodeFn_eq {ch : Nat} (f : Fn) (raw : Nat) (h : c.calDeadband ch < c.calHalfSpan ch) :
    decodeFn c ch f raw =
      if f.proportional then
        (if ((raw : Int) - c.calCenter ch).natAbs ≤ c.calDeadband ch then (0 : Int)
        else if c.calCenter ch < raw then
          (min 1000 ((raw - c.calCenter ch - c.calDeadband ch) * 1000 / (c.calHalfSpan ch - c.calDeadband ch)) : Nat)
        else -((min 1000 ((c.calCenter ch - raw - c.calDeadband ch) * 1000 /
          (c.calHalfSpan ch - c.calDeadband ch)) : Nat) : Int))
      else if f = .gear then (if 2048 ≤ raw then (1 : Int) else 0)
      else if f = .winch then (if raw < 1365 then -(c.dlWinchSpeed : Int) else if 2730 < raw then c.dlWinchSpeed else 0)
      else if f = .scene then (raw * 8 / 4096 : Nat)
      else (raw / 1024 : Nat) := by
  cases f with
  | throttle => exact decodeStick_eq h
  | steer => exact decodeStick_eq h
  | gear => rfl
  | steerMode => rfl
  | diff => rfl
  | scene => rfl
  | winch => rfl

/-- Settles O37: a fresh frame commits the values `decodeFrame` gives, each read off by `decodeFn_eq`. -/
theorem channelsDecode : Obligations.ChannelsDecode := by
  intro s bytes f hrun haccepted hcounter hfailsafe hchannel hcal raw center deadband span
  obtain ⟨-, hlast, -⟩ := Grt.freshFrame_decoded (g := s.grt) (c := s.cfg) (now := s.now)
    (decodeFrame_channel (raw := frameChannels bytes) hchannel)
  refine ⟨_, exec_radioFrame_fresh hrun haccepted hcounter hfailsafe, ?_⟩
  rw [State.settle_grt, State.commitGrants_grt]
  exact hlast.trans (congrArg some (decodeFn_eq f raw hcal))

end Sys2Proof.Machine
end

section
/-! PROOFS. O36: a new grant table committed by the radio or the pendant, and what a fresh frame makes of each record
(R49, R51 to R53, R63, R100, R113). -/

namespace Sys2Proof.Machine

/-! ### A new grant table behind a receiver, a pendant or a clock that has moved -/

section
variable {s v : State} (hmove : unchangedBut [.now, .dlr, .pnd] s v) (g : Grt)
include hmove

theorem followsTable_committed : followsTable s (v.commitGrants g).settle := by
  refine followsTable.of_moved (hmove .prot (by simp)) (hmove .grt (by simp)) (hmove .drv (by simp))
    (hmove .wch (by simp)) (hmove .lgt (by simp)) (hmove .acp (by simp)) (hmove .rsc (by simp))
    (followsTable_commitGrants (g := g) (fun b _ => ?_) ?_ rfl)
  · cases b <;> rfl
  · rw [State.commitGrants_grt]

theorem acpPosted_committed : acpPosted s (v.commitGrants g).settle := by
  have hacp : v.acp = s.acp := hmove .acp (by simp)
  unfold acpPosted
  rw [State.settle_latches, State.commitGrants_acp, hacp]

/-- A new grant table in which AP does not hold WINCH leaves no order ACTIVE (R113). -/
theorem preempted_committed (hq : s.queueOk) (hg : (g.fns.get .winch).holder ≠ .ap) :
    preempted s (v.commitGrants g).settle := by
  have hwch : v.wch = s.wch := hmove .wch (by simp)
  have hacp : v.acp = s.acp := hmove .acp (by simp)
  have hgrt : v.grt = s.grt := hmove .grt (by simp)
  have hsame : sameQueue s v := by
    unfold sameQueue
    rw [hwch, hacp]
    exact ⟨rfl, rfl, rfl, rfl, rfl⟩
  have hqueue : v.queueOk := State.queueOk_congr hsame (by rw [State.holderOf, hgrt]; rfl) hq
  exact ((v.commitGrants_preempted g hqueue hg).of_sameQueue hsame).to_sameQueue ⟨rfl, rfl, rfl, rfl, rfl⟩ id

end

/-! ### What a fresh frame makes of a record (R51 to R53) -/

section
variable {c : Settings} {f : Fn} {r : FnRecord} {last : Option Int} {v : Int}

/-- The override of R52: a stick outside its band, or a switch that has changed. -/
theorem overrides_iff : overrides c f last v = true ↔
    c.allows f .dl = true ∧ ((f.proportional = true ∧ c.neutralBand f < v.natAbs) ∨
      (f.proportional = false ∧ last ≠ none ∧ last ≠ some v)) := by
  unfold overrides
  cases f.proportional <;> cases last <;> simp [outsideBand]

/-- The return of R53: a stick inside its band after it has left DL, or a switch at once. -/
theorem returns_iff : returns c f r v = true ↔
    c.defaultHolder f = some .dl ∧
      ((f.proportional = true ∧ r.reacquire = true ∧ v.natAbs ≤ c.neutralBand f) ∨ f.proportional = false) := by
  unfold returns
  cases f.proportional <;> simp [outsideBand]

theorem FnRecord.atFrame_dl (h : r.holder = .dl) : r.atFrame c f last v = { r with value := v } := by
  simp [FnRecord.atFrame, h]

theorem FnRecord.atFrame_pd (h : r.holder = .pd) : r.atFrame c f last v = r := by
  simp [FnRecord.atFrame, h]

theorem FnRecord.atFrame_overridden (h : r.holder = .ap ∨ r.holder = .fs) (ho : overrides c f last v = true) :
    r.atFrame c f last v = r.moveTo .dl v none := by
  rcases h with h | h <;> simp [FnRecord.atFrame, h, ho]

theorem FnRecord.atFrame_returned (h : r.holder = .fs) (hr : returns c f r v = true) :
    r.atFrame c f last v = r.moveTo .dl v none := by
  simp [FnRecord.atFrame, h, hr]

theorem FnRecord.atFrame_ap_kept (h : r.holder = .ap) (ho : overrides c f last v = false) :
    r.atFrame c f last v = r := by
  simp [FnRecord.atFrame, h, ho]

theorem FnRecord.atFrame_fs_kept (h : r.holder = .fs) (ho : overrides c f last v = false)
    (hr : returns c f r v = false) : r.atFrame c f last v = r := by
  simp [FnRecord.atFrame, h, ho, hr]

/-- Nothing overrides where DL is not allowed, the stick stays in its band, or the switch has not changed (R52). -/
theorem not_overrides (h : c.allows f .dl = false ∨ (f.proportional = true ∧ v.natAbs ≤ c.neutralBand f) ∨
    (f.proportional = false ∧ (last = none ∨ last = some v))) : overrides c f last v = false := by
  rw [← Bool.not_eq_true, overrides_iff]
  rintro ⟨hallow, hout | ⟨hswitch, hnone, hsame⟩⟩
  · obtain ⟨hp, hout⟩ := hout
    obtain h | ⟨-, hin⟩ | ⟨hs, -⟩ := h
    · simp [hallow] at h
    · omega
    · simp [hp] at hs
  · obtain h | ⟨hp, -⟩ | ⟨-, h | h⟩ := h
    · simp [hallow] at h
    · simp [hswitch] at hp
    · exact hnone h
    · exact hsame h

end

/-! ### O36 -/

/-- Settles O36: the table committed is that of `Grt.freshFrame`, function by function by its decoded value, and what it
sets off is what every committed table does. -/
theorem freshFrameActsOnEachRecord : Obligations.FreshFrameActsOnEachRecord := by
  intro s bytes f hrun haccepted hcounter hfailsafe
  have hmove : unchangedBut [.now, .dlr, .pnd] s (s.frameStored bytes) := (unchangedBut_withDlr s _).mono (by simp)
  have hfollows := followsTable_committed hmove (s.freshTable bytes)
  obtain ⟨-, -, hwinch, -⟩ := id hfollows
  refine ⟨_, exec_radioFrame_fresh hrun haccepted hcounter hfailsafe, ?_⟩
  generalize ht : ((s.frameStored bytes).commitGrants (s.freshTable bytes)).settle = t at *
  have hgrt : t.grt = s.freshTable bytes := by rw [← ht, State.settle_grt, State.commitGrants_grt]
  have hdlr : t.dlr = s.dlr.hunt.store bytes s.now := by
    rw [← ht, State.settle_dlr, State.commitGrants_dlr]
    rfl
  rw [hgrt, hdlr]
  refine ⟨rfl, rfl, rfl, rfl, rfl, fun hchannel => Grt.freshFrame_undecoded (decodeFrame_some hchannel),
    fun hchannel => ?record, rfl, hfollows, ?posted, fun hne => ⟨hwinch.directEnded hne, hwinch.preempted hne⟩, ?frame⟩
  case posted => exact ht ▸ acpPosted_committed hmove _
  case frame =>
    rw [← ht]
    exact ((unchangedBut_withDlr s _).append (unchangedBut_commitGrants _ _)).settle (by simp) (by simp) (by simp)
  have hdecoded := decodeFrame_channel (raw := frameChannels bytes) hchannel
  generalize decodeFn s.cfg (s.cfg.dlChannel f) f _ = v at hdecoded
  obtain ⟨hrecord, hlast, hlost⟩ := Grt.freshFrame_decoded (g := s.grt) (c := s.cfg) (now := s.now) hdecoded
  have hlostTo (b : Bool) (ho : overrides s.cfg f (s.grt.lastDecoded.get f) v = b) :
      (s.freshTable bytes).lost.get f = (s.grt.lost.get f || (s.holderOf f == .ap && b)) := ho ▸ hlost
  refine ⟨v, hlast, fun hdl => hrecord.trans (FnRecord.atFrame_dl hdl),
    fun hpd => hrecord.trans (FnRecord.atFrame_pd hpd), fun hheld hallow hover => ?_,
    fun hfs hdefault hback => ?_, fun hap hkept => ?_, fun hfs hover hback => ?_⟩
  · have ho := overrides_iff.2 ⟨hallow, hover⟩
    exact ⟨hrecord.trans (FnRecord.atFrame_overridden hheld ho), (hlostTo true ho).trans (by rw [Bool.and_true])⟩
  · exact hrecord.trans (FnRecord.atFrame_returned hfs (returns_iff.2 ⟨hdefault, hback⟩))
  · have ho := not_overrides hkept
    exact ⟨hrecord.trans (FnRecord.atFrame_ap_kept hap ho), (hlostTo false ho).trans (by simp)⟩
  · have ho := Bool.eq_false_iff.2 (mt overrides_iff.1 hover)
    have hr := Bool.eq_false_iff.2 (mt returns_iff.1 hback)
    exact ⟨hrecord.trans (FnRecord.atFrame_fs_kept hfs ho hr), (hlostTo false ho).trans (by simp)⟩

end Sys2Proof.Machine
end

section
/-! PROOFS. O42: pendant edges, the settle timer, and WINCH taken and given back (R61, R62, R100, R113, R144, R145). -/

namespace Sys2Proof.Machine

variable {s : State} {line : PendantLine} {due : Nat}

/-! ### The lines and their settle timers (R144) -/

section
variable (p : Pnd) (line : PendantLine) (pressed : Bool) (settle : Option Nat)

@[simp] theorem Pnd.put_pressed_same : (p.put line pressed settle).pressed line = pressed := by
  cases line <;> rfl

theorem Pnd.put_pressed_other {l : PendantLine} (h : l ≠ line) :
    (p.put line pressed settle).pressed l = p.pressed l := by
  cases line <;> cases l <;> first | rfl | exact absurd rfl h

@[simp] theorem Pnd.put_settleEnd_same : (p.put line pressed settle).settleEnd line = settle := by
  cases line <;> rfl

theorem Pnd.put_settleEnd_other {l : PendantLine} (h : l ≠ line) :
    (p.put line pressed settle).settleEnd l = p.settleEnd l := by
  cases line <;> cases l <;> first | rfl | exact absurd rfl h

/-- What a write of a line makes of the pendant's debounced states. -/
theorem Pnd.put_line :
    (p.put line pressed settle).settleEnd line = settle ∧ (p.put line pressed settle).pressed line = pressed ∧
    ∀ l, l ≠ line → (p.put line pressed settle).pressed l = p.pressed l :=
  ⟨p.put_settleEnd_same line pressed settle, p.put_pressed_same line pressed settle,
    fun _ h => p.put_pressed_other line pressed settle h⟩

/-- A line whose debounced state is written again keeps every debounced state. -/
theorem Pnd.put_pressed_self (l : PendantLine) : (p.put line (p.pressed line) settle).pressed l = p.pressed l := by
  by_cases h : l = line
  · rw [h, Pnd.put_pressed_same]
  · exact p.put_pressed_other line _ settle h

@[simp] theorem Lines.putLow_low_same (l : Lines) (low : Bool) : (l.putLow line low).low line = low := by
  cases line <;> rfl

theorem Lines.putLow_low_other (l : Lines) (low : Bool) {k : PendantLine} (h : k ≠ line) :
    (l.putLow line low).low k = l.low k := by
  cases line <;> cases k <;> first | rfl | exact absurd rfl h

end

theorem exec_pendantEdge (line : PendantLine) (low : Bool) :
    exec (.pendantEdge line low) s = .next ((s.withLines (s.lines.putLow line low)).withPnd
      (s.pnd.put line (s.pnd.pressed line) (some (s.now + settleTime)))).settle := rfl

/-- The state at the end of a settle timer, the line's level debounced, before a change is presented (R144). -/
def State.debounced (s : State) (line : PendantLine) (due : Nat) : State :=
  (s.reach due).withPnd (s.pnd.put line (s.lines.low line) none)

theorem State.debounced_moves (s : State) (line : PendantLine) (due : Nat) :
    unchangedBut [.now, .pnd] s (s.debounced line due) := by
  intro b hb
  cases b <;> first | rfl | exact absurd (by simp) hb

theorem exec_pendantSettle_unchanged (h : s.pnd.settleEnd line = some due)
    (hsame : s.pnd.pressed line = s.lines.low line) :
    exec (.pendantSettleExpiry line) s = .next (s.debounced line due).settle := by
  simp only [exec, execPendantSettleExpiry, h]
  exact if_pos (beq_iff_eq.2 hsame)

theorem exec_pendantSettle_changed (h : s.pnd.settleEnd line = some due) (hne : s.pnd.pressed line ≠ s.lines.low line) :
    exec (.pendantSettleExpiry line) s = .next ((s.debounced line due).presentPendant (s.lines.low line)).settle := by
  simp only [exec, execPendantSettleExpiry, h]
  exact if_neg fun hsame => hne (eq_of_beq hsame)

/-! ### A change presented (R145) -/

/-- In SLEEP a press is a wake source and nothing else of the state moves (R145, R162). -/
theorem State.presentPendant_asleep (pressed : Bool) (h : s.rsc.run = .sleep) :
    s.presentPendant pressed =
      s.withRsc
        { s.rsc with
          wakeEnd := if pressed ∧ s.rsc.wakeEnd = none then some (s.now + wakeTime) else s.rsc.wakeEnd } := by
  unfold State.presentPendant
  rw [h]
  cases pressed with
  | false => simp; rfl
  | true => simp [State.wakeSource, h]

theorem State.presentPendant_awake (pressed : Bool) (h : s.rsc.run ≠ .sleep) :
    s.presentPendant pressed = s.commitGrants (s.grt.pendantChange s.cfg s.pnd.inPressed s.pnd.outPressed) := by
  unfold State.presentPendant
  exact if_neg fun hasleep => h (eq_of_beq hasleep)

section
variable {g : Grt} {c : Settings} {inP outP : Bool}

theorem Grt.pendantChange_pressed (h : inP = true ∨ outP = true) :
    g.pendantChange c inP outP = g.pendantPressed c (pendantValue c inP outP) := by
  unfold Grt.pendantChange
  exact if_pos (Bool.or_eq_true_iff.2 h)

theorem Grt.pendantChange_released : g.pendantChange c false false = g.pendantReleased c := rfl

/-- The value the buttons give (R61). -/
theorem pendantValue_eq : pendantValue c inP outP =
    if inP = true ∧ outP = false then -(c.pdSpeed : Int) else if inP = false ∧ outP = true then c.pdSpeed else 0 := by
  cases inP <;> cases outP <;> rfl

/-- A pendant that may not have WINCH changes nothing (R61). -/
theorem Grt.pendantPressed_barred {v : Int} (h : c.allows .winch .pd = false) : g.pendantPressed c v = g := by
  simp [Grt.pendantPressed, h]

/-- The pendant holding WINCH already writes the value of its buttons (R61). -/
theorem Grt.pendantPressed_held {v : Int} (h : c.allows .winch .pd = true) (hpd : (g.fns.get .winch).holder = .pd) :
    g.pendantPressed c v = g.put .winch { g.fns.get .winch with value := v } := by
  simp [Grt.pendantPressed, h, hpd]

/-- From any other holder it takes WINCH, and AP's loss is noted (R61, R63). -/
theorem Grt.pendantPressed_taken {v : Int} (h : c.allows .winch .pd = true) (hpd : (g.fns.get .winch).holder ≠ .pd) :
    g.pendantPressed c v =
      { g.put .winch ((g.fns.get .winch).moveTo .pd v none) with
        lost := g.lost.set .winch (g.lost.get .winch || (g.fns.get .winch).holder == .ap) } := by
  have hself : g.lost.set .winch (g.lost.get .winch) = g.lost := rfl
  unfold Grt.pendantPressed
  by_cases hap : (g.fns.get .winch).holder = .ap
  · simp [h, hap, Grt.lose, Grt.put]
  · rw [beq_false_of_ne hap, Bool.or_false, hself]
    simp [h, hpd, hap, Grt.put]

/-- Pressed with WINCH allowed, the pendant holds WINCH with the value of its buttons (R61, R63). -/
theorem Grt.pendantPressed_record {v : Int} (h : c.allows .winch .pd = true) :
    ((g.fns.get .winch).holder ≠ .pd → movedTo .pd v none (g.fns.get .winch) ((g.pendantPressed c v).fns.get .winch)) ∧
    ((g.fns.get .winch).holder = .pd → (g.pendantPressed c v).fns.get .winch = { g.fns.get .winch with value := v }) ∧
    (g.pendantPressed c v).lost.get .winch = (g.lost.get .winch || (g.fns.get .winch).holder == .ap) ∧
    ((g.pendantPressed c v).fns.get .winch).holder = .pd := by
  by_cases hpd : (g.fns.get .winch).holder = .pd
  · rw [Grt.pendantPressed_held h hpd]
    exact ⟨fun hne => absurd hpd hne, fun _ => rfl, by rw [hpd]; exact (Bool.or_false _).symm, hpd⟩
  · rw [Grt.pendantPressed_taken h hpd]
    exact ⟨fun _ => rfl, fun he => absurd he hpd, rfl, rfl⟩

/-- With both buttons released a pendant that holds WINCH gives it up, and another changes nothing (R62). -/
theorem Grt.pendantReleased_held (h : (g.fns.get .winch).holder = .pd) :
    g.pendantReleased c = g.put .winch (g.givenUp c .winch) := if_pos (beq_iff_eq.2 h)

theorem Grt.pendantReleased_left (h : (g.fns.get .winch).holder ≠ .pd) : g.pendantReleased c = g :=
  if_neg fun he => h (eq_of_beq he)

/-- From `g` to `g'` only WINCH's record and its place in the lost set may have changed. -/
def Grt.onlyWinch (g g' : Grt) : Prop :=
  (∀ f, f ≠ .winch → g'.fns.get f = g.fns.get f ∧ g'.lost.get f = g.lost.get f) ∧
    g' = { g with fns := g'.fns, lost := g'.lost }

theorem Grt.onlyWinch_put (g : Grt) (r : FnRecord) : g.onlyWinch (g.put .winch r) :=
  ⟨fun _ hf => ⟨PerFn.get_set_other _ _ _ _ hf, rfl⟩, rfl⟩

/-- The pendant reaches nothing of the grant table but WINCH (R61, R62). -/
theorem Grt.onlyWinch_pendantChange (g : Grt) (c : Settings) (inP outP : Bool) :
    g.onlyWinch (g.pendantChange c inP outP) := by
  have hself : g.onlyWinch g := ⟨fun _ _ => ⟨rfl, rfl⟩, rfl⟩
  by_cases hpressed : inP = true ∨ outP = true
  · rw [Grt.pendantChange_pressed hpressed]
    cases hallow : c.allows .winch .pd with
    | false => rwa [Grt.pendantPressed_barred hallow]
    | true =>
      by_cases hpd : (g.fns.get .winch).holder = .pd
      · rw [Grt.pendantPressed_held hallow hpd]
        exact g.onlyWinch_put _
      · rw [Grt.pendantPressed_taken hallow hpd]
        exact ⟨fun _ hf => ⟨PerFn.get_set_other _ _ _ _ hf, PerFn.get_set_other _ _ _ _ hf⟩, rfl⟩
  · obtain ⟨rfl, rfl⟩ : inP = false ∧ outP = false := by simpa using hpressed
    rw [Grt.pendantChange_released]
    by_cases hpd : (g.fns.get .winch).holder = .pd
    · rw [Grt.pendantReleased_held hpd]
      exact g.onlyWinch_put _
    · rwa [Grt.pendantReleased_left hpd]

end

/-! ### O42 -/

/-- A debounced change presented in SLEEP (R145, R162). -/
theorem pendantPresented_asleep (h : s.pnd.settleEnd line = some due) (hne : s.pnd.pressed line ≠ s.lines.low line)
    (hrun : s.rsc.run = .sleep) :
    ∃ t, exec (.pendantSettleExpiry line) s = .next t ∧ t.now = max s.now due ∧
      t.pnd = s.pnd.put line (s.lines.low line) none ∧ t.grt = s.grt ∧ t.rsc.run = .sleep ∧
      t.rsc.wakeEnd = (if s.lines.low line ∧ s.rsc.wakeEnd = none then some (t.now + 5 * msec) else s.rsc.wakeEnd) ∧
      acpSettled s t ∧ unchangedBut [.now, .prot, .grt, .drv, .wch, .lgt, .pnd, .acp, .rsc] s t := by
  refine ⟨_, exec_pendantSettle_changed h hne, ?_⟩
  rw [State.presentPendant_asleep (s := s.debounced line due) _ hrun]
  refine ⟨rfl, rfl, rfl, hrun, rfl, rfl, ?_⟩
  exact ((s.debounced_moves line due).append (unchangedBut_withRsc (s.debounced line due) _)).settle
    (by simp) (by simp) (by simp)

/-- A debounced change presented out of SLEEP: the table of `Grt.pendantChange` committed (R61, R62, R145). -/
theorem pendantPresented_awake (h : s.pnd.settleEnd line = some due) (hne : s.pnd.pressed line ≠ s.lines.low line)
    (hrun : s.rsc.run ≠ .sleep) :
    ∃ t, exec (.pendantSettleExpiry line) s = .next t ∧ t.now = max s.now due ∧
      t.pnd = s.pnd.put line (s.lines.low line) none ∧
      t.grt = s.grt.pendantChange s.cfg t.pnd.inPressed t.pnd.outPressed ∧ followsTable s t ∧ acpPosted s t ∧
      (s.queueOk → t.holderOf .winch ≠ .ap → preempted s t) ∧
      unchangedBut [.now, .prot, .grt, .drv, .wch, .lgt, .pnd, .acp, .rsc] s t := by
  have hmoves := s.debounced_moves line due
  have hmove : unchangedBut [.now, .dlr, .pnd] s (s.debounced line due) := hmoves.mono (by simp)
  refine ⟨_, exec_pendantSettle_changed h hne, ?_⟩
  rw [State.presentPendant_awake (s := s.debounced line due) _ hrun]
  refine ⟨State.commitGrants_now _ _, State.commitGrants_pnd _ _, ?_, followsTable_committed hmove _,
    acpPosted_committed hmove _, fun hq hap => preempted_committed hmove _ hq ?_, ?_⟩
  · rw [State.settle_grt, State.commitGrants_grt, State.settle_pnd, State.commitGrants_pnd]
    rfl
  · rwa [State.holderOf, State.settle_grt, State.commitGrants_grt] at hap
  · exact (hmoves.append (unchangedBut_commitGrants (s.debounced line due) _)).settle (by simp) (by simp) (by simp)

/-- A port that has only latched has posted nothing. -/
theorem acpSettled.posted {t : State} (h : acpSettled s t) : acpPosted s t ∧ t.acp.orderDone = s.acp.orderDone := by
  have hdone : t.acp.orderDone = s.acp.orderDone := by
    unfold acpSettled at h
    rw [h]
  refine ⟨?_, hdone⟩
  unfold acpPosted
  rwa [hdone]

/-- Settles O42: an edge and an end of the settle timer by `Pnd.put`, a change by the run state, and out of SLEEP by the
table of `Grt.pendantChange` and what a committed table sets off. -/
theorem pendantTakesTheWinch : Obligations.PendantTakesTheWinch := by
  intro s line low due
  refine ⟨⟨_, exec_pendantEdge line low, ?edge⟩,
    fun hdue hsame => ⟨_, exec_pendantSettle_unchanged hdue hsame, ?unchanged⟩, fun hdue hne => ?changed⟩
  case edge =>
    refine ⟨Pnd.put_settleEnd_same _ _ _ _, Pnd.put_pressed_self _ _ _, Lines.putLow_low_same _ _ _,
      fun l hl => ⟨Pnd.put_settleEnd_other _ _ _ _ hl, Lines.putLow_low_other _ _ _ hl⟩,
      changesOnly_of_unchangedBut (fun b hb => ?_) (by simp) (by simp)⟩
    cases b <;> first | rfl | exact absurd (by simp) hb
  case unchanged =>
    refine ⟨rfl, Pnd.put_settleEnd_same _ _ _ _, fun l => ?_,
      changesOnly_of_unchangedBut (s.debounced_moves line due) (by simp) (by simp)⟩
    rw [State.settle_pnd, State.debounced, ← hsame]
    exact Pnd.put_pressed_self _ _ _ l
  case changed =>
    have hline := s.pnd.put_line line (s.lines.low line) none
    by_cases hrun : s.rsc.run = .sleep
    · obtain ⟨t, hexec, hnow, hpnd, hgrt, hasleep, hwake, hsettled, hframe⟩ := pendantPresented_asleep hdue hne hrun
      obtain ⟨hsettle, hpressed, hother⟩ := hpnd ▸ hline
      obtain ⟨hposted, hdone⟩ := hsettled.posted
      have hholder : t.holderOf .winch = s.holderOf .winch := by rw [State.holderOf, hgrt]; rfl
      exact ⟨t, hexec, hnow, hsettle, hpressed, hother, fun _ => ⟨hgrt, hasleep, hwake⟩, fun h => absurd hrun h,
        fun h => absurd hrun h, fun h => absurd hrun h, fun h => absurd hrun h, fun _ => hdone,
        fun h => absurd hholder h, hposted, fun h => absurd hrun h, fun g _ => ⟨by rw [hgrt], by rw [hgrt]⟩,
        by rw [hgrt], hframe⟩
    · obtain ⟨t, hexec, hnow, hpnd, hgrt, hfollows, hposted, hpreempted, hframe⟩ := pendantPresented_awake hdue hne hrun
      obtain ⟨hsettle, hpressed, hother⟩ := hpnd ▸ hline
      obtain ⟨-, -, hwinch, -⟩ := id hfollows
      obtain ⟨hothers, honly⟩ := s.grt.onlyWinch_pendantChange s.cfg t.pnd.inPressed t.pnd.outPressed
      refine ⟨t, hexec, hnow, hsettle, hpressed, hother, fun h => absurd h hrun, fun _ hallow hbutton => ?pressed,
        fun _ hbarred hbutton => ?barred, fun _ hin hout hpd => ?left, fun _ => hfollows, fun h => absurd h hrun,
        hwinch.directEnded, hposted, fun _ hin hout hpd => ?released, hgrt ▸ hothers, hgrt ▸ honly, hframe⟩
      case pressed =>
        rw [Grt.pendantChange_pressed hbutton] at hgrt
        obtain ⟨htaken, hheld, hlost, hpd⟩ :=
          s.grt.pendantPressed_record (v := pendantValue s.cfg t.pnd.inPressed t.pnd.outPressed) hallow
        rw [← hgrt] at htaken hheld hlost hpd
        rw [pendantValue_eq] at htaken hheld
        refine ⟨htaken, hheld, hlost, fun hq => hpreempted hq ?_⟩
        rw [State.holderOf, hpd]
        exact nofun
      case barred => rw [hgrt, Grt.pendantChange_pressed hbutton, Grt.pendantPressed_barred hbarred]
      case left => rw [hgrt, hin, hout, Grt.pendantChange_released, Grt.pendantReleased_left hpd]
      case released =>
        have hrecord : t.grt.fns.get .winch = s.grt.givenUp s.cfg .winch := by
          rw [hgrt, hin, hout, Grt.pendantChange_released, Grt.pendantReleased_held hpd]
          rfl
        rw [hrecord]
        refine ⟨fun v hd hfresh hv => ?_, fun hnot => ?_⟩
        · rw [Grt.givenUp_back hd hfresh hv]
          rfl
        · rw [Grt.givenUp_failsafe hnot]
          exact FnRecord.passedToFs_toFs _ _ _ false

end Sys2Proof.Machine
end

section
/-! PROOFS. O15: the bytes of a write spell the command they carry (Table 11-4, R147, R157). -/

namespace Sys2Proof.Machine

open Sys2Proof.Laws.Encoded in
/-- The law of Table 11-4 holds of every command: the commands of the part one by one, in the table's order. -/
theorem Instr.encoded (i : Instr) : Statement i :=
  Instr.casesOn (motive := Statement) i powerOnReset brownOutReset pinReset sampleSet warnEntryComplete warnExitComplete
    cutTimerComplete critTimerComplete rearmTimerComplete ocTripAssert ocTripRelease prechargeExpiry budgetPeriod servoShort
    driveStep servoFrame winchStep orderTimeout orderStarved retryPauseEnd currentCheckStall drumCheckStall drumPulse
    benchDrumPulse lightFrameBoundary radioFrame framingError linkGapTimeout replyTimerExpiry
    Sys2Proof.Laws.Encoded.replySent dlFreshnessExpiry apLeaseExpiry pendantEdge pendantSettleExpiry wakeTimerExpiry
    armingTimerExpiry idleSleepExpiry loadEnd storeEnd acpUnknownWrite status read readCause faultNext faultAck attnMask
    lockoutClear halt sleep benchDry benchWet load start reset cfgRead cfgWrite cfgCheck cfgStore claim set claimSet release
    refresh winchPost winchCancel winchReap winchResume winchZero sceneWrite benchInject benchStall linkByteReceived
    runctlNoFlag

/-- Settles O15: each command has its own law under Laws/, and the statement is all of them. -/
theorem writesSpellTheirCommand : Obligations.WritesSpellTheirCommand := by
  intro i bytes strap hformed hbytes hstrap
  exact Instr.encoded i hformed bytes hbytes strap hstrap

end Sys2Proof.Machine
end

section
/-! PROOFS. O19 and O20: STATUS, READ_CAUSE, ATTN_MASK, the attention line and the walk through the fault set (R54, R63,
R149, R151, R152, R154, R155). -/

namespace Sys2Proof.Machine

variable {s t : State}

/-! ### Answers that have changed the port (R148) -/

/-- A frame that leaves out the accessory port does not see a port replaced at its beginning. -/
theorem unchangedBut_of_withAcp {blocks : List Block} {a : Acp} (ha : .acp ∈ blocks)
    (h : unchangedBut blocks (s.withAcp a) t) : unchangedBut blocks s t := by
  intro b hb
  have hagree := h b hb
  cases b with
  | acp => exact absurd ha hb
  | _ => exact hagree

/-- What an answer leaves that was given after the accessory port had become `a`. -/
theorem answered_withAcp (s : State) (a : Acp) (status : Status) (data : List Byte) :
    ((s.wakeSource.withAcp a).respond status data).settle.acp =
        { a with
          status := status, data := data
          latched := a.latched ||| faultWord ((s.wakeSource.withAcp a).respond status data).settle.faultActive } ∧
      apHeard s ((s.wakeSource.withAcp a).respond status data).settle status ∧
      rscTaken s ((s.wakeSource.withAcp a).respond status data).settle ∧
      unchangedBut [.acp, .grt, .rsc] s ((s.wakeSource.withAcp a).respond status data).settle := by
  obtain ⟨hframe, hacp, hgrt, hrsc⟩ := answersWith_wake (s := s.withAcp a) (status := status) (data := data)
  exact ⟨hacp, hgrt, hrsc, unchangedBut_of_withAcp (by simp) hframe⟩

/-! ### STATUS and READ_CAUSE (R149, R155) -/

/-- STATUS reaches its rule in every state, during a store too (R147). -/
theorem exec_status (s : State) : exec (.status []) s = .next s.wakeSource.statusRule.settle :=
  congrArg completed (s.takeCommand_taken true noData State.statusRule (.inr rfl))

theorem exec_readCause (hopen : s.portOpen) : exec (.readCause []) s = .next s.wakeSource.readCause.settle :=
  congrArg completed (s.takeCommand_taken false noData State.readCause (.inl hopen))

/-- The bytes of STATUS (R149, Table 11-4). -/
theorem State.statusData_eq (s : State) :
    s.statusData =
      [byteOf s.rsc.run.code, byteOf s.prot.st.code, byteOf s.prot.sw.code,
        byteOf ((if s.rsc.valid then 1 else 0) + (if s.rsc.storeEnd ≠ none then 2 else 0) +
          (if s.acp.orderDone then 4 else 0) + (if s.grantLost then 8 else 0))] ++
      idList 7 ((Fn.all.filter s.grt.lost.get).map Fn.code) ++
      [codeByte ((FaultEntry.all.filter s.faultLatched).map FaultEntry.code).head?,
        byteOf (FaultEntry.all.filter s.faultLatched).length] := by
  simp only [State.statusData, State.statusFlags, State.latchedIndexes, Grt.lostIds, Option.isSome_iff_ne_none,
    List.length_map]

/-- STATUS clears ORDER_DONE and the lost set, and makes AP_LOST inactive (R54, R63, R149). -/
theorem State.statusRule_answered (s : State) :
    s.wakeSource.statusRule.settle.acp =
        { s.acp with
          status := .ok, data := s.wakeSource.statusData, orderDone := false
          latched := s.acp.latched ||| faultWord s.wakeSource.statusRule.settle.faultActive } ∧
      s.wakeSource.statusRule.settle.grt =
        { s.grt with lost := PerFn.build fun _ => false, apLost := false } ∧
      rscTaken s s.wakeSource.statusRule.settle ∧ unchangedBut [.acp, .grt, .rsc] s s.wakeSource.statusRule.settle := by
  obtain ⟨hframe, hacp, hgrt, hrsc⟩ :=
    answersWith_wake (s := s.clearEvents) (status := .ok) (data := s.wakeSource.statusData)
  refine ⟨hacp, hgrt.trans ?_, hrsc, fun b hb => ?_⟩
  · simp [State.clearEvents, Status.completes]
  · have hagree := hframe b hb
    cases b with
    | acp | grt => exact absurd (by simp) hb
    | _ => exact hagree

/-! ### The attention mask and line (R154) -/

theorem exec_attnMask (hopen : s.portOpen) (x y z : Byte) :
    exec (.attnMask [x, y, z]) s = .next (s.wakeSource.attnMask [x, y, z]).settle :=
  congrArg completed (s.takeCommand_taken false noData (State.attnMask · _) (.inl hopen))

/-- The mask that three bytes spell, most significant first (R173). -/
theorem maskOf_bytes (x y z : Byte) :
    maskOf [x, y, z] = BitVec.ofNat 18 (x.toNat * 65536 + y.toNat * 256 + z.toNat) := by
  have hspelled : beNat [x, y, z] = ((0 * 256 + x.toNat) * 256 + y.toNat) * 256 + z.toNat := rfl
  exact congrArg (BitVec.ofNat 18) (hspelled.trans (by omega))

/-- The mask goes back as it was written, without the six bits it has no use for (R154, Table 11-4). -/
theorem word24_maskOf (x y z : Byte) : word24 (maskOf [x, y, z]).toNat = [byteOf (x.toNat % 4), y, z] := by
  have hbyte (n : Nat) (b : Byte) (h : n % 256 = b.toNat) : byteOf n = b := BitVec.eq_of_toNat_eq h
  have hx : (byteOf (x.toNat % 4)).toNat = x.toNat % 4 := byteOf_toNat (by omega)
  have hy := y.isLt
  have hz := z.isLt
  rw [maskOf_bytes, BitVec.toNat_ofNat]
  generalize hn : (x.toNat * 65536 + y.toNat * 256 + z.toNat) % 2 ^ 18 = n
  have htop : byteOf (n / 65536) = byteOf (x.toNat % 4) := hbyte _ _ (by omega)
  have hmiddle : byteOf (n / 256) = y := hbyte _ _ (by omega)
  have hlow : byteOf n = z := hbyte _ _ (by omega)
  rw [word24, htop, hmiddle, hlow]

/-- The sixteen indexes are those of the entries (Table 8-3). -/
theorem FaultEntry.exists_code : ∀ i < 16, ∃ e : FaultEntry, e.code = i := by
  have hall : ∀ i < 16, ∃ e ∈ FaultEntry.all, e.code = i := by decide
  exact fun i hi => (hall i hi).imp fun _ h => h.2

/-- A fault word is not 0 exactly where the bit of some entry is set. -/
theorem faultWord_ne_zero_iff (w : BitVec 16) : w ≠ 0 ↔ ∃ e : FaultEntry, w.getLsbD e.code = true := by
  constructor
  · intro hne
    by_contra hnone
    refine hne (BitVec.eq_of_getLsbD_eq fun i hi => ?_)
    obtain ⟨e, rfl⟩ := FaultEntry.exists_code i hi
    simpa using not_exists.1 hnone e
  · rintro ⟨e, he⟩ rfl
    simp at he

/-- GRANT_LOST is pending while some function is in the lost set (R63). -/
theorem State.grantLost_iff (s : State) : s.grantLost = true ↔ ∃ f, s.grt.lost.get f = true := by
  have hlist : s.grt.lost.toList = Fn.all.map s.grt.lost.get := rfl
  simp [State.grantLost, hlist]

/-- ATTN_N is low while something latched or pending is not masked out (R154). -/
theorem State.attnLow_iff (s : State) : s.attnLow = true ↔
    (∃ e : FaultEntry, s.faultLatched e = true ∧ s.acp.mask.getLsbD e.code = true) ∨
    (s.acp.orderDone = true ∧ s.acp.mask.getLsbD 16 = true) ∨
    ((∃ f, s.grt.lost.get f = true) ∧ s.acp.mask.getLsbD 17 = true) := by
  have hlatched : s.acp.latched &&& s.acp.mask.setWidth 16 ≠ 0 ↔
      ∃ e : FaultEntry, s.faultLatched e = true ∧ s.acp.mask.getLsbD e.code = true := by
    simp only [faultWord_ne_zero_iff, BitVec.getLsbD_and, BitVec.getLsbD_setWidth, FaultEntry.code_lt, decide_true,
      Bool.true_and, Bool.and_eq_true, State.faultLatched]
  rw [← hlatched, ← s.grantLost_iff]
  simp [State.attnLow, or_assoc]

/-- Settles O19: three answers that have changed the port, and the attention line read bit by bit. -/
theorem statusCausesAndAttention : Obligations.StatusCausesAndAttention := by
  refine ⟨fun s => ⟨_, exec_status s, ?status⟩, fun s hopen => ⟨_, exec_readCause hopen, ?cause⟩,
    fun s x y z hopen => ⟨_, exec_attnMask hopen x y z, ?mask⟩, State.attnLow_iff⟩
  case status =>
    have h := s.statusRule_answered
    rw [State.statusData_eq] at h
    exact h
  case cause => exact answered_withAcp s { s.acp with causes := Causes.none } .ok [s.acp.causes.byte]
  case mask =>
    have h := answered_withAcp s { s.acp with mask := maskOf [x, y, z] } .ok (word24 (maskOf [x, y, z]).toNat)
    have hrule : s.wakeSource.attnMask [x, y, z] = (s.wakeSource.withAcp { s.acp with mask := maskOf [x, y, z] }).respond
        .ok (word24 (maskOf [x, y, z]).toNat) := rfl
    rw [← hrule, word24_maskOf, maskOf_bytes] at h
    exact h

/-! ### FAULT_NEXT and FAULT_ACK (R152) -/

theorem exec_faultNext (hopen : s.portOpen) : exec (.faultNext []) s = .next s.wakeSource.faultNextRule.settle :=
  congrArg completed (s.takeCommand_taken false noData State.faultNextRule (.inl hopen))

theorem exec_faultAck (hopen : s.portOpen) (b : Byte) :
    exec (.faultAck [b]) s = .next (s.wakeSource.faultAck [b]).settle :=
  congrArg completed (s.takeCommand_taken false (ackData [b]) (State.faultAck · [b]) (.inl hopen))

theorem State.wakeSource_faultActive (s : State) : s.wakeSource.faultActive = s.faultActive := by
  funext e
  cases e <;> rfl

/-- An entry's index names it (Table 8-3). -/
theorem FaultEntry.ofIndex_code (e : FaultEntry) : FaultEntry.ofIndex (byteOf e.code).toNat = some e := by
  cases e <;> rfl

/-- An index above 15 names none. -/
theorem FaultEntry.ofIndex_above {n : Nat} (h : 15 < n) : FaultEntry.ofIndex n = none := List.getElem?_eq_none h

/-- The entries stand in the order of their indexes: before an entry stand those with a lower one. -/
theorem FaultEntry.all_split (e : FaultEntry) :
    ∃ before after, FaultEntry.all = before ++ e :: after ∧ ∀ d ∈ before, d.code < e.code := by
  refine ⟨FaultEntry.all.take e.code, FaultEntry.all.drop (e.code + 1), ?_, ?_⟩
  · cases e <;> rfl
  · cases e <;> decide

/-- The walk finds the latched entry with the lowest index. -/
theorem FaultEntry.find?_all {p : FaultEntry → Bool} {e : FaultEntry} (he : p e = true)
    (hlow : ∀ d : FaultEntry, d.code < e.code → p d = false) : FaultEntry.all.find? p = some e := by
  obtain ⟨before, after, hall, hbefore⟩ := e.all_split
  have hnone : before.find? p = none := List.find?_eq_none.2 fun d hd => by simp [hlow d (hbefore d hd)]
  rw [hall, List.find?_append, hnone, List.find?_cons_of_pos he]
  rfl

/-- An acknowledged entry that is not active has its latched flag cleared, and the other latched flags stand. -/
theorem State.clearLatch_faultLatched (s : State) (d e : FaultEntry) :
    (s.clearLatch e).faultLatched d = (d != e && s.faultLatched d) := by
  have hd := d.code_lt
  have hbit : (faultBit e).getLsbD d.code = (e == d) := faultBit_getLsbD e d
  simp only [State.clearLatch, State.faultLatched, State.withAcp_acp, BitVec.getLsbD_and, BitVec.getLsbD_not, hbit, hd,
    decide_true, Bool.true_and, bne, Bool.and_comm (s.acp.latched.getLsbD d.code), Bool.beq_comm (a := d)]

/-- No answer makes an entry active. -/
theorem State.respond_faultActive (status : Status) (data : List Byte) {e : FaultEntry} (h : s.faultActive e = false) :
    (s.respond status data).faultActive e = false := by
  cases e with
  | apLost =>
    have hlost : s.grt.apLost = false := h
    simp [State.faultActive, State.respond_grt, hlost]
  | _ => exact h

/-- Settles O20: FAULT_NEXT answers with the first latched entry of the set, FAULT_ACK by the entry its index names. -/
theorem faultWalk : Obligations.FaultWalk := by
  intro s hopen
  have hactive : s.wakeSource.faultActive = s.faultActive := s.wakeSource_faultActive
  refine ⟨⟨_, exec_faultNext hopen, answersWith_wake, fun e he hlow => ?first, fun hnone => ?none⟩,
    fun b hb => ⟨_, exec_faultAck hopen b, ?above⟩,
    fun e => ⟨fun he => ⟨_, exec_faultAck hopen _, ?refused⟩, fun he => ⟨_, exec_faultAck hopen _, ?cleared⟩⟩⟩
  case first =>
    have hfind : FaultEntry.all.find? s.wakeSource.faultLatched = some e := FaultEntry.find?_all he hlow
    show s.wakeSource.faultNextData = _
    rw [State.faultNextData, hfind, ← hactive]
    rfl
  case none =>
    have hfind : FaultEntry.all.find? s.wakeSource.faultLatched = none :=
      List.find?_eq_none.2 fun e _ => Bool.not_eq_true _ ▸ hnone e
    show s.wakeSource.faultNextData = _
    rw [State.faultNextData, hfind]
    rfl
  case above =>
    have hrule : s.wakeSource.faultAck [b] = s.wakeSource.respond .badValue [0, 0] := by
      have hindex : FaultEntry.ofIndex b.toNat = none := FaultEntry.ofIndex_above hb
      simp only [State.faultAck, ackData, param, List.getD_cons_zero, hindex]
      rfl
    rw [hrule]
    exact answersWith_wake
  case refused =>
    have hrule : s.wakeSource.faultAck [byteOf e.code] =
        s.wakeSource.respond .refusedState [1, if s.faultLatched e = true then 1 else 0] := by
      simp only [State.faultAck, param, List.getD_cons_zero, FaultEntry.ofIndex_code, State.entryFlags, hactive, he, if_true]
      rfl
    rw [hrule]
    exact answersWith_wake
  case cleared =>
    have hcleared : (s.wakeSource.clearLatch e).faultActive e = false := by
      have h : (s.wakeSource.clearLatch e).faultActive e = s.wakeSource.faultActive e := by cases e <;> rfl
      rw [h, hactive, he]
    have hrule : s.wakeSource.faultAck [byteOf e.code] = (s.wakeSource.clearLatch e).respond .ok [0, 0] := by
      simp only [State.faultAck, param, List.getD_cons_zero, FaultEntry.ofIndex_code, State.entryFlags, hactive, he,
        hcleared, State.clearLatch_faultLatched, Bool.false_eq_true, if_false, bne_self_eq_false, Bool.false_and]
      rfl
    rw [hrule]
    obtain ⟨hacp, hgrt, hrsc, hframe⟩ :=
      answered_withAcp s { s.acp with latched := s.acp.latched &&& ~~~faultBit e } .ok [0, 0]
    have hlatched (d : FaultEntry) : ((s.wakeSource.clearLatch e).respond .ok [0, 0]).settle.faultLatched d =
        ((d != e && s.faultLatched d) || ((s.wakeSource.clearLatch e).respond .ok [0, 0]).settle.faultActive d) := by
      rw [State.settle_faultLatched, State.settle_faultActive]
      exact congrArg (· || _) (s.wakeSource.clearLatch_faultLatched d e)
    refine ⟨hlatched, ?_, ?_, hgrt, hrsc, hframe⟩
    · rw [hlatched, State.settle_faultActive, State.respond_faultActive _ _ hcleared]
      simp
    · rfl

end Sys2Proof.Machine
end

section
/-! PROOFS. O16 and O17: the checks a write of the accessory port meets before its command's own rule, and the wake it is in
SLEEP (R147, R162). -/

namespace Sys2Proof.Machine

variable {s : State} {b : Byte} {params : List Byte}

/-! ### In SLEEP no rule but HALT's and RESET's moves the sleep (R162) -/

/-- What a sleep is: the run state, the sleep origin and the wake timer (R161, R162). -/
def State.sleeping (s : State) : RunState × Option SleepOrigin × Option Nat :=
  (s.rsc.run, s.rsc.sleepOrigin, s.rsc.wakeEnd)

/-- A write has begun the wake, or left the one in flight (R162). -/
theorem State.wakeSource_sleeping (h : s.rsc.run = .sleep) :
    s.wakeSource.sleeping = (.sleep, s.rsc.sleepOrigin, some (s.rsc.wakeEnd.getD (s.now + 5 * msec))) := by
  cases hend : s.rsc.wakeEnd <;> simp [State.sleeping, State.wakeSource, h, hend, wakeTime]

/-- A rule leaves the sleep it finds. -/
def staysAsleep (owner : State → State) : Prop := ∀ w : State, w.rsc.run = .sleep → (owner w).sleeping = w.sleeping

theorem State.haltedIdle_asleep (h : s.rsc.run = .sleep) : s.haltedIdle = false := by simp [State.haltedIdle, h]

theorem readRule_staysAsleep (ps : List Byte) : staysAsleep (State.readRule · ps) := by
  intro w _
  dsimp only [State.readRule]
  split <;> rfl

theorem faultAck_staysAsleep (ps : List Byte) : staysAsleep (State.faultAck · ps) := by
  intro w _
  dsimp only [State.faultAck]
  (repeat' split) <;> rfl

theorem lockoutClear_staysAsleep : staysAsleep State.lockoutClear := by
  intro w _
  dsimp only [State.lockoutClear]
  split <;> rfl

theorem sleepRule_staysAsleep : staysAsleep State.sleepRule := by
  intro w h
  simp only [State.sleepRule, h]
  rfl

theorem benchDryRule_staysAsleep : staysAsleep State.benchDryRule := by
  intro w h
  simp only [State.benchDryRule, State.haltedIdle_asleep h]
  rfl

theorem benchWetRule_staysAsleep : staysAsleep State.benchWetRule := by
  intro w h
  simp only [State.benchWetRule, State.haltedIdle_asleep h]
  rfl

theorem loadRule_staysAsleep (start : Bool) : staysAsleep (State.loadRule · start) := by
  intro w h
  simp only [State.loadRule, State.haltedIdle_asleep h]
  rfl

theorem startRule_staysAsleep : staysAsleep State.startRule := by
  intro w h
  simp only [State.startRule, h]
  rfl

theorem cfgRead_staysAsleep (ps : List Byte) : staysAsleep (State.cfgRead · ps) := by
  intro w _
  dsimp only [State.cfgRead]
  split <;> rfl

theorem cfgWrite_staysAsleep (ps : List Byte) : staysAsleep (State.cfgWrite · ps) := by
  intro w h
  have hclosed : w.cfgWritable = false := by simp [State.cfgWritable, h]
  simp only [State.cfgWrite, hclosed]
  rfl

theorem cfgCheck_staysAsleep : staysAsleep State.cfgCheck := by
  intro w _
  dsimp only [State.cfgCheck]
  split <;> rfl

theorem cfgStore_staysAsleep : staysAsleep State.cfgStore := by
  intro w h
  simp only [State.cfgStore, h]
  rfl

theorem grantRule_staysAsleep (ps : List Byte) (rule : Fn → State → State) :
    staysAsleep fun w => w.grantRule ps rule := by
  intro w h
  simp only [State.grantRule, h]
  split <;> rfl

theorem refresh_staysAsleep : staysAsleep State.refresh := by
  intro w h
  simp only [State.refresh, h]
  rfl

theorem winchCommandRule_staysAsleep (d : List Byte) (rule : State → State) :
    staysAsleep fun w => w.winchCommandRule d rule := by
  intro w h
  simp only [State.winchCommandRule, h]
  rfl

theorem sceneWrite_staysAsleep (ps : List Byte) : staysAsleep (State.sceneWrite · ps) := by
  intro w _
  dsimp only [State.sceneWrite]
  split <;> rfl

theorem benchInject_staysAsleep (ps : List Byte) : staysAsleep (State.benchInject · ps) := by
  intro w h
  simp only [State.benchInject, h]
  rfl

theorem benchStall_staysAsleep : staysAsleep State.benchStall := by
  intro w h
  simp only [State.benchStall, h]
  rfl

/-! ### The checks every listed command meets (R147) -/

/-- The data that go with a refusal by R147's checks, as each command byte has them (Table 11-4). -/
def sentAlways (b : Byte) (params : List Byte) : State → List Byte :=
  if b = 0x10 then runctlData
  else if b = 0x05 then ackData params
  else if 0x20 ≤ b.toNat ∧ b.toNat ≤ 0x23 then refusedGrant params
  else if b = 0x30 then noSlot
  else noData

/-- The two writes that end a sleep: a HALT of the right length, and a RESET (R157, R165). -/
def endsSleep (b : Byte) (params : List Byte) : Prop :=
  (b = 0x10 ∧ params.length = 1 ∧ runctlRow params = .halt) ∨ (b = 0x11 ∧ params = [])

/-- Command `c` is taken as a write of byte `b` is: refused unless its length is the table's, then refused during a store
unless it is STATUS, with the data that are always sent; else it goes to `owner`, its own rule. -/
structure takenBy (b : Byte) (params : List Byte) (c : Instr) (ok : Bool) (owner : State → State) : Prop where
  length : ok = true ↔ lengthMatches b params
  meaning : ∀ s, exec c s = completed (s.takeCommand ok (b == 0x01) (sentAlways b params) owner)
  asleep : ok = true → ¬endsSleep b params → staysAsleep owner

/-- A command whose length Table 11-4 gives. -/
theorem takenBy_of_length {c : Instr} {owner : State → State} (n : Nat) (hn : tableLength b.toNat = some n)
    (hmeaning : ∀ s, exec c s = completed (s.takeCommand (params.length == n) (b == 0x01) (sentAlways b params) owner))
    (hasleep : params.length = n → ¬endsSleep b params → staysAsleep owner) :
    ∃ ok owner, takenBy b params c ok owner := by
  refine ⟨params.length == n, owner, ?_, hmeaning, fun hok => hasleep (beq_iff_eq.1 hok)⟩
  rw [lengthMatches, hn]
  exact beq_iff_eq

/-- A RUNCTL, by the row its flags select (R157). -/
theorem runctl_takenBy (params : List Byte) : ∃ ok owner, takenBy 0x10 params (ofRunctl params) ok owner := by
  unfold ofRunctl
  cases hrow : runctlRow params with
  | halt =>
    exact takenBy_of_length (owner := fun w => w.halt.runctl .ok) 1 rfl (fun _ => rfl)
      fun hlen hends => absurd (.inl ⟨rfl, hlen, hrow⟩) hends
  | sleep => exact takenBy_of_length (owner := State.sleepRule) 1 rfl (fun _ => rfl) fun _ _ => sleepRule_staysAsleep
  | benchDry =>
    exact takenBy_of_length (owner := State.benchDryRule) 1 rfl (fun _ => rfl) fun _ _ => benchDryRule_staysAsleep
  | benchWet =>
    exact takenBy_of_length (owner := State.benchWetRule) 1 rfl (fun _ => rfl) fun _ _ => benchWetRule_staysAsleep
  | load =>
    exact takenBy_of_length (owner := (State.loadRule · (startFlag params))) 1 rfl (fun _ => rfl)
      fun _ _ => loadRule_staysAsleep _
  | start => exact takenBy_of_length (owner := State.startRule) 1 rfl (fun _ => rfl) fun _ _ => startRule_staysAsleep
  | noFlag => exact takenBy_of_length (owner := fun w => w.runctl .ok) 1 rfl (fun _ => rfl) fun _ _ _ _ => rfl

/-- A CFG_WRITE, whose length its own count gives (R147). -/
theorem cfgWrite_takenBy (params : List Byte) : ∃ ok owner, takenBy 0x13 params (.cfgWrite params) ok owner := by
  have hlength : cfgWriteLengthOk params = true ↔ 3 ≤ params.length ∧ params.length = 3 + param params 2 := by
    simp [cfgWriteLengthOk]
  exact ⟨cfgWriteLengthOk params, (State.cfgWrite · params), hlength, fun _ => rfl,
    fun _ _ => cfgWrite_staysAsleep params⟩

theorem byteOf_of_toNat (b : Byte) : byteOf b.toNat = b := by simp [byteOf]

/-- Every command byte of Table 11-4 with the length, the data always sent and the rule of its command, in the table's
order. -/
theorem ofWrite_takenBy (strap : Bool) (params : List Byte) :
    ∀ n ∈ commandBytes, ∃ ok owner, takenBy (byteOf n) params (ofWrite strap (byteOf n :: params)) ok owner := by
  simp only [commandBytes, List.forall_mem_cons]
  exact ⟨
    takenBy_of_length (owner := State.statusRule) 0 rfl (fun _ => rfl) fun _ _ _ _ => rfl,
    takenBy_of_length (owner := (State.readRule · params)) 1 rfl (fun _ => rfl) fun _ _ => readRule_staysAsleep _,
    takenBy_of_length (owner := State.readCause) 0 rfl (fun _ => rfl) fun _ _ _ _ => rfl,
    takenBy_of_length (owner := State.faultNextRule) 0 rfl (fun _ => rfl) fun _ _ _ _ => rfl,
    takenBy_of_length (owner := (State.faultAck · params)) 1 rfl (fun _ => rfl) fun _ _ => faultAck_staysAsleep _,
    takenBy_of_length (owner := (State.attnMask · params)) 3 rfl (fun _ => rfl) fun _ _ _ _ => rfl,
    takenBy_of_length (owner := State.lockoutClear) 0 rfl (fun _ => rfl) fun _ _ => lockoutClear_staysAsleep,
    runctl_takenBy params,
    takenBy_of_length (owner := (State.softReset · strap)) 0 rfl (fun _ => rfl)
      fun hlen hends => absurd (.inr ⟨rfl, List.eq_nil_of_length_eq_zero hlen⟩) hends,
    takenBy_of_length (owner := (State.cfgRead · params)) 3 rfl (fun _ => rfl) fun _ _ => cfgRead_staysAsleep _,
    cfgWrite_takenBy params,
    takenBy_of_length (owner := State.cfgCheck) 0 rfl (fun _ => rfl) fun _ _ => cfgCheck_staysAsleep,
    takenBy_of_length (owner := State.cfgStore) 0 rfl (fun _ => rfl) fun _ _ => cfgStore_staysAsleep,
    takenBy_of_length 1 rfl (fun _ => rfl) fun _ _ => grantRule_staysAsleep params fun f t => t.claim f,
    takenBy_of_length 4 rfl (fun _ => rfl)
      fun _ _ => grantRule_staysAsleep params fun f t => t.setValue f (paramSigned16 params 1) (param params 3),
    takenBy_of_length 3 rfl (fun _ => rfl)
      fun _ _ => grantRule_staysAsleep params fun f t => t.claimSet f (paramSigned16 params 1),
    takenBy_of_length 1 rfl (fun _ => rfl) fun _ _ => grantRule_staysAsleep params fun f t => t.releaseFn f,
    takenBy_of_length (owner := State.refresh) 0 rfl (fun _ => rfl) fun _ _ => refresh_staysAsleep,
    takenBy_of_length 6 rfl (fun _ => rfl) fun _ _ => winchCommandRule_staysAsleep [0xFF] (State.winchPost · params),
    takenBy_of_length 1 rfl (fun _ => rfl) fun _ _ => winchCommandRule_staysAsleep [] (State.winchCancel · params),
    takenBy_of_length 0 rfl (fun _ => rfl) fun _ _ => winchCommandRule_staysAsleep [] State.winchReap,
    takenBy_of_length 0 rfl (fun _ => rfl) fun _ _ => winchCommandRule_staysAsleep [] State.winchResume,
    takenBy_of_length 0 rfl (fun _ => rfl) fun _ _ => winchCommandRule_staysAsleep [] State.winchZero,
    takenBy_of_length (owner := (State.sceneWrite · params)) 5 rfl (fun _ => rfl) fun _ _ => sceneWrite_staysAsleep _,
    takenBy_of_length (owner := (State.benchInject · params)) 5 rfl (fun _ => rfl) fun _ _ => benchInject_staysAsleep _,
    takenBy_of_length (owner := State.benchStall) 0 rfl (fun _ => rfl) fun _ _ => benchStall_staysAsleep,
    nofun⟩

/-- Every write whose byte Table 11-4 lists is taken so. -/
theorem listed_takenBy (strap : Bool) (hb : b.toNat ∈ commandBytes) :
    ∃ ok owner, takenBy b params (ofWrite strap (b :: params)) ok owner := by
  have h := ofWrite_takenBy strap params b.toNat hb
  rwa [byteOf_of_toNat] at h

/-! ### The data always sent (Table 11-4, R55, R157, R173) -/

theorem FaultEntry.ofIndex_eq_some {n : Nat} {e : FaultEntry} (h : FaultEntry.ofIndex n = some e) : e.code = n := by
  have hn : n < 16 := (List.getElem?_eq_some_iff.1 h).1
  obtain ⟨d, rfl⟩ := FaultEntry.exists_code n hn
  have hd : FaultEntry.ofIndex d.code = some d := by cases d <;> rfl
  rw [hd] at h
  rw [Option.some.inj h]

theorem Fn.ofId_eq_some {n : Nat} {f : Fn} (h : Fn.ofId n = some f) : f.code = n := by
  match n, h with
  | 0, h | 1, h | 2, h | 3, h | 4, h | 5, h | 6, h => cases h; rfl

/-- FAULT_ACK's data, where an entry is named and where none is (log 13). -/
theorem ackData_sent (s : State) (params : List Byte) :
    (∀ e : FaultEntry, params.head? = some (byteOf e.code) →
      ackData params s = [if s.faultActive e then 1 else 0, if s.faultLatched e then 1 else 0]) ∧
    ((∀ e : FaultEntry, params.head? ≠ some (byteOf e.code)) → ackData params s = [0, 0]) := by
  cases params with
  | nil => exact ⟨nofun, fun _ => rfl⟩
  | cons b rest =>
    constructor
    · intro e he
      obtain rfl : b = byteOf e.code := Option.some.inj he
      rw [ackData, FaultEntry.ofIndex_code]
      rfl
    · intro hnone
      have hindex : FaultEntry.ofIndex b.toNat = none := by
        refine Option.eq_none_iff_forall_ne_some.2 fun e he => hnone e ?_
        rw [FaultEntry.ofIndex_eq_some he, byteOf_of_toNat]
        rfl
      rw [ackData, hindex]
      rfl

/-- A grant command's data, where a function is named and where none is (R55, R173, log 13). -/
theorem refusedGrant_sent (s : State) (params : List Byte) :
    (∀ f : Fn, params.head? = some (byteOf f.code) →
      refusedGrant params s = [byteOf (s.holderOf f).code, byteOf (s.grt.fns.get f).seq]) ∧
    ((∀ f : Fn, params.head? ≠ some (byteOf f.code)) → refusedGrant params s = [0xFF, 0xFF]) := by
  cases params with
  | nil => exact ⟨nofun, fun _ => rfl⟩
  | cons b rest =>
    constructor
    · intro f hf
      obtain rfl : b = byteOf f.code := Option.some.inj hf
      have hid : Fn.ofId (byteOf f.code).toNat = some f := Fn.ofId_code f rest
      rw [refusedGrant, hid]
      rfl
    · intro hnone
      have hid : Fn.ofId b.toNat = none := by
        refine Option.eq_none_iff_forall_ne_some.2 fun f hf => hnone f ?_
        rw [Fn.ofId_eq_some hf, byteOf_of_toNat]
        rfl
      rw [refusedGrant, hid]
      rfl

/-- What is sent with every status is what the table asks, the wake of the write made or not. -/
theorem sentAlways_alwaysSent (s : State) (b : Byte) (params : List Byte) :
    alwaysSent s b params (sentAlways b params s.wakeSource) := by
  unfold alwaysSent sentAlways
  split
  next => rfl
  split
  next =>
    have h := ackData_sent s.wakeSource params
    rwa [State.wakeSource_faultActive] at h
  split
  next => exact refusedGrant_sent s.wakeSource params
  split
  next => rfl
  next => rfl

/-! ### O16 and O17 -/

/-- A write whose byte Table 11-4 does not list is an ACP_UNKNOWN_WRITE (R147). -/
theorem ofWrite_unlisted (strap : Bool) (params : List Byte) (hb : b.toNat ∉ commandBytes) :
    ofWrite strap (b :: params) = .acpUnknownWrite (b :: params) :=
  Laws.Encoded.acpUnknownWrite (b :: params) (by simpa [Instr.wellFormed, unknownWriteOk] using hb) _ rfl strap nofun

/-- Settles O16: the three refusals are those of `takeCommand`, through which every listed byte goes. -/
theorem portRefusesInOrder : Obligations.PortRefusesInOrder := by
  intro s strap
  refine ⟨fun b params _ => ⟨_, rfl, answersWith_wake⟩, fun b params hb hlen => ?length,
    fun b params hb hlen hstatus hstore => ?busy,
    ⟨_, rfl, changesOnly_settle (fun b _ _ _ => by cases b <;> rfl) rfl rfl⟩⟩
  all_goals
    obtain ⟨ok, owner, htaken⟩ := listed_takenBy (params := params) strap hb
    rw [htaken.meaning s]
  case length =>
    obtain rfl : ok = false := Bool.eq_false_iff.2 fun hok => hlen (htaken.length.1 hok)
    rw [s.takeCommand_length]
    exact ⟨_, rfl, answersWith_wake, sentAlways_alwaysSent s b params⟩
  case busy =>
    obtain rfl : ok = true := htaken.length.2 hlen
    rw [beq_false_of_ne hstatus, s.takeCommand_busy _ _ hstore]
    exact ⟨_, rfl, answersWith_wake, sentAlways_alwaysSent s b params⟩

/-- Settles O17: a refusal and an unlisted byte leave the wake just begun, and so does every rule but HALT's and RESET's. -/
theorem writeWakesSleep : Obligations.WriteWakesSleep := by
  intro s strap b params hrun hhalt hreset
  have hmeans : ∃ u, exec (ofWrite strap (b :: params)) s = completed u ∧ u.sleeping = s.wakeSource.sleeping := by
    by_cases hb : b.toNat ∈ commandBytes
    · obtain ⟨ok, owner, htaken⟩ := listed_takenBy (params := params) strap hb
      refine ⟨_, htaken.meaning s, ?_⟩
      obtain ⟨st, d, e⟩ | ⟨hok, e⟩ :=
          s.takeCommand_cases ok (b == 0x01) (sentAlways b params) owner <;> rw [e]
      · rfl
      · exact htaken.asleep hok (not_or.2 ⟨hhalt, hreset⟩) s.wakeSource hrun
    · rw [ofWrite_unlisted strap params hb]
      exact ⟨_, rfl, rfl⟩
  obtain ⟨u, hexec, hsleep⟩ := hmeans
  have hsettled : u.settle.sleeping = u.sleeping := rfl
  rw [← hsettled, State.wakeSource_sleeping hrun] at hsleep
  obtain ⟨ht, horigin, hwake⟩ : u.settle.rsc.run = .sleep ∧ u.settle.rsc.sleepOrigin = s.rsc.sleepOrigin ∧
      u.settle.rsc.wakeEnd = some (s.rsc.wakeEnd.getD (s.now + 5 * msec)) := by
    simpa [State.sleeping] using hsleep
  exact ⟨u.settle, hexec, ht, horigin, hwake⟩

end Sys2Proof.Machine
end

section
/-! PROOFS. The layout of the read blocks: bytes at an offset, records of equal size, bit masks and header bytes (R173,
Table 11-5). -/

namespace Sys2Proof.Machine

/-! ### Bytes at an offset -/

section
variable {α : Type} {d pre rest bs : List Byte} {x y : Byte} {k j : Nat}

@[simp] theorem bytesAt_nil : bytesAt d k [] := rfl

@[simp] theorem bytesAt_self : bytesAt bs 0 bs := List.take_length

@[simp] theorem bytesAt_append_self : bytesAt (bs ++ rest) 0 bs := List.take_left

@[simp] theorem bytesAt_cons_zero : bytesAt (x :: d) 0 (y :: bs) ↔ x = y ∧ bytesAt d 0 bs := by simp [bytesAt]

@[simp] theorem bytesAt_cons_succ : bytesAt (x :: d) (k + 1) bs ↔ bytesAt d k bs := .rfl

/-- Past the front of a block. -/
@[simp] theorem bytesAt_append_right (h : pre.length ≤ k) : bytesAt (pre ++ d) k bs ↔ bytesAt d (k - pre.length) bs := by
  rw [bytesAt, List.drop_append, List.drop_eq_nil_of_le h, List.nil_append, bytesAt]

theorem bytesAt_right (hk : pre.length + j = k) (h : bytesAt d j bs) : bytesAt (pre ++ d) k bs := by
  subst hk
  rw [bytesAt_append_right (by omega), Nat.add_sub_cancel_left]
  exact h

/-- What stands at an offset stands there whatever follows. -/
theorem bytesAt_left (h : bytesAt d k bs) : bytesAt (d ++ rest) k bs := by
  have hlen : (d.drop k).length ≥ bs.length := by
    have := congrArg List.length h
    simp only [List.length_take, List.length_drop] at this ⊢
    omega
  by_cases hk : k ≤ d.length
  · rw [bytesAt, List.drop_append_of_le_length hk, List.take_append_of_le_length hlen]
    exact h
  · obtain rfl : bs = [] := List.eq_nil_of_length_eq_zero (by simp only [List.length_drop] at hlen; omega)
    exact bytesAt_nil

/-- Records of `m` bytes one after the other: what stands at offset `j` of record `i` stands at `m * i + j`. -/
theorem bytesAt_record {g : α → List Byte} {m : Nat} (hm : ∀ a, (g a).length = m) {l : List α} {i : Nat} {a : α}
    (hi : l[i]? = some a) (hk : m * i + j = k) (h : bytesAt (g a) j bs) : bytesAt (l.flatMap g) k bs := by
  subst hk
  induction l generalizing i with
  | nil => simp at hi
  | cons c l ih =>
    rw [List.flatMap_cons]
    cases i with
    | zero =>
      obtain rfl : c = a := by simpa using hi
      rw [Nat.mul_zero, Nat.zero_add]
      exact bytesAt_left h
    | succ i => exact bytesAt_right (j := m * i + j) (by rw [hm]; ring) (ih (by simpa using hi))

/-- The byte at an offset. -/
theorem getD_of_bytesAt (h : bytesAt d k (x :: bs)) : d.getD k 0 = x := by
  have hx : (d.drop k)[0]? = some x := by
    rw [← List.getElem?_take_of_lt (Nat.succ_pos bs.length)]
    exact congrArg (·[0]?) h
  rw [List.getD_eq_getElem?_getD, ← Nat.add_zero k, ← List.getElem?_drop, hx]
  rfl

end

/-! ### Sizes (R173) -/

@[simp] theorem word16_length (n : Nat) : (word16 n).length = 2 := by simp [word16]
@[simp] theorem word32_length (n : Nat) : (word32 n).length = 4 := by simp [word32]
@[simp] theorem signed16_length (x : Int) : (signed16 x).length = 2 := by simp [signed16]
@[simp] theorem unsigned16_length (n : Nat) : (unsigned16 n).length = 2 := by simp [unsigned16]
@[simp] theorem signed16Opt_length (x : Option Int) : (signed16Opt x).length = 2 := by
  cases x <;> simp [signed16Opt]
@[simp] theorem unsigned16Opt_length (x : Option Nat) : (unsigned16Opt x).length = 2 := by
  cases x <;> simp [unsigned16Opt]
@[simp] theorem wide32Opt_length (x : Option Nat) : (wide32Opt x).length = 4 := by
  cases x <;> simp [wide32Opt]

@[simp] theorem idList_length (places : Nat) (ids : List Nat) : (idList places ids).length = places := by
  simp [idList]

@[simp] theorem slotBytes_length (o : Option Order) : (slotBytes o).length = 8 := by cases o <;> rfl

/-! ### Masks and headers -/

theorem bit_eq_testBit (n i : Nat) : bit n i = n.testBit i := by
  rw [bit, Nat.testBit_eq_decide_div_mod_eq]
  rfl

/-- A mask's low bits are those of its low part. -/
theorem bit_low {m k i : Nat} (hm : m < 2 ^ k) (hi : i < k) (q : Nat) : bit (m + 2 ^ k * q) i = bit m i := by
  rw [bit_eq_testBit, bit_eq_testBit, Nat.add_comm, Nat.testBit_two_pow_mul_add q hm, if_pos hi]

theorem bit_mod {k i : Nat} (hi : i < k) (n : Nat) : bit (n % 2 ^ k) i = bit n i := by
  rw [bit_eq_testBit, bit_eq_testBit, Nat.testBit_mod_two_pow, decide_eq_true hi, Bool.true_and]

theorem maskBits_from (l : List Bool) (n : Nat) :
    ((l.zipIdx n).map fun p => if p.1 then 2 ^ p.2 else 0).sum = 2 ^ n * maskBits l := by
  induction l generalizing n with
  | nil => simp [maskBits]
  | cons b l ih =>
    rw [maskBits, List.zipIdx_cons, List.zipIdx_cons, List.map_cons, List.map_cons, List.sum_cons, List.sum_cons, ih,
      ih (0 + 1)]
    cases b <;> simp <;> ring

theorem maskBits_cons (b : Bool) (l : List Bool) : maskBits (b :: l) = (if b then 1 else 0) + 2 * maskBits l := by
  rw [maskBits, List.zipIdx_cons, List.map_cons, List.sum_cons, maskBits_from]
  rfl

/-- Bit `i` of a mask is flag `i`. -/
theorem bit_maskBits (l : List Bool) (i : Nat) : bit (maskBits l) i = l.getD i false := by
  induction l generalizing i with
  | nil => simp [maskBits, bit]
  | cons b l ih =>
    rw [maskBits_cons]
    cases i with
    | zero => cases b <;> simp [bit, Nat.add_mod]
    | succ i =>
      have hhalf : ((if b = true then 1 else 0) + 2 * maskBits l) / 2 = maskBits l := by split <;> omega
      rw [List.getD_cons_succ, ← ih, bit, bit, Nat.pow_succ', ← Nat.div_div_eq_div_mul, hhalf]

theorem maskBits_lt (l : List Bool) : maskBits l < 2 ^ l.length := by
  induction l with
  | nil => simp [maskBits]
  | cons b l ih =>
    rw [maskBits_cons, List.length_cons, Nat.pow_succ']
    split <;> omega

/-- A mask of at most eight flags fits its byte. -/
theorem bit_maskByte {l : List Bool} {i : Nat} (hi : i < 8) : bit (byteOf (maskBits l)).toNat i = l.getD i false := by
  rw [byteOf, BitVec.toNat_ofNat, bit_mod hi, bit_maskBits]

theorem flagsAt_of_bits {d : List Byte} {k : Nat} {flags : List Bool}
    (h : ∀ i < flags.length, bit (d.getD k 0).toNat i = flags.getD i false) : flagsAt d k flags := by
  refine List.ext_getElem (by simp) fun i _ hi => ?_
  rw [List.getElem_map, List.getElem_range, h i hi, List.getD_eq_getElem _ _ hi]

/-- The number in a header byte. -/
theorem headerByte_toNat {flags : List Bool} (hlen : flags.length ≤ 7) (bench : Bool) :
    (headerByte flags bench).toNat = maskBits flags + 2 ^ 7 * (if bench then 1 else 0) := by
  have hmask : maskBits flags < 2 ^ 7 := (maskBits_lt flags).trans_le (Nat.pow_le_pow_right (by omega) hlen)
  have hheader : headerByte flags bench = byteOf (maskBits flags + if bench then 128 else 0) := rfl
  rw [hheader, byteOf_toNat] <;> split <;> omega

/-- A header byte holds its flags from bit 0 up. -/
theorem flagsAt_header {d : List Byte} {flags : List Bool} (hlen : flags.length ≤ 7) (bench : Bool) :
    flagsAt (headerByte flags bench :: d) 0 flags := by
  refine flagsAt_of_bits fun i hi => ?_
  have hmask : maskBits flags < 2 ^ 7 := (maskBits_lt flags).trans_le (Nat.pow_le_pow_right (by omega) hlen)
  rw [List.getD_cons_zero, headerByte_toNat hlen, bit_low hmask (by omega), bit_maskBits]

/-- Bit 7 of a header byte is the bench mark. -/
theorem benchMark_header {d : List Byte} {flags : List Bool} (hlen : flags.length ≤ 7) {bench : Bool} {marked : Prop}
    (h : bench = true ↔ marked) : benchMark (headerByte flags bench :: d) marked := by
  have hmask : maskBits flags < 2 ^ 7 := (maskBits_lt flags).trans_le (Nat.pow_le_pow_right (by omega) hlen)
  rw [benchMark, ← h, List.getD_cons_zero, headerByte_toNat hlen, bit]
  cases bench <;> simp <;> omega

/-! ### The entries of the small records, in the order of their codes -/

section
variable {α : Type}

theorem PerDwell.toList_code (r : PerDwell α) (k : Dwell) : r.toList[k.code]? = some (r.get k) := by cases k <;> rfl
theorem PerServo.toList_code (r : PerServo α) (v : Servo) : r.toList[v.code]? = some (r.get v) := by cases v <;> rfl
theorem PerLamp.toList_code (r : PerLamp α) (k : Lamp) : r.toList[k.code]? = some (r.get k) := by cases k <;> rfl
theorem PerSlot.toList_val (r : PerSlot α) (i : Fin 4) : r.toList[i.val]? = some (r.get i) := by fin_cases i <;> rfl
theorem PerFn.toList_code (r : PerFn α) (f : Fn) : r.toList[f.code]? = some (r.get f) := by cases f <;> rfl
theorem PerQuantity.toList_code (r : PerQuantity α) (q : Quantity) : r.toList[q.code]? = some (r.get q) := by
  cases q <;> rfl
theorem Consumer.all_code (k : Consumer) : Consumer.all[k.code]? = some k := by cases k <;> rfl
theorem Fn.all_code (f : Fn) : Fn.all[f.code]? = some f := by cases f <;> rfl

end

end Sys2Proof.Machine
end

section
/-! PROOFS. O18: READ's blocks PACK, BUDGET and GRANTS report the state byte for byte (R42, R66, R150, Table 11-5). -/

namespace Sys2Proof.Machine

section
variable (s : State)

/-! ### Times and quantities that may be absent (R173) -/

@[simp] theorem unsignedInt16Opt_eq (x : Option Int) : unsignedInt16Opt x = unsigned16Opt (x.map Int.toNat) := by
  rw [unsignedInt16Opt]

@[simp] theorem wideInt32Opt_eq (x : Option Int) : wideInt32Opt x = wide32Opt (x.map Int.toNat) := by rw [wideInt32Opt]

@[simp] theorem State.elapsed16_eq (start : Option Nat) :
    s.elapsed16 start = unsigned16Opt (start.map fun t => (s.now - t) / 1000) := by rw [State.elapsed16]; rfl

@[simp] theorem State.left16_eq (deadline : Option Nat) :
    s.left16 deadline = unsigned16Opt (deadline.map fun t => (t - s.now) / 1000) := by rw [State.left16]; rfl

/-! ### PACK (R150) -/

theorem beNat_word16 (n : Nat) : beNat (word16 n) = n % 2 ^ 16 := by
  have hspelled : beNat (word16 n) = (0 * 256 + (byteOf (n / 256)).toNat) * 256 + (byteOf n).toNat := rfl
  rw [hspelled, byteOf, byteOf, BitVec.toNat_ofNat, BitVec.toNat_ofNat]
  omega

theorem State.packBlock_length : s.packBlock.length = 57 := by simp [State.packBlock, PerDwell.toList]

theorem State.packBlock_reported : packReported s s.packBlock := by
  refine ⟨flagsAt_header (by simp) false, benchMark_header (by simp) (by simp), fun q => ?mask, fun q hq => ?voltages,
    ?_, ?_, ?_, ?_, ?_, fun i => ?cells, ?_, ?_, ?_, fun k => ?dwells, ?_, ?_, ?_⟩
  case mask =>
    have hq : q.code < 16 := by cases q <;> decide
    have hmask : bytesAt s.packBlock 1 (word16 (maskBits (s.pmon.chan.toList.map Channel.substituted))) := by
      simp [State.packBlock]
    have htaken : (s.packBlock.drop 1).take 2 = word16 (maskBits (s.pmon.chan.toList.map Channel.substituted)) := hmask
    rw [htaken, beNat_word16, bit_mod hq, bit_maskBits, List.getD_eq_getElem?_getD, List.getElem?_map,
      PerQuantity.toList_code]
    rfl
  case voltages => cases q <;> first | exact absurd hq (by decide) | simp [State.packBlock, Quantity.code]
  case cells => fin_cases i <;> simp [State.packBlock]
  case dwells => cases k <;> simp [State.packBlock, PerDwell.toList, PerDwell.get, Dwell.code]
  all_goals simp [State.packBlock, PerDwell.toList]

/-! ### BUDGET (R42) -/

/-- The seven bytes of a consumer in the BUDGET block. -/
def State.consumerBytes (r : BudgetResult) (k : Consumer) : List Byte :=
  [byteOf (s.bgt.rank.get k)] ++ unsigned16 (r.demand.get k) ++ unsigned16 (r.grant.get k) ++
    unsigned16 (s.bgt.starved.get k)

theorem State.budgetBlock_length : s.budgetBlock.length = 41 := by simp [State.budgetBlock, Consumer.all]

/-- The consumers' bytes stand one after the other from offset 11 on. -/
theorem State.budgetBlock_consumer (k : Consumer) {j n : Nat} {bs : List Byte} (hn : 11 + 7 * k.code + j = n)
    (h : bytesAt (s.consumerBytes s.reportedBudget k) j bs) : bytesAt s.budgetBlock n bs :=
  bytesAt_left (bytesAt_right (j := 7 * k.code + j) (by simp; omega)
    (bytesAt_record (g := s.consumerBytes s.reportedBudget) (fun _ => rfl) (Consumer.all_code k) rfl h))

/-- The results reported are the trial ones in BENCH-DRY, once there are any (R44, log 15). -/
theorem State.reportedBudget_eq :
    s.reportedBudget = (if s.rsc.run = .benchDry then s.bgt.trial else none).getD s.bgt.pub := by
  by_cases h : s.rsc.run = .benchDry <;> simp [State.reportedBudget, State.onDry, h]

theorem State.budgetBlock_reported : budgetReported s s.budgetBlock := by
  dsimp only [budgetReported]
  rw [← s.reportedBudget_eq]
  refine ⟨flagsAt_header (by simp) _, benchMark_header (by simp) ?mark, ?_, ?_, ?_, ?_, ?_, fun k => ?consumers, ?last⟩
  case mark => by_cases h : s.rsc.run = .benchDry <;> simp [State.onDry, h, Option.isSome_iff_ne_none]
  case consumers =>
    refine ⟨s.budgetBlock_consumer k (j := 0) rfl ?_, s.budgetBlock_consumer k (j := 1) (by omega) ?_,
      s.budgetBlock_consumer k (j := 3) (by omega) ?_, s.budgetBlock_consumer k (j := 5) (by omega) ?_⟩
    all_goals simp [State.consumerBytes]
  case last => simp [State.budgetBlock, Consumer.all]
  all_goals simp [State.budgetBlock]

/-! ### GRANTS (R66) -/

/-- The seven bytes of a function in the GRANTS block. -/
def State.functionBytes (f : Fn) : List Byte :=
  [grantStateByte (s.grt.fns.get f) (s.grt.lastDecoded.get f)] ++ signed16 (s.grt.fns.get f).value ++
    unsigned16 ((s.grt.fns.get f).lease.elim 0 fun due => (due - s.now) / 1000) ++ signed16Opt (s.grt.lastDecoded.get f)

theorem State.functionBytes_length (f : Fn) : (s.functionBytes f).length = 7 := by simp [State.functionBytes]

theorem State.grantsBlock_length : s.grantsBlock.length = 53 := by simp [State.grantsBlock, Fn.all]

/-- The functions' bytes stand one after the other from offset 3 on. -/
theorem State.grantsBlock_function (f : Fn) {j n : Nat} {bs : List Byte} (hn : 3 + 7 * f.code + j = n)
    (h : bytesAt (s.functionBytes f) j bs) : bytesAt s.grantsBlock n bs :=
  bytesAt_left (bytesAt_right (j := 7 * f.code + j) (by simp; omega)
    (bytesAt_record (g := s.functionBytes) s.functionBytes_length (Fn.all_code f) rfl h))

/-- The state byte of a function (R66). -/
theorem grantStateByte_toNat {r : FnRecord} (hseq : r.seq < 16) (last : Option Int) :
    (grantStateByte r last).toNat =
      r.holder.code + 4 * r.seq + (if r.reacquire then 64 else 0) + if last = none then 128 else 0 := by
  have hholder : r.holder.code < 4 := by cases r.holder <;> decide
  have hlast : (if last.isNone = true then 128 else 0) = if last = none then 128 else 0 := by cases last <;> rfl
  unfold grantStateByte
  rw [hlast]
  refine byteOf_toNat ?_
  split <;> split <;> omega

theorem State.grantsBlock_reported : grantsReported s s.grantsBlock := by
  refine ⟨?_, ?_, fun f => ⟨fun hseq => ?state, s.grantsBlock_function f (j := 1) (by omega) ?_,
    s.grantsBlock_function f (j := 3) (by omega) ?_, s.grantsBlock_function f (j := 5) (by omega) ?_⟩, fun f => ?lost⟩
  case state =>
    have hbyte : bytesAt s.grantsBlock (3 + 7 * f.code) [grantStateByte (s.grt.fns.get f) (s.grt.lastDecoded.get f)] :=
      s.grantsBlock_function f (j := 0) rfl bytesAt_append_self
    rw [getD_of_bytesAt hbyte, grantStateByte_toNat hseq]
  case lost =>
    have hf : f.code < 8 := by cases f <;> decide
    have hbyte : bytesAt s.grantsBlock 52 [byteOf (maskBits s.grt.lost.toList)] := by
      simp [State.grantsBlock, Fn.all]
    rw [getD_of_bytesAt hbyte, bit_maskByte hf, List.getD_eq_getElem?_getD, PerFn.toList_code]
    rfl
  all_goals simp [State.grantsBlock, State.functionBytes]

end

end Sys2Proof.Machine
end

section
/-! PROOFS. O18: READ's blocks DRIVE, STEER, WINCH and LIGHTS report the state byte for byte (R80, R92, R117, R134), and what a
read transaction sends (R148, R150). -/

namespace Sys2Proof.Machine

section
variable (s : State)

/-! ### DRIVE (R80) -/

theorem State.driveBlock_length : s.driveBlock.length = 16 := by simp [State.driveBlock]

/-- DRV_PWM is released for driving while the drive may drive its output (R73). -/
theorem State.drivePwmReleased_eq : s.drivePwmReleased =
    decide (s.rsc.run = .running ∧ (s.prot.st = .normal ∨ s.prot.st = .warn) ∧ s.prot.sw = .closed ∧
      s.cfg.driveEn = true) := by
  rw [Bool.eq_iff_iff, decide_eq_true_iff]
  exact s.drivePwmReleased_iff

theorem State.driveBlock_reported : driveReported s s.driveBlock := by
  unfold driveReported
  rw [← s.drivePwmReleased_eq]
  refine ⟨flagsAt_header (by simp) _, benchMark_header (by simp) (RunState.bench_iff _), ?_⟩
  simp [State.driveBlock]

/-! ### STEER (R92) -/

/-- The five bytes of a servo in the STEER block. -/
def servoBytes (r : ServoRecord) : List Byte :=
  unsignedInt16Opt r.aim ++ unsignedInt16Opt r.emitted ++ [flagByte r.boundHit]

theorem servoBytes_length (r : ServoRecord) : (servoBytes r).length = 5 := by simp [servoBytes]

theorem State.steerBlock_length : s.steerBlock.length = 35 := by simp [State.steerBlock, PerServo.toList]

/-- The servos' bytes stand one after the other from offset 10 on. -/
theorem State.steerBlock_servo (v : Servo) {j n : Nat} {bs : List Byte} (hn : 10 + 5 * v.code + j = n)
    (h : bytesAt (servoBytes (s.str.servo.get v)) j bs) : bytesAt s.steerBlock n bs :=
  bytesAt_right (j := 5 * v.code + j) (by simp; omega)
    (bytesAt_record (g := servoBytes) servoBytes_length (s.str.servo.toList_code v) rfl h)

theorem State.steerBlock_reported : steerReported s s.steerBlock := by
  refine ⟨flagsAt_header (by simp) _, benchMark_header (by simp) beq_iff_eq, ?_, ?_, ?_, ?_, ?_,
    fun v => ⟨s.steerBlock_servo v (j := 0) rfl ?_, s.steerBlock_servo v (j := 2) (by omega) ?_,
      s.steerBlock_servo v (j := 4) (by omega) ?_⟩⟩
  all_goals simp [State.steerBlock, servoBytes, flagByte]

/-! ### WINCH (R117) -/

theorem State.activeOrderBytes_length : s.activeOrderBytes.length = 7 := by
  unfold State.activeOrderBytes
  split <;> simp

theorem State.winchBlock_length : s.winchBlock.length = 55 := by
  simp [State.winchBlock, PerSlot.toList, s.activeOrderBytes_length]

/-- The slots' records stand one after the other from offset 14 on. -/
theorem State.winchBlock_slot (i : Fin 4) : bytesAt s.winchBlock (14 + 8 * i) (slotBytes (s.wch.slots.get i)) :=
  bytesAt_left (bytesAt_left (bytesAt_right (j := 8 * i) (by simp)
    (bytesAt_record (g := slotBytes) slotBytes_length (s.wch.slots.toList_val i) rfl bytesAt_self)))

/-- What is reported of the ACTIVE order stands from offset 46 on. -/
theorem State.winchBlock_active {j n : Nat} {bs : List Byte} (hn : 46 + j = n) (h : bytesAt s.activeOrderBytes j bs) :
    bytesAt s.winchBlock n bs :=
  bytesAt_left (bytesAt_right (j := j) (by simpa [PerSlot.toList] using hn) h)

/-- The bytes of an ACTIVE order (R117). -/
theorem State.activeOrderBytes_some {i : Fin 4} {o : Order} {r : OrderRun} (h : s.wch.active = some (i, o, r)) :
    s.activeOrderBytes =
      [byteOf i.val] ++ (unsigned16 ((s.now - r.startTime) / 1000) ++ (unsigned16 r.pulseCount ++
        unsigned16Opt (r.pauseStart.map fun start => (start + s.cfg.retryPause * msec - s.now) / 1000))) := by
  unfold State.activeOrderBytes
  rw [h]
  simp [unsigned16Opt, State.pauseEnd, Option.map_map, Function.comp_def]

theorem State.winchBlock_reported : winchReported s s.winchBlock := by
  have hap : decide (s.holderOf .winch = .ap) = (s.holderOf .winch == .ap) := by
    rw [Bool.eq_iff_iff]
    simp
  unfold winchReported
  rw [hap]
  refine ⟨flagsAt_header (by simp) _, benchMark_header (by simp) (RunState.bench_iff _), ?_, ?_, ?_, ?_, ?_, ?_,
    fun i => ⟨fun hempty => ?empty, fun o ho => ?order⟩, fun hnone => ?idle, fun i o r hactive => ?active, ?demand⟩
  case empty =>
    have hslot := s.winchBlock_slot i
    rw [hempty] at hslot
    rw [getD_of_bytesAt hslot]
    rfl
  case order =>
    have hslot := s.winchBlock_slot i
    rwa [ho] at hslot
  case idle =>
    refine s.winchBlock_active (j := 0) rfl ?_
    rw [State.activeOrderBytes, hnone]
    rfl
  case active =>
    refine ⟨s.winchBlock_active (j := 0) rfl ?_, s.winchBlock_active (j := 1) rfl ?_, s.winchBlock_active (j := 3) rfl ?_,
      s.winchBlock_active (j := 5) rfl ?_⟩
    all_goals rw [s.activeOrderBytes_some hactive]; simp
  case demand => simp [State.winchBlock, PerSlot.toList, s.activeOrderBytes_length]
  all_goals simp [State.winchBlock, Settings.lineLimit]

/-! ### LIGHTS (R134) -/

/-- The six bytes of an output in the LIGHTS block. -/
def lampBytes (r : LampRecord) : List Byte := unsigned16 r.base ++ unsigned16 r.duty ++ unsigned16 r.draw

theorem State.lightsBlock_length : s.lightsBlock.length = 64 := by simp [State.lightsBlock, PerLamp.toList]

/-- The outputs' bytes stand one after the other from offset 16 on. -/
theorem State.lightsBlock_lamp (k : Lamp) {j n : Nat} {bs : List Byte} (hn : 16 + 6 * k.code + j = n)
    (h : bytesAt (lampBytes (s.lgt.lamp.get k)) j bs) : bytesAt s.lightsBlock n bs :=
  bytesAt_right (j := 6 * k.code + j) (by simp; omega)
    (bytesAt_record (g := lampBytes) (fun _ => rfl) (s.lgt.lamp.toList_code k) rfl h)

/-- The number in the LIGHTS header: four flags, three bits of the excess, the bench mark (R134). -/
theorem State.lightsHeader_toNat : (s.lightsBlock.getD 0 0).toNat =
    maskBits [s.lgt.off, s.lgt.reduced, s.lgt.forced, s.lgt.trimmed] +
      2 ^ 4 * (s.lgt.excess % 8 + 8 * if s.onDry then 1 else 0) := by
  have hmask := maskBits_lt [s.lgt.off, s.lgt.reduced, s.lgt.forced, s.lgt.trimmed]
  have hheader : s.lightsBlock.getD 0 0 = byteOf
      ((headerByte [s.lgt.off, s.lgt.reduced, s.lgt.forced, s.lgt.trimmed] s.onDry).toNat + 16 * (s.lgt.excess % 8)) := rfl
  simp only [List.length_cons, List.length_nil] at hmask
  rw [hheader, headerByte_toNat (by simp), byteOf_toNat] <;> split <;> omega

theorem State.lightsBlock_reported : lightsReported s s.lightsBlock := by
  have hmask := maskBits_lt [s.lgt.off, s.lgt.reduced, s.lgt.forced, s.lgt.trimmed]
  simp only [List.length_cons, List.length_nil] at hmask
  refine ⟨flagsAt_of_bits fun i hi => ?flags, ?bench, fun hexcess => ?excess, ?_, ?_, ?_, ?_, ?_, ?_, ?_,
    fun hsix => flagsAt_of_bits fun i hi => ?follow, fun k => ?lit,
    fun k => ⟨s.lightsBlock_lamp k (j := 0) rfl ?_, s.lightsBlock_lamp k (j := 2) (by omega) ?_,
      s.lightsBlock_lamp k (j := 4) (by omega) ?_⟩⟩
  case flags => rw [s.lightsHeader_toNat, bit_low hmask hi, bit_maskBits]
  case bench =>
    rw [benchMark, s.lightsHeader_toNat, bit]
    by_cases h : s.rsc.run = .benchDry <;> simp [State.onDry, h] <;> omega
  case excess =>
    rw [s.lightsHeader_toNat]
    split <;> omega
  case follow =>
    have hbyte : bytesAt s.lightsBlock 14 [byteOf (maskBits s.lgt.follow)] := by simp [State.lightsBlock]
    rw [getD_of_bytesAt hbyte, bit_maskByte (by omega)]
  case lit =>
    have hk : k.code < 8 := by cases k <;> decide
    have hbyte : bytesAt s.lightsBlock 15 [byteOf (maskBits (s.lgt.lamp.toList.map LampRecord.lit))] := by
      simp [State.lightsBlock]
    rw [getD_of_bytesAt hbyte, bit_maskByte hk, List.getD_eq_getElem?_getD, List.getElem?_map, PerLamp.toList_code]
    rfl
  all_goals simp [State.lightsBlock, lampBytes]

/-! ### READ (R148, R150) -/

theorem State.block_reported (block : ReadBlock) : blockReported s (s.block block) block := by
  cases block with
  | pack => exact ⟨s.packBlock_length, s.packBlock_reported⟩
  | budget => exact ⟨s.budgetBlock_length, s.budgetBlock_reported⟩
  | grants => exact ⟨s.grantsBlock_length, s.grantsBlock_reported⟩
  | drive => exact ⟨s.driveBlock_length, s.driveBlock_reported⟩
  | steer => exact ⟨s.steerBlock_length, s.steerBlock_reported⟩
  | winch => exact ⟨s.winchBlock_length, s.winchBlock_reported⟩
  | lights => exact ⟨s.lightsBlock_length, s.lightsBlock_reported⟩

/-- No block reports the wake timer. -/
theorem State.block_wakeSource (block : ReadBlock) : s.wakeSource.block block = s.block block := by
  cases block <;> rfl

/-- A read transaction sends the buffer, then 0x00 (R148). -/
theorem State.readTransaction_getElem? {n i : Nat} (hi : i < n) :
    (s.readTransaction n)[i]? = some ((byteOf s.acp.status.code :: s.acp.data).getD i 0) := by
  rw [State.readTransaction, List.getElem?_take_of_lt hi, List.getD_eq_getElem?_getD]
  by_cases h : i < (byteOf s.acp.status.code :: s.acp.data).length
  · rw [List.getElem?_append_left h, List.getElem?_eq_getElem h]
    rfl
  · rw [List.getElem?_append_right (by omega), List.getElem?_replicate, if_pos (by omega),
      List.getElem?_eq_none (Nat.not_lt.1 h)]
    rfl

theorem State.readTransaction_length (n : Nat) : (s.readTransaction n).length = n := by
  simp [State.readTransaction]
  omega

end

theorem exec_read {s : State} (hopen : s.portOpen) (b : Byte) :
    exec (.read [b]) s = .next (s.wakeSource.readRule [b]).settle :=
  congrArg completed (s.takeCommand_taken false noData (State.readRule · [b]) (.inl hopen))

/-- Settles O18: READ answers with the block of its number, and every block reports the state. -/
theorem readReturnsBlocks : Obligations.ReadReturnsBlocks := by
  intro s b hopen
  refine ⟨fun block hblock => ⟨_, exec_read hopen b, ?read⟩, fun hb => ⟨_, exec_read hopen b, ?refused⟩,
    fun n => ⟨s.readTransaction_length n, fun hn => ?first, fun i hi => s.readTransaction_getElem? hi⟩⟩
  case read =>
    have hrule : s.wakeSource.readRule [b] = s.wakeSource.respond .ok (s.block block) := by
      have hnumber : ReadBlock.ofNumber b.toNat = some block := hblock
      rw [← s.block_wakeSource]
      simp only [State.readRule, param, List.getD_cons_zero, hnumber]
    rw [hrule]
    exact ⟨answersWith_wake, s.block_reported block⟩
  case refused =>
    have hrule : s.wakeSource.readRule [b] = s.wakeSource.respond .badValue [] := by
      have hnumber : ReadBlock.ofNumber b.toNat = none := List.getElem?_eq_none hb
      simp only [State.readRule, param, List.getD_cons_zero, hnumber]
    rw [hrule]
    exact answersWith_wake
  case first =>
    rw [List.head?_eq_getElem?, s.readTransaction_getElem? hn]
    rfl

end Sys2Proof.Machine
end

section
/-! PROOFS. O2 and O12: every command completes, with the queue behind it untouched and the clock not set back (log 1, log 2),
and so ends with every active fault latched (R151). -/

namespace Sys2Proof.Machine

variable {s t u : State}

/-- What no command but an expiry moves: the clock and the commands still waiting. -/
def State.course (s : State) : Nat × List Instr := (s.now, s.pending)

theorem State.course_eq (hn : t.now = s.now) (hp : t.pending = s.pending) : t.course = s.course := by
  rw [State.course, hn, hp, State.course]

section
variable (s)

/-! ### The operations the events share -/

theorem State.commitGrants_course (g : Grt) : (s.commitGrants g).course = s.course :=
  State.course_eq (by simp) (by simp)

theorem State.winchWork_course : s.winchWork.course = s.course := State.course_eq (by simp) (by simp)

theorem State.hardTrip_course : s.hardTrip.course = s.course := State.course_eq (by simp) (by simp)

theorem State.makeStart_course : s.makeStart.course = s.course := State.course_eq (by simp) (by simp)

theorem State.protTransition_course (done : Dwell → Bool) (tap : Bool) :
    (s.protTransition done tap).course = s.course := by
  unfold State.protTransition
  split
  next => exact State.course_eq (by simp) (by simp)
  split
  next => exact State.course_eq (by simp) (by simp)
  (repeat' split) <;> rfl

theorem State.protSample_course (publishes tap : Bool) : (s.protSample publishes tap).course = s.course := by
  unfold State.protSample
  split
  · exact State.protTransition_course _ _ _
  · exact s.protTransition_course _ _

theorem State.closeSwitch_course : s.closeSwitch.course = s.course := by
  have hclosed : ((s.withProt { s.prot with sw := .closed, prechargeEnd := none }).prechargeSucceeded).course =
      s.course := by
    unfold State.prechargeSucceeded
    split <;> rfl
  unfold State.closeSwitch
  dsimp only
  split
  · exact (State.hardTrip_course _).trans hclosed
  · exact hclosed

theorem State.failPrecharge_course : s.failPrecharge.course = s.course :=
  State.course_eq (by simp [State.failPrecharge]) (by simp [State.failPrecharge])

theorem State.enterSleep_course (origin : SleepOrigin) : (s.enterSleep origin).course = s.course :=
  State.course_eq (by simp) (by simp)

theorem State.raise_course (e : FaultEntry) : (s.raise e).course = s.course := rfl

theorem State.endLoad_course (c : Settings) (valid : Bool) : (s.endLoad c valid).course = s.course :=
  State.course_eq (by simp [State.endLoad]) (by simp [State.endLoad])

theorem State.startAfterLoad_course : s.startAfterLoad.course = s.course := by
  unfold State.startAfterLoad
  split
  · rfl
  · exact s.makeStart_course

theorem State.finishLoad_course (powerUp : Bool) : (s.finishLoad powerUp).course = s.course := by
  unfold State.finishLoad
  split
  next c _ =>
    by_cases h : (if powerUp = true then c.autoStart else s.rsc.pendingStart) = true
    · rw [if_pos h, State.startAfterLoad_course, State.endLoad_course]
    · rw [if_neg h, State.endLoad_course]
  next => rw [State.raise_course, State.endLoad_course]

theorem State.endWake_course : s.endWake.course = s.course := by
  unfold State.endWake
  dsimp only
  split
  · exact State.makeStart_course _
  · rfl

theorem State.receiveFrame_course (bytes : List Byte) : (s.receiveFrame bytes).course = s.course := by
  unfold State.receiveFrame State.handOn
  split
  · split
    · rfl
    split
    · exact State.commitGrants_course _ _
    · rfl
  · rfl

theorem State.linkByte_course (b : Byte) : (s.linkByte b).course = s.course := by
  unfold State.linkByte
  split
  · split <;> rfl
  split
  · exact State.receiveFrame_course _ _
  · rfl

theorem State.presentPendant_course (pressed : Bool) : (s.presentPendant pressed).course = s.course := by
  unfold State.presentPendant
  split
  · split <;> rfl
  · exact s.commitGrants_course _

theorem State.drumPulse_course : s.drumPulse.course = s.course := by
  have hcount (w : State) (d : WinchDir) : (w.countForOrder d).course = w.course := by
    unfold State.countForOrder
    dsimp only
    (repeat' split) <;> exact State.course_eq (by simp) (by simp)
  have hlimit (w : State) (d : WinchDir) : (w.limitAtPulse d).course = w.course := by
    unfold State.limitAtPulse
    dsimp only
    (repeat' split) <;> exact State.course_eq (by simp) (by simp)
  unfold State.drumPulse
  split
  · rfl
  · exact (hlimit _ _).trans (hcount _ _)

theorem State.endStore_course (bytes : List Byte) : (s.endStore bytes).course = s.course := by
  unfold State.endStore
  dsimp only
  split <;> rfl

/-! ### The rules of the accessory commands -/

theorem State.sleepRule_course : s.sleepRule.course = s.course := by
  unfold State.sleepRule
  split
  · exact State.course_eq (by simp [State.runctl]) (by simp [State.runctl])
  · rfl
  · rfl

theorem State.benchDryRule_course : s.benchDryRule.course = s.course := by
  unfold State.benchDryRule State.enterDry
  split
  · split
    · exact State.hardTrip_course (s.enterBench .benchDry)
    · rfl
  · rfl

theorem State.benchWetRule_course : s.benchWetRule.course = s.course := by
  have hentered : ((s.enterBench .benchWet).requestPrecharge).course = s.course :=
    State.course_eq (by simp [State.enterBench]) (by simp [State.enterBench])
  unfold State.benchWetRule
  split
  · rfl
  split
  · rfl
  split
  · rfl
  · exact hentered

theorem State.startRule_course : s.startRule.course = s.course := by
  unfold State.startRule
  split
  · rfl
  split
  · rfl
  split
  · rfl
  split
  · rfl
  · exact s.makeStart_course

theorem State.respond_course (st : Status) (d : List Byte) : (s.respond st d).course = s.course := rfl

theorem State.cfgWrite_course (ps : List Byte) : (s.cfgWrite ps).course = s.course := by
  have hedit (c : Settings) : (s.editConfig c).course = s.course :=
    State.course_eq (by simp [State.editConfig]) (by simp [State.editConfig])
  unfold State.cfgWrite
  dsimp only
  split
  · rfl
  split
  · rfl
  split
  · rfl
  · rw [State.respond_course, hedit]

theorem State.benchInject_course (ps : List Byte) : (s.benchInject ps).course = s.course := by
  have hinjected {code : Nat} {v : Int} {t : State} (h : s.injected code v = some t) : t.course = s.course := by
    unfold State.injected at h
    (repeat' split at h) <;> cases h <;> rfl
  unfold State.benchInject
  split
  · rfl
  split
  next h => rw [State.respond_course, hinjected h]
  · rfl

theorem State.grantTo_course (f : Fn) (r : FnRecord) (st : Status) : (s.grantTo f r st).course = s.course :=
  s.commitGrants_course _

theorem State.grantRule_course (ps : List Byte) (rule : Fn → State → State)
    (h : ∀ f (w : State), (rule f w).course = w.course) : (s.grantRule ps rule).course = s.course := by
  unfold State.grantRule
  split
  · rfl
  split
  · rfl
  · exact h _ _

theorem State.claim_course (f : Fn) : (s.claim f).course = s.course := by
  unfold State.claim
  split
  · rfl
  · exact s.grantTo_course _ _ _

theorem State.setValue_course (f : Fn) (v : Int) (q : Nat) : (s.setValue f v q).course = s.course := by
  unfold State.setValue
  dsimp only
  (repeat' split) <;> first | rfl | exact s.grantTo_course _ _ _

theorem State.claimSet_course (f : Fn) (v : Int) : (s.claimSet f v).course = s.course := by
  unfold State.claimSet
  (repeat' split) <;> first | rfl | exact s.grantTo_course _ _ _

theorem State.releaseFn_course (f : Fn) : (s.releaseFn f).course = s.course := by
  unfold State.releaseFn
  split
  · rfl
  · exact s.grantTo_course _ _ _

theorem State.winchCommandRule_course (d : List Byte) (rule : State → State)
    (h : ∀ w : State, (rule w).course = w.course) : (s.winchCommandRule d rule).course = s.course := by
  unfold State.winchCommandRule
  split
  · rfl
  · exact h _

theorem State.winchCancel_course (ps : List Byte) : (s.winchCancel ps).course = s.course := by
  unfold State.winchCancel
  split
  · rfl
  · exact State.course_eq (by simp) (by simp)

end

/-! ### Every command -/

/-- An outcome of `s` is a completed command that leaves the queue and does not set the clock back. -/
def carriesOn (s : State) (o : Host.Outcome State Fault Refusal) : Prop :=
  ∃ u : State, o = completed u ∧ u.pending = s.pending ∧ s.now ≤ u.now

/-- An effect at the present moment. -/
theorem carriesOn_completed (h : u.course = s.course) : carriesOn s (completed u) := by
  obtain ⟨hnow, hpending⟩ := Prod.mk.inj h
  exact ⟨u, rfl, hpending, hnow.ge⟩

/-- An effect at the moment of an expiry. -/
theorem carriesOn_reached {due : Nat} (h : u.course = (s.reach due).course) : carriesOn s (completed u) := by
  obtain ⟨hnow, hpending⟩ := Prod.mk.inj h
  exact ⟨u, rfl, hpending, (le_max_left _ _).trans hnow.ge⟩

theorem carriesOn_taken {ok ex : Bool} {al : State → List Byte} {owner : State → State}
    (h : ∀ w : State, (owner w).course = w.course) : carriesOn s (completed (s.takeCommand ok ex al owner)) := by
  apply carriesOn_completed
  obtain ⟨st, d, e⟩ | ⟨-, e⟩ := s.takeCommand_cases ok ex al owner <;> rw [e]
  · rfl
  · exact h s.wakeSource

/-- The completion of a dwell timer (R7). -/
theorem completeDwell_carriesOn (k : Dwell) : carriesOn s (completed (s.completeDwell k)) := by
  unfold State.completeDwell
  split
  · exact carriesOn_reached (State.protTransition_course _ _ _)
  · exact carriesOn_completed rfl

theorem accessoryCommand_carriesOn (c : Instr) (hc : c.writeBytes.isSome = true) (s : State) : carriesOn s (exec c s) := by
  cases c
  all_goals try exact Bool.noConfusion hc
  case acpUnknownWrite =>
    simp only [exec, execAcpUnknownWrite]
    split <;> exact carriesOn_completed rfl
  case status | readCause | faultNext | attnMask | runctlNoFlag => exact carriesOn_taken fun _ => rfl
  case read => exact carriesOn_taken fun w => by unfold State.readRule; split <;> rfl
  case faultAck => exact carriesOn_taken fun w => by unfold State.faultAck; (repeat' split) <;> rfl
  case lockoutClear => exact carriesOn_taken fun w => by unfold State.lockoutClear; split <;> rfl
  case halt => exact carriesOn_taken fun w => State.course_eq (by simp [State.runctl]) (by simp [State.runctl])
  case sleep => exact carriesOn_taken State.sleepRule_course
  case benchDry => exact carriesOn_taken State.benchDryRule_course
  case benchWet => exact carriesOn_taken State.benchWetRule_course
  case load => exact carriesOn_taken fun w => by unfold State.loadRule; split <;> rfl
  case start => exact carriesOn_taken State.startRule_course
  case reset => exact carriesOn_taken fun w => State.course_eq (by simp) (by simp)
  case cfgRead => exact carriesOn_taken fun w => by unfold State.cfgRead; dsimp only; split <;> rfl
  case cfgWrite => exact carriesOn_taken fun w => w.cfgWrite_course _
  case cfgCheck => exact carriesOn_taken fun w => by unfold State.cfgCheck; split <;> rfl
  case cfgStore => exact carriesOn_taken fun w => by unfold State.cfgStore; (repeat' split) <;> rfl
  case claim => exact carriesOn_taken fun w => w.grantRule_course _ _ fun f v => v.claim_course f
  case set => exact carriesOn_taken fun w => w.grantRule_course _ _ fun f v => v.setValue_course f _ _
  case claimSet => exact carriesOn_taken fun w => w.grantRule_course _ _ fun f v => v.claimSet_course f _
  case release => exact carriesOn_taken fun w => w.grantRule_course _ _ fun f v => v.releaseFn_course f
  case refresh => exact carriesOn_taken fun w => by unfold State.refresh; split <;> rfl
  case winchPost =>
    refine carriesOn_taken fun w => w.winchCommandRule_course _ _ fun v => ?_
    unfold State.winchPost
    (repeat' split) <;> rfl
  case winchCancel => exact carriesOn_taken fun w => w.winchCommandRule_course _ _ fun v => v.winchCancel_course _
  case winchReap =>
    exact carriesOn_taken fun w => w.winchCommandRule_course _ _ fun v => by unfold State.winchReap; split <;> rfl
  case winchResume => exact carriesOn_taken fun w => w.winchCommandRule_course _ _ fun _ => rfl
  case winchZero =>
    exact carriesOn_taken fun w => w.winchCommandRule_course _ _ fun v => by unfold State.winchZero; split <;> rfl
  case sceneWrite => exact carriesOn_taken fun w => by unfold State.sceneWrite; split <;> rfl
  case benchInject => exact carriesOn_taken fun w => w.benchInject_course _
  case benchStall => exact carriesOn_taken fun w => by unfold State.benchStall; split <;> rfl

theorem event_carriesOn (c : Instr) (hc : c.writeBytes.isSome = false) (s : State) : carriesOn s (exec c s) := by
  have hstays : carriesOn s (completed s) := carriesOn_completed rfl
  cases c
  all_goals try exact Bool.noConfusion hc
  case powerOnReset | brownOutReset | pinReset | ocTripRelease | servoShort | framingError | pendantEdge =>
    exact carriesOn_completed rfl
  case budgetPeriod | driveStep | lightFrameBoundary | servoFrame => exact carriesOn_reached rfl
  case sampleSet => exact carriesOn_reached (State.protSample_course _ _ _)
  case warnEntryComplete | warnExitComplete | cutTimerComplete | critTimerComplete | rearmTimerComplete =>
    exact completeDwell_carriesOn _
  case ocTripAssert =>
    simp only [exec, execOcTripAssert]
    split
    · exact hstays
    split
    · exact carriesOn_completed (State.hardTrip_course _)
    split
    · exact carriesOn_completed (State.course_eq (by simp) (by simp))
    · exact carriesOn_completed rfl
  case prechargeExpiry =>
    simp only [exec, execPrechargeExpiry]
    split
    · split
      · exact carriesOn_reached (State.closeSwitch_course _)
      · exact carriesOn_reached (State.failPrecharge_course _)
    · exact hstays
  case winchStep => exact carriesOn_reached (State.winchWork_course _)
  case orderTimeout | retryPauseEnd | drumCheckStall =>
    simp only [exec, execOrderTimeout, execRetryPauseEnd, execDrumCheckStall]
    split
    · exact carriesOn_reached (State.winchWork_course _)
    · exact hstays
  case currentCheckStall =>
    simp only [exec, execCurrentCheckStall]
    split
    · split
      · exact carriesOn_reached (State.winchWork_course _)
      · exact hstays
    · exact hstays
  case orderStarved =>
    simp only [exec, execOrderStarved]
    split
    · exact carriesOn_completed s.winchWork_course
    · exact hstays
  case drumPulse =>
    simp only [exec, execDrumPulse]
    split
    · exact hstays
    · exact carriesOn_completed s.drumPulse_course
  case benchDrumPulse =>
    simp only [exec, execBenchDrumPulse]
    split
    · exact carriesOn_reached (State.drumPulse_course _)
    · exact hstays
  case radioFrame => exact carriesOn_completed (State.receiveFrame_course _ _)
  case linkByteReceived => exact carriesOn_completed (s.linkByte_course _)
  case linkGapTimeout | replyTimerExpiry | replySent =>
    simp only [exec, execLinkGapTimeout, execReplyTimerExpiry, execReplySent]
    split
    · exact carriesOn_reached rfl
    · exact hstays
  case dlFreshnessExpiry | apLeaseExpiry =>
    simp only [exec, execDlFreshnessExpiry, execApLeaseExpiry]
    split
    · exact carriesOn_reached (State.commitGrants_course _ _)
    · exact hstays
  case pendantSettleExpiry =>
    simp only [exec, execPendantSettleExpiry]
    split
    · exact hstays
    split
    · exact carriesOn_reached rfl
    · exact carriesOn_reached (State.presentPendant_course _ _)
  case storeEnd =>
    simp only [exec, execStoreEnd]
    split
    · exact carriesOn_reached (State.endStore_course _ _)
    · exact hstays
  case wakeTimerExpiry =>
    simp only [exec, execWakeTimerExpiry]
    split
    · split
      · exact carriesOn_reached (State.endWake_course _)
      · exact hstays
    · exact hstays
  case armingTimerExpiry =>
    simp only [exec, execArmingTimerExpiry]
    split
    · split
      · exact carriesOn_reached rfl
      · exact hstays
    · exact hstays
  case idleSleepExpiry =>
    simp only [exec, execIdleSleepExpiry]
    split
    · split
      · exact carriesOn_reached (State.enterSleep_course _ _)
      · exact hstays
    · exact hstays
  case loadEnd =>
    simp only [exec, execLoadEnd]
    split
    · split
      · exact carriesOn_reached (State.finishLoad_course _ _)
      · exact hstays
    · exact hstays

/-- Every command ends in `completed`, whatever the state. -/
theorem exec_carriesOn (c : Instr) (s : State) : carriesOn s (exec c s) := by
  cases h : c.writeBytes.isSome with
  | true => exact accessoryCommand_carriesOn c h s
  | false => exact event_carriesOn c h s

/-- Settles O2: the effect of every command leaves the queue and does not set the clock back, and `settle` touches neither. -/
theorem everyCommandCompletes : Obligations.EveryCommandCompletes := by
  intro c s
  obtain ⟨u, hexec, hpending, hnow⟩ := exec_carriesOn c s
  exact ⟨u.settle, hexec, hpending, hnow⟩

/-- What `settle` ends with has every active fault latched (R151). -/
theorem State.settle_faultsOk (u : State) : u.settle.faultsOk := by
  intro e he
  rw [State.settle_faultActive] at he
  rw [State.settle_faultLatched, he, Bool.or_true]

/-- Settles O12: every command ends in `completed`, whose `settle` latches what is active. -/
theorem activeFaultsAreLatched : Obligations.ActiveFaultsAreLatched := by
  intro c s t h
  obtain ⟨u, hexec, -⟩ := exec_carriesOn c s
  obtain rfl : u.settle = t := Host.Outcome.next.inj (hexec.symm.trans h)
  exact u.settle_faultsOk

end Sys2Proof.Machine
end

section
/-! PROOFS. O26 and O27: answered commands that have moved a block, RUNCTL at its rule, START judged in order, and the ends
of ARMING and of a wake (R17, R19, R147, R157, R159, R160, R162). -/

namespace Sys2Proof.Machine

variable {s u : State}

/-! ### Answers from a state that has moved (R148) -/

theorem answers_respond (h : u.acp = s.acp) (st : Status) (d : List Byte) : answers s (u.respond st d).settle st d := by
  simp [answers, State.settle_acp, State.respond_acp, h]

theorem apHeard_respond (h : u.grt = s.grt) (st : Status) (d : List Byte) : apHeard s (u.respond st d).settle st := by
  simp [apHeard, State.respond_grt, h]

/-- A frame through the end of an answered command. -/
theorem unchangedBut.answered {l l' : List Block} (h : unchangedBut l s u) (hl : l ⊆ l') (ha : .acp ∈ l')
    (hg : .grt ∈ l') (hr : .rsc ∈ l') (st : Status) (d : List Byte) : unchangedBut l' s (u.respond st d).settle := by
  refine unchangedBut.settle (l := l') (fun b hb => ?_) (List.Subset.refl _) ha hr
  have hagree := h b fun hm => hb (hl hm)
  cases b with
  | acp | grt => contradiction
  | _ => exact hagree

/-- Out of RUNNING a command ends with the idle timer stopped (R161). -/
theorem State.settle_rsc_stopped (h : u.rsc.run ≠ .running) : u.settle.rsc = { u.rsc with idleEnd := none } := by
  rw [State.settle_rsc, u.idleAfter_none h]

/-- Where the effect has kept its deadline, the idle timer is judged from the state before the command (R161). -/
theorem State.settle_rsc_judged (h : u.rsc.idleEnd = s.rsc.idleEnd) :
    u.settle.rsc = { u.rsc with idleEnd := s.idleUntil u.settle } := by
  rw [State.settle_rsc, State.idleAfter_eq_idleUntil h]

/-- A command refused or answered out of SLEEP with nothing changed. -/
theorem answersWith_awake (hrun : s.rsc.run ≠ .sleep) (st : Status) (d : List Byte) :
    answersWith [] s (s.respond st d).settle st d := by
  have h := answersWith_wake (s := s) (status := st) (data := d)
  rwa [s.wakeSource_awake hrun] at h

/-- The bytes of a CONFIG_FIELD answer name the first bad field, or none with NOT_CHECKED (R159, R173). -/
theorem State.fieldData_firstBad (s : State) : fieldData (firstBad s.cfg) = s.badFieldBytes := by
  unfold State.badFieldBytes fieldData
  cases firstBad s.cfg <;> rfl

/-! ### RUNCTL at its rule (R147, R157) -/

/-- A RUNCTL that changes nothing but its answer. -/
theorem answersWith_runctl (s : State) (st : Status) : answersWith [] s (s.wakeSource.runctl st).settle st s.runBytes :=
  answersWith_wake

theorem exec_start (hopen : s.portOpen) (b : Byte) : exec (.start [b]) s = .next s.wakeSource.startRule.settle :=
  congrArg completed (s.takeCommand_taken false runctlData State.startRule (.inl hopen))

theorem exec_runctlNoFlag (hopen : s.portOpen) (b : Byte) :
    exec (.runctlNoFlag [b]) s = .next (s.wakeSource.runctl .ok).settle :=
  congrArg completed (s.takeCommand_taken false runctlData (State.runctl · .ok) (.inl hopen))

/-! ### A precharge requested (R17, R19) -/

/-- A precharge in flight (R17). -/
def State.precharging (s : State) : State :=
  s.withProt { s.prot with sw := .precharging, prechargeEnd := some (s.now + s.cfg.prechargeMs * msec) }

/-- A start, a precharge of which OC_TRIP has ended at once (R19). -/
def State.startTripped (s : State) : State :=
  ((s.prechargeOver.raise .hardTrip).raise .prechargeFail).withRsc { s.rsc with startInFlight := false }

theorem State.requestPrecharge_begun (hsw : s.prot.sw = .opened) (hst : s.prot.st ≠ .lockout)
    (hoc : s.lines.ocTrip = false) : s.requestPrecharge = s.precharging := by
  simp only [State.requestPrecharge, hsw, hoc, beq_self_eq_true, if_true, beq_false_of_ne hst, Bool.false_eq_true, if_false]
  rfl

theorem State.requestPrecharge_tripped (hsw : s.prot.sw = .opened) (hst : s.prot.st ≠ .lockout)
    (hoc : s.lines.ocTrip = true) : s.requestPrecharge = s.precharging.abortPrecharge := by
  simp only [State.requestPrecharge, hsw, hoc, beq_self_eq_true, if_true, beq_false_of_ne hst, Bool.false_eq_true, if_false]
  rfl

theorem State.requestPrecharge_refused (hsw : s.prot.sw = .opened) (hst : s.prot.st = .lockout) :
    s.requestPrecharge = s.prechargeFailed := by
  simp [State.requestPrecharge, hsw, hst]

/-! ### A start made (R159) -/

theorem State.makeStart_begun (hsw : s.prot.sw = .opened) (hst : s.prot.st ≠ .lockout) (hoc : s.lines.ocTrip = false) :
    s.makeStart = s.precharging.withRsc { s.rsc with startInFlight := true } :=
  State.requestPrecharge_begun (s := s.withRsc { s.rsc with startInFlight := true }) hsw hst hoc

theorem State.makeStart_tripped (hrun : s.rsc.run ≠ .benchWet) (hsw : s.prot.sw = .opened) (hst : s.prot.st ≠ .lockout)
    (hoc : s.lines.ocTrip = true) : s.makeStart = s.startTripped := by
  have h := State.requestPrecharge_tripped (s := s.withRsc { s.rsc with startInFlight := true }) hsw hst hoc
  exact h.trans (State.prechargeFailed_other _ hrun)

theorem State.makeStart_refused (hrun : s.rsc.run ≠ .benchWet) (hsw : s.prot.sw = .opened) (hst : s.prot.st = .lockout) :
    s.makeStart = s.withRsc { s.rsc with startInFlight := false } := by
  have h := State.requestPrecharge_refused (s := s.withRsc { s.rsc with startInFlight := true }) hsw hst
  exact h.trans (State.prechargeFailed_other _ hrun)

/-- The two faults of a precharge that OC_TRIP ends (R19). -/
theorem State.startTripped_latched (s : State) :
    s.startTripped.faultLatched .hardTrip = true ∧ s.startTripped.faultLatched .prechargeFail = true := by
  have h (e : FaultEntry) : s.startTripped.faultLatched e =
      ((s.prechargeOver.raise .hardTrip).raise .prechargeFail).faultLatched e := rfl
  simp [h]

/-- What is latched stays latched through an answer and the end of a command (R151). -/
theorem State.settle_latched {e : FaultEntry} (h : u.faultLatched e = true) : u.settle.faultLatched e = true := by
  rw [State.settle_faultLatched, h, Bool.true_or]

theorem unchangedBut_precharging (s : State) (r : Rsc) : unchangedBut [.prot, .rsc] s (s.precharging.withRsc r) :=
  (unchangedBut_withProt s _).append (unchangedBut_withRsc _ r)

theorem unchangedBut_startTripped (s : State) : unchangedBut [.prot, .acp, .rsc] s s.startTripped := by
  intro b hb
  cases b with
  | prot | acp | rsc => exact absurd (by simp) hb
  | _ => rfl

/-! ### START's rows (R159) -/

theorem State.startRule_elsewhere (h : s.rsc.run ≠ .halted) : s.startRule = s.runctl .refusedState :=
  if_pos (bne_iff_ne.2 h)

theorem State.startRule_flying (hrun : s.rsc.run = .halted) (h : s.rsc.startInFlight = true) :
    s.startRule = s.runctl .ok := by
  simp [State.startRule, hrun, h]

theorem State.startRule_lockedOut (hrun : s.rsc.run = .halted) (hidle : s.rsc.startInFlight = false)
    (h : s.prot.st = .lockout) : s.startRule = s.runctl .refusedState := by
  simp [State.startRule, hrun, hidle, h]

theorem State.startRule_notValid (hrun : s.rsc.run = .halted) (hidle : s.rsc.startInFlight = false)
    (hst : s.prot.st ≠ .lockout) (h : s.rsc.valid = false) : s.startRule = s.runctlNotValid := by
  simp [State.startRule, hrun, hidle, hst, h]

theorem State.startRule_made (hrun : s.rsc.run = .halted) (hidle : s.rsc.startInFlight = false)
    (hst : s.prot.st ≠ .lockout) (h : s.rsc.valid = true) : s.startRule = s.makeStart.runctl .ok := by
  simp [State.startRule, hrun, hidle, hst, h]

/-- Settles O26: the rows of START in their order, a start made through the precharge it requests. -/
theorem startJudgedInOrder : Obligations.StartJudgedInOrder := by
  intro s b n hopen _ _
  have hwake (hrun : s.rsc.run = .halted) : s.wakeSource = s := s.wakeSource_awake (hrun ▸ nofun)
  rw [exec_start hopen, exec_runctlNoFlag hopen]
  refine ⟨fun hrun hidle hst hvalid hsw => ?made, fun hrun hflight => ?flying, fun h => ?refused,
    fun hrun hidle hst hvalid => ?notValid, _, rfl, answersWith_runctl s _⟩
  case made =>
    have hwet : s.rsc.run ≠ .benchWet := hrun ▸ nofun
    rw [hwake hrun, State.startRule_made hrun hidle hst hvalid]
    refine ⟨fun hoc => ?_, fun hoc => ?_⟩
    · have hdata : runctlData (s.precharging.withRsc { s.rsc with startInFlight := true }) =
          [0, 1, if s.rsc.pendingStart then 1 else 0] := by simp [runctlData, hrun, flagByte]; rfl
      rw [State.makeStart_begun hsw hst hoc, State.runctl, hdata]
      exact ⟨_, rfl, State.settle_rsc_stopped (by simp [hrun]), rfl, answers_respond rfl _ _, apHeard_respond rfl _ _,
        (unchangedBut_precharging s _).answered (by simp) (by simp) (by simp) (by simp) _ _⟩
    · obtain ⟨htrip, hfail⟩ := s.startTripped_latched
      rw [State.makeStart_tripped hwet hsw hst hoc]
      exact ⟨_, rfl, rfl, rfl, rfl, rfl, State.settle_latched (u := s.startTripped.runctl .ok) htrip,
        State.settle_latched (u := s.startTripped.runctl .ok) hfail⟩
  case flying =>
    rw [State.startRule_flying (s := s.wakeSource) hrun hflight]
    exact ⟨_, rfl, answersWith_runctl s _⟩
  case refused =>
    refine ⟨_, rfl, ?_⟩
    by_cases hrun : s.rsc.run = .halted
    · obtain ⟨hidle, hst⟩ := h.resolve_left (not_not_intro hrun)
      rw [State.startRule_lockedOut (s := s.wakeSource) hrun hidle hst]
      exact answersWith_runctl s _
    · rw [State.startRule_elsewhere (s := s.wakeSource) hrun]
      exact answersWith_runctl s _
  case notValid =>
    rw [hwake hrun, State.startRule_notValid hrun hidle hst hvalid, State.runctlNotValid, State.fieldData_firstBad]
    exact ⟨_, rfl, answersWith_awake (hrun ▸ nofun) _ _⟩

/-! ### The ends of ARMING and of a wake (R160, R162) -/

theorem exec_armingTimerExpiry {due : Nat} (hrun : s.rsc.run = .arming) (hend : s.rsc.armingEnd = some due) :
    exec .armingTimerExpiry s = .next (s.reach due).enterRunning.settle := by
  simp [exec, execArmingTimerExpiry, hend, hrun, completed]

theorem exec_wakeTimerExpiry {due : Nat} (hrun : s.rsc.run = .sleep) (hend : s.rsc.wakeEnd = some due) :
    exec .wakeTimerExpiry s = .next (s.reach due).endWake.settle := by
  simp [exec, execWakeTimerExpiry, hend, hrun, completed]

/-- HALTED out of a sleep, before the start it may make (R162). -/
def State.woken (s : State) (due : Nat) : State :=
  (s.reach due).withRsc { s.rsc with run := .halted, wakeEnd := none, sleepOrigin := none }

theorem State.endWake_halted {due : Nat} (h : s.rsc.sleepOrigin ≠ some .fromRunning) :
    (s.reach due).endWake = s.woken due := if_neg (by simpa using h)

theorem State.endWake_running {due : Nat} (h : s.rsc.sleepOrigin = some .fromRunning) :
    (s.reach due).endWake = (s.woken due).makeStart := if_pos (beq_iff_eq.2 h)

theorem unchangedBut_woken (s : State) (due : Nat) : unchangedBut [.now, .rsc] s (s.woken due) := by
  intro b hb
  cases b with
  | now | rsc => exact absurd (by simp) hb
  | _ => rfl

/-- What is latched at the end of a command whose effect leaves the port (R151). -/
theorem acpSettled_settle (h : u.acp = s.acp) : acpSettled s u.settle := by
  simp [acpSettled, State.settle_acp, h]

/-- Settles O27: ARMING and a wake each end in one change of the run state, and a wake from RUNNING makes a start. -/
theorem armingAndWakeEnd : Obligations.ArmingAndWakeEnd := by
  intro s due
  refine ⟨fun hrun hend => ⟨_, exec_armingTimerExpiry hrun hend, rfl, ?running, acpSettled_settle rfl, ?armed⟩,
    fun hrun hend => ?wake⟩
  case running => exact State.settle_rsc_judged (u := (s.reach due).enterRunning) rfl
  case armed =>
    refine unchangedBut.settle (l := [.now, .rsc]) (fun b hb => ?_) (by simp) (by simp) (by simp)
    cases b with
    | now | rsc => exact absurd (by simp) hb
    | _ => rfl
  rw [exec_wakeTimerExpiry hrun hend]
  refine ⟨fun horigin => ?halted, fun horigin hsw hoc => ?started, fun horigin hsw hoc => ?tripped⟩
  case halted =>
    rw [State.endWake_halted horigin]
    exact ⟨_, rfl, rfl, State.settle_rsc_stopped (u := s.woken due) nofun, acpSettled_settle rfl,
      (unchangedBut_woken s due).settle (by simp) (by simp) (by simp)⟩
  case started =>
    rw [State.endWake_running horigin]
    by_cases hst : s.prot.st = .lockout
    · rw [State.makeStart_refused (s := s.woken due) nofun hsw hst]
      refine ⟨_, rfl, rfl, ?_, fun _ => rfl, fun h => absurd hst h, acpSettled_settle rfl, ?_⟩
      · rw [decide_eq_false (not_not_intro hst)]
        exact State.settle_rsc_stopped nofun
      · exact ((unchangedBut_woken s due).append (unchangedBut_withRsc _ _)).settle (by simp) (by simp) (by simp)
    · rw [State.makeStart_begun (s := s.woken due) hsw hst hoc]
      refine ⟨_, rfl, rfl, ?_, fun h => absurd h hst, fun _ => rfl, acpSettled_settle rfl, ?_⟩
      · rw [decide_eq_true hst]
        exact State.settle_rsc_stopped nofun
      · exact ((unchangedBut_woken s due).append (unchangedBut_precharging _ _)).settle (by simp) (by simp) (by simp)
  case tripped =>
    rw [State.endWake_running horigin]
    by_cases hst : s.prot.st = .lockout
    · rw [State.makeStart_refused (s := s.woken due) nofun hsw hst]
      exact ⟨_, rfl, rfl, State.settle_rsc_stopped nofun, hsw, rfl, fun h => absurd hst h,
        ((unchangedBut_woken s due).append (unchangedBut_withRsc _ _)).settle (by simp) (by simp) (by simp)⟩
    · obtain ⟨htrip, hfail⟩ := (s.woken due).startTripped_latched
      rw [State.makeStart_tripped (s := s.woken due) nofun hsw hst hoc]
      exact ⟨_, rfl, rfl, State.settle_rsc_stopped nofun, rfl, rfl,
        fun _ => ⟨State.settle_latched htrip, State.settle_latched hfail⟩,
        ((unchangedBut_woken s due).append (unchangedBut_startTripped _)).settle (by simp) (by simp) (by simp)⟩

end Sys2Proof.Machine
end

section
/-! PROOFS. O29: a store begun, refused and ended (R164). -/

namespace Sys2Proof.Machine

variable {s u : State}

theorem exec_cfgStore (hopen : s.portOpen) : exec (.cfgStore []) s = .next s.wakeSource.cfgStore.settle :=
  congrArg completed (s.takeCommand_taken false noData State.cfgStore (.inl hopen))

theorem exec_storeEnd {due : Nat} (readBack : List Byte) (h : s.rsc.storeEnd = some due) :
    exec (.storeEnd readBack) s = .next ((s.reach due).endStore readBack).settle := by
  simp [exec, execStoreEnd, h, completed]

/-! ### CFG_STORE's rows (R164) -/

theorem State.cfgStore_elsewhere (h : ¬(s.rsc.run = .halted ∧ s.rsc.startInFlight = false)) :
    s.cfgStore = s.respond .refusedState [] := by
  refine if_pos ?_
  by_cases hrun : s.rsc.run = .halted
  · simpa [hrun] using h
  · simp [hrun]

theorem State.cfgStore_notValid (hrun : s.rsc.run = .halted) (hidle : s.rsc.startInFlight = false)
    (h : s.rsc.valid = false) : s.cfgStore = s.respond .configField s.badFieldBytes := by
  simp [State.cfgStore, hrun, hidle, h, State.fieldData_firstBad]

theorem State.cfgStore_begun (hrun : s.rsc.run = .halted) (hidle : s.rsc.startInFlight = false)
    (h : s.rsc.valid = true) : s.cfgStore = s.beginStore.respond .ok [] := by
  simp [State.cfgStore, hrun, hidle, h]

/-! ### The end of a store (R164) -/

/-- What was read back stands in the store. -/
def State.storeOver (s : State) (readBack : List Byte) : State :=
  s.withRsc { s.rsc with storeEnd := none, store := .written readBack }

theorem State.endStore_same {readBack : List Byte} (h : readBack = s.cfg.withCrc) :
    s.endStore readBack = s.storeOver readBack := if_pos (beq_iff_eq.2 h)

theorem State.endStore_differs {readBack : List Byte} (h : readBack ≠ s.cfg.withCrc) :
    s.endStore readBack = (s.storeOver readBack).raise .storeFail := if_neg (by simpa using h)

theorem State.endStore_rsc (readBack : List Byte) :
    (s.endStore readBack).rsc = { s.rsc with storeEnd := none, store := .written readBack } := by
  by_cases h : readBack = s.cfg.withCrc
  · rw [State.endStore_same h]
    rfl
  · rw [State.endStore_differs h]
    rfl

/-- The end of a store reaches the store and the latched faults alone. -/
theorem unchangedBut_endStore (s : State) (readBack : List Byte) :
    unchangedBut [.acp, .rsc] s (s.endStore readBack) := by
  intro b hb
  by_cases h : readBack = s.cfg.withCrc
  · rw [State.endStore_same h]
    cases b with
    | acp | rsc => exact absurd (by simp) hb
    | _ => rfl
  · rw [State.endStore_differs h]
    cases b with
    | acp | rsc => exact absurd (by simp) hb
    | _ => rfl

/-- Settles O29: CFG_STORE by its rows, STORE_END by what is read back. -/
theorem storeRunsAndEnds : Obligations.StoreRunsAndEnds := by
  intro s due readBack
  refine ⟨fun hopen ⟨hrun, hidle⟩ => ?taken, fun hopen helse => ?refused, fun hend => ?ended⟩
  case taken =>
    have hawake : s.rsc.run ≠ .sleep := hrun ▸ nofun
    rw [exec_cfgStore hopen, s.wakeSource_awake hawake]
    refine ⟨fun hvalid => ?_, fun hvalid => ?_⟩
    · rw [State.cfgStore_begun hrun hidle hvalid]
      exact ⟨_, rfl, State.settle_rsc_stopped (by simp [State.beginStore, hrun]), answers_respond rfl _ _,
        apHeard_respond rfl _ _, (unchangedBut_withRsc s _).answered (by simp) (by simp) (by simp) (by simp) _ _⟩
    · rw [State.cfgStore_notValid hrun hidle hvalid]
      exact ⟨_, rfl, answersWith_awake hawake _ _⟩
  case refused =>
    rw [exec_cfgStore hopen, State.cfgStore_elsewhere (s := s.wakeSource) helse]
    exact ⟨_, rfl, answersWith_wake⟩
  case ended =>
    have hrsc := State.endStore_rsc (s := s.reach due) readBack
    have hframe := (unchangedBut_reach s due).append (unchangedBut_endStore (s.reach due) readBack)
    have hlines : s.agree ((s.reach due).endStore readBack) .lines :=
      unchangedBut_endStore (s.reach due) readBack .lines (by simp)
    refine ⟨_, exec_storeEnd readBack hend, unchangedBut_endStore (s.reach due) readBack .now (by simp), ?rsc,
      fun h => ?differs, fun h => ?same,
      (hframe.without (l' := [.now, .acp, .rsc]) .lines hlines (by simp)).settle (by simp) (by simp) (by simp)⟩
    case rsc =>
      rw [State.settle_rsc_judged (s := s) (by rw [hrsc]; rfl), hrsc]
      rfl
    case differs =>
      rw [State.endStore_differs (s := s.reach due) h]
      simp
    case same =>
      rw [State.endStore_same (s := s.reach due) h]
      exact acpSettled_settle rfl

end Sys2Proof.Machine
end

section
/-! PROOFS. What an opened switch and a table passed to FS leave standing: the consumers, direct drive, and the computed
records of BENCH-DRY (R38, R44, R78, R89, R99, R100, R133, R171). -/

namespace Sys2Proof.Machine

/-- Nothing draws: what a closed switch that has opened leaves of the machine's consumers (R38, R78, R89, R99, R133). -/
structure State.stoodDown (s : State) : Prop where
  drive : s.drv.pwm = 0
  brake : s.drv.brk = none
  pendingGear : s.drv.pendingGear = none
  winch : s.wch.atRest
  pendingMode : s.str.pendingMode = none
  servo : ∀ v, (s.str.servo.get v).line = none
  lamp : ∀ l, (s.lgt.lamp.get l).line = 0
  budget : s.bgt.pub.a = 0
  grant : ∀ k, s.bgt.pub.grant.get k = 0

/-- Nothing is left of what BENCH-DRY computed and injected (R44, R168, R171). -/
structure State.trialEnded (s : State) : Prop where
  drumRate : s.wch.drumRate = 0
  benchPulse : s.wch.nextBenchPulse = none
  winch : s.wch.atRest
  direct : s.wch.directEnded
  trial : s.bgt.trial = none
  starved : ∀ k, s.bgt.starved.get k = 0
  shortCount : s.bgt.shortCount = 0
  clearCount : s.bgt.clearCount = 0
  servoShort : s.bgt.servoShort = false
  applied : s.drv.applied = 0
  dragBrake : s.drv.dragBrake = false
  pendingGear : s.drv.pendingGear = none
  pendingMode : s.str.pendingMode = none
  servo : ∀ v, (s.str.servo.get v).emitted = none ∧ (s.str.servo.get v).boundHit = false
  lamp : ∀ l, (s.lgt.lamp.get l).duty = 0 ∧ (s.lgt.lamp.get l).draw = 0

section
variable {s : State}

/-! ### An opened switch -/

theorem State.leaveClosed_drv (s : State) : ∃ i, s.leaveClosed.drv = { s.drv.stopped false none with interlock := i } :=
  ⟨_, State.setWinchDuty_zero_drv _⟩

theorem State.leaveClosed_stoodDown (s : State) : s.leaveClosed.stoodDown := by
  obtain ⟨i, hdrv⟩ := s.leaveClosed_drv
  exact
    { drive := by rw [hdrv]; rfl
      brake := by rw [hdrv]; rfl
      pendingGear := by rw [hdrv]; rfl
      winch := ⟨rfl, rfl, State.setWinchDuty_zero_pwm _⟩
      pendingMode := rfl
      servo := fun v => s.str.released_line v
      lamp := fun l => s.lgt.dark_line l
      budget := rfl
      grant := fun k => PerConsumer.get_build _ k }

theorem State.openSwitch_stoodDown (h : s.prot.sw = .closed) : s.openSwitch.stoodDown := by
  rw [s.openSwitch_closed h]
  exact s.leaveClosed_stoodDown

theorem State.openSwitch_directEnded (h : s.prot.sw = .closed ∨ s.wch.directEnded) : s.openSwitch.wch.directEnded := by
  unfold State.openSwitch
  split
  next => exact ⟨rfl, rfl, rfl, rfl⟩
  next hsw => exact h.resolve_left (by simp [hsw])
  next hsw => exact h.resolve_left (by simp [hsw])

/-- A switch that opens leaves nothing of BENCH-DRY where nothing was left of it. -/
theorem State.trialEnded.openSwitch (h : s.trialEnded) : s.openSwitch.trialEnded := by
  unfold State.openSwitch
  split
  next =>
    obtain ⟨i, hdrv⟩ := s.leaveClosed_drv
    exact
      { drumRate := h.drumRate
        benchPulse := h.benchPulse
        winch := s.leaveClosed_stoodDown.winch
        direct := ⟨rfl, rfl, rfl, rfl⟩
        trial := h.trial
        starved := fun k => PerConsumer.get_build _ k
        shortCount := rfl
        clearCount := rfl
        servoShort := rfl
        applied := by rw [hdrv]; rfl
        dragBrake := by rw [hdrv]; rfl
        pendingGear := by rw [hdrv]; rfl
        pendingMode := rfl
        servo := fun v => by cases v <;> exact ⟨rfl, rfl⟩
        lamp := fun l => by cases l <;> exact ⟨rfl, rfl⟩ }
  next => exact { h with }
  next => exact h

/-! ### A new grant table -/

theorem State.stoodDown.commitGrants (h : s.stoodDown) (g : Grt) : (s.commitGrants g).stoodDown := by
  obtain ⟨i, hdrv⟩ := s.commitGrants_drv g
  exact
    { drive := by rw [hdrv]; exact h.drive
      brake := by rw [hdrv]; exact h.brake
      pendingGear := by rw [hdrv]; exact h.pendingGear
      winch := s.commitGrants_rest g h.winch
      pendingMode := by rw [State.commitGrants_str]; exact h.pendingMode
      servo := by rw [State.commitGrants_str]; exact h.servo
      lamp := by rw [State.commitGrants_lgt]; exact h.lamp
      budget := by rw [State.commitGrants_bgt]; exact h.budget
      grant := by rw [State.commitGrants_bgt]; exact h.grant }

/-- Direct drive ends where WINCH changes its holder, and stays ended (R100). -/
theorem State.commitGrants_directEnded {g : Grt}
    (h : s.wch.directEnded ∨ (g.fns.get .winch).holder ≠ s.holderOf .winch) : (s.commitGrants g).wch.directEnded := by
  have hover := s.commitGrants_handedOver g
  by_cases hsame : (g.fns.get .winch).holder = s.holderOf .winch
  · obtain ⟨hkept, -⟩ := hover
    obtain ⟨hwch, -⟩ := hkept (by rwa [State.commitGrants_holderOf])
    rw [hwch]
    exact h.resolve_right (not_not_intro hsame)
  · exact hover.directEnded (by rwa [State.commitGrants_holderOf])

theorem State.trialEnded.commitGrants (h : s.trialEnded) (g : Grt) : (s.commitGrants g).trialEnded := by
  obtain ⟨i, hdrv⟩ := s.commitGrants_drv g
  exact
    { drumRate := by rw [s.commitGrants_wch_frame g]; exact h.drumRate
      benchPulse := by rw [s.commitGrants_wch_frame g]; exact h.benchPulse
      winch := s.commitGrants_rest g h.winch
      direct := State.commitGrants_directEnded (.inl h.direct)
      trial := by rw [State.commitGrants_bgt]; exact h.trial
      starved := by rw [State.commitGrants_bgt]; exact h.starved
      shortCount := by rw [State.commitGrants_bgt]; exact h.shortCount
      clearCount := by rw [State.commitGrants_bgt]; exact h.clearCount
      servoShort := by rw [State.commitGrants_bgt]; exact h.servoShort
      applied := by rw [hdrv]; exact h.applied
      dragBrake := by rw [hdrv]; exact h.dragBrake
      pendingGear := by rw [hdrv]; exact h.pendingGear
      pendingMode := by rw [State.commitGrants_str]; exact h.pendingMode
      servo := by rw [State.commitGrants_str]; exact h.servo
      lamp := by rw [State.commitGrants_lgt]; exact h.lamp }

/-- A switch opened and a table in which FS holds WINCH end direct drive, where there could be any (R99, R100). -/
theorem State.switchedOff_directEnded {g : Grt} (hg : (g.fns.get .winch).holder = .fs)
    (h : s.prot.sw = .closed ∨ s.holderOf .winch ≠ .fs) : (s.openSwitch.commitGrants g).wch.directEnded := by
  refine State.commitGrants_directEnded (h.imp (fun hsw => State.openSwitch_directEnded (.inl hsw)) fun hne => ?_)
  rw [hg, State.holderOf, State.openSwitch_grt]
  exact hne.symm

/-! ### BENCH-DRY left (R171) -/

theorem State.leaveDry_trialEnded (s : State) (sv : BenchSave) : (s.leaveDry sv).trialEnded := by
  obtain ⟨i, hdrv⟩ : ∃ i, (s.leaveDry sv).drv = { s.drv.stopped false none with gear := sv.gear, interlock := i } :=
    ⟨_, State.setWinchDuty_zero_drv _⟩
  exact
    { drumRate := rfl
      benchPulse := rfl
      winch := ⟨rfl, rfl, State.setWinchDuty_zero_pwm _⟩
      direct := ⟨rfl, rfl, rfl, rfl⟩
      trial := rfl
      starved := fun k => PerConsumer.get_build _ k
      shortCount := rfl
      clearCount := rfl
      servoShort := rfl
      applied := by rw [hdrv]; rfl
      dragBrake := by rw [hdrv]; rfl
      pendingGear := by rw [hdrv]; rfl
      pendingMode := rfl
      servo := fun v => by cases v <;> exact ⟨rfl, rfl⟩
      lamp := fun l => by cases l <;> exact ⟨rfl, rfl⟩ }

theorem State.leaveBench_dry {b : Bool} {sv : BenchSave} (hsave : s.rsc.save = some sv) (hrun : s.rsc.run = .benchDry) :
    s.leaveBench b = (s.restoreSave sv b).leaveDry sv := by
  unfold State.leaveBench
  rw [hsave]
  exact if_pos (beq_iff_eq.2 hrun)

end

end Sys2Proof.Machine
end

section
/-! PROOFS. O22 and O23: a HALT in every run state, and the two ways into SLEEP (R19, R20, R64, R78, R99, R100, R113, R157,
R161, R171). -/

namespace Sys2Proof.Machine

variable {s u : State}

/-- An answer given from a state whose port has at most ORDER_DONE posted (R106, R148). -/
theorem answersPosted_respond (h : u.acp = { s.acp with orderDone := u.acp.orderDone }) (st : Status) (d : List Byte) :
    answersPosted s (u.respond st d).settle st d := by
  unfold answersPosted
  rw [State.settle_latches, State.respond_acp, h]

/-- An event that answers nothing, and has at most posted ORDER_DONE (R106). -/
theorem acpPosted_settle (h : u.acp = { s.acp with orderDone := u.acp.orderDone }) : acpPosted s u.settle := by
  unfold acpPosted
  rw [State.settle_latches, h]

/-- A preemption is seen through the end of a command, answered or not. -/
theorem preempted.ended {t : State} (h : preempted s u) (hw : t.wch = u.wch) (ho : t.acp.orderDone = u.acp.orderDone) :
    preempted s t := by
  unfold preempted at *
  rwa [hw, ho]

/-! ### HALT (R157) -/

theorem exec_halt (hopen : s.portOpen) (b : Byte) :
    exec (.halt [b]) s = .next (((s.wakeSource.haltWith false).runctl .ok).settle) :=
  congrArg completed (s.takeCommand_taken false runctlData (fun w => w.halt.runctl .ok) (.inl hopen))

theorem State.haltWith_rsc (s : State) (b : Bool) :
    (s.haltWith b).rsc =
      { s.rsc with
        run := .halted, startInFlight := false, pendingStart := false, sleepOrigin := none, wakeEnd := none
        armingEnd := none, idleEnd := none, load := none, save := none } := by
  simp [State.haltWith_eq, State.haltPassed, State.haltBase]

theorem State.haltWith_acp (s : State) (b : Bool) :
    (s.haltWith b).acp = { s.acp with orderDone := (s.haltWith b).acp.orderDone } := by
  have hacp : (s.haltBase b).acp = s.acp := by simp [State.haltBase]
  rw [State.haltWith_eq, State.withRsc_acp, State.haltPassed, State.commitGrants_acp, hacp]

theorem State.allToFs_winch_fs (g : Grt) (c : Settings) : ((g.allToFs c).fns.get .winch).holder = .fs := by
  simp [Grt.allToFs, FnRecord.toFs]

/-- A HALT that opens a closed switch leaves nothing driven (R20, R38, R78, R89, R99, R133). -/
theorem State.haltWith_stoodDown (b : Bool) (h : s.prot.sw = .closed) : (s.haltWith b).stoodDown := by
  have hbase : (s.haltBase b).stoodDown := State.openSwitch_stoodDown ((s.leaveBench_sw b).trans h)
  exact { hbase.commitGrants ((s.haltBase b).grt.allToFs (s.haltBase b).cfg) with }

theorem State.haltWith_directEnded (b : Bool) (h : s.prot.sw = .closed ∨ s.holderOf .winch ≠ .fs) :
    (s.haltWith b).wch.directEnded :=
  State.switchedOff_directEnded (s := s.leaveBench b) (State.allToFs_winch_fs _ _)
    (h.imp (s.leaveBench_sw b).trans (by rw [State.holderOf, State.holderOf, State.leaveBench_grt]; exact id))

/-- A HALT that leaves BENCH-DRY leaves nothing of what was computed there (R44, R171). -/
theorem State.haltWith_trialEnded {b : Bool} {sv : BenchSave} (hsave : s.rsc.save = some sv)
    (hrun : s.rsc.run = .benchDry) : (s.haltWith b).trialEnded := by
  have hleft : (s.leaveBench b).trialEnded := by
    rw [State.leaveBench_dry hsave hrun]
    exact State.leaveDry_trialEnded _ sv
  exact { hleft.openSwitch.commitGrants ((s.haltBase b).grt.allToFs (s.haltBase b).cfg) with }

/-- The protection state a HALT restores from the bench save (R171). -/
theorem State.haltWith_restored {sv : BenchSave} (hsave : s.rsc.save = some sv) :
    (s.haltWith false).prot.st = sv.st ∧ (s.haltWith false).prot.cause = sv.cause ∧
      (s.haltWith false).prot.tripTime = sv.tripTime ∧ (s.haltWith false).prot.dwell = noDwell ∧
      (s.haltWith false).prot.q = sv.q ∧ (s.haltWith false).prot.limit = sv.limit := by
  have hleave : (s.leaveBench false).prot = s.prot.restored sv false := by rw [s.leaveBench_prot, hsave]; rfl
  obtain ⟨hst, hcause, htrip, hdwell, hq, hlimit⟩ := (s.leaveBench false).openSwitch_prot
  simp [State.haltWith_eq, State.haltPassed, State.haltBase, hst, hcause, htrip, hdwell, hq, hlimit, hleave, Prot.restored]

/-- A HALT out of BENCH-DRY restores the bench save (R171). -/
theorem State.haltWith_benchLeft_dry {sv : BenchSave} (hsave : s.rsc.save = some sv) (hrun : s.rsc.run = .benchDry) :
    benchLeft s (s.haltWith false) sv false := by
  have hleft := State.leaveBench_dry (b := false) hsave hrun
  have hended := State.haltWith_trialEnded (b := false) hsave hrun
  obtain ⟨hst, hcause, htrip, hdwell, hq, hlimit⟩ := State.haltWith_restored hsave
  obtain ⟨hline, hrefd, hdir, harm⟩ := s.haltWith_sameLine false
  have hpmon := s.haltWith_pmon false
  have hgear := s.haltWith_gear false
  rw [hleft] at hline hrefd hdir harm hpmon hgear
  have hgear' : (s.haltWith false).drv.gear = sv.gear := by
    rw [hgear, State.leaveDry, State.setWinchDuty_zero_drv]
    rfl
  refine ⟨s.haltWith_save false, harm, fun k => by rw [hdwell]; cases k <;> rfl, fun _ => ⟨hst, hcause, htrip, hq, hlimit⟩,
    nofun, by rw [hpmon]; rfl, fun _ => ⟨hline, hrefd, hdir, hgear', hended.drumRate, hended.benchPulse, hended.winch.1,
      hended.direct.1, fun q => ?_, hended.trial, hended.starved, hended.shortCount, hended.clearCount, hended.servoShort,
      hended.applied, hended.dragBrake, hended.pendingGear, hended.pendingMode, hended.servo, hended.lamp⟩,
    fun h => absurd hrun h⟩
  rw [hpmon]
  exact PerQuantity.get_build _ q

theorem State.haltWith_benchLeft_any {sv : BenchSave} (hsave : s.rsc.save = some sv) :
    benchLeft s (s.haltWith false) sv false := by
  by_cases hrun : s.rsc.run = .benchDry
  · exact State.haltWith_benchLeft_dry hsave hrun
  · exact s.haltWith_benchLeft hsave hrun nofun

theorem State.haltWith_pmon_kept (b : Bool) (h : s.rsc.save = none) : (s.haltWith b).pmon = s.pmon := by
  have hb : s.leaveBench b = s := by simp [State.leaveBench, h]
  rw [State.haltWith_pmon, hb]

theorem unchangedBut_haltWith (s : State) (b : Bool) :
    unchangedBut [.pmon, .prot, .bgt, .grt, .drv, .str, .wch, .lgt, .acp, .rsc] s (s.haltWith b) := by
  intro k hk
  cases k <;> simp at hk <;> simp [State.agree]

/-- Settles O22: the HALT's own state by its lemmas, an answer apart. -/
theorem haltStopsTheVehicle : Obligations.HaltStopsTheVehicle := by
  intro s b hopen _
  have hrsc : (s.wakeSource.haltWith false).rsc =
      { s.rsc with
        run := .halted, startInFlight := false, pendingStart := false, sleepOrigin := none, wakeEnd := none
        armingEnd := none, idleEnd := none, load := none, save := none } := s.wakeSource.haltWith_rsc false
  have hacp := s.wakeSource.haltWith_acp false
  obtain ⟨-, hsw, -⟩ := s.wakeSource.haltWith_spec false
  obtain ⟨hpassed, hgrt⟩ := s.wakeSource.haltWith_passed false
  have hpreempted (hq : s.queueOk) : preempted s (s.wakeSource.haltWith false) := s.wakeSource.haltWith_preempted false hq
  have hcaps := s.wakeSource.haltWith_capsKept false
  have hdirect := State.haltWith_directEnded (s := s.wakeSource) false
  have hdown := State.haltWith_stoodDown (s := s.wakeSource) false
  have hpmon := State.haltWith_pmon_kept (s := s.wakeSource) false
  have hprot := s.wakeSource.halt_prot
  have hleft (sv : BenchSave) (hsave : s.rsc.save = some sv) : benchLeft s (s.wakeSource.haltWith false) sv false :=
    State.haltWith_benchLeft_any (s := s.wakeSource) hsave
  have hframe : unchangedBut _ s (s.wakeSource.haltWith false) :=
    (unchangedBut_wakeSource s).append (unchangedBut_haltWith s.wakeSource false)
  rw [State.halt] at hprot
  rw [exec_halt hopen]
  generalize s.wakeSource.haltWith false = v at *
  have hdata : runctlData v = [0, 0, 0] := by
    rw [runctlData, hrsc]
    rfl
  rw [State.runctl, hdata]
  refine ⟨_, rfl, answersPosted_respond hacp _ _, ?rsc, hsw, hpassed, ?grt, fun hq => (hpreempted hq).ended rfl rfl, hcaps,
    hdirect, fun hclosed => ?closed, fun hsave => ⟨hpmon hsave, hprot hsave⟩, fun sv hsave => ?left,
    hframe.answered (by simp) (by simp) (by simp) (by simp) _ _⟩
  case rsc => rw [State.settle_rsc_stopped (by simp [hrsc]), State.respond_rsc, hrsc]
  case grt =>
    rw [State.settle_grt, State.respond_grt, hgrt]
    simp [Status.completes]
  case closed =>
    obtain ⟨hdrive, hbrake, hgear, ⟨hduty, hmoving, hpwm⟩, hmode, hservo, hlamp, hbudget, hgrant⟩ := hdown hclosed
    exact ⟨hdrive, hbrake, hgear, hduty, hmoving, hpwm, hmode, hservo, hlamp, hbudget, hgrant⟩
  case left => exact hleft sv hsave

/-! ### SLEEP (R161) -/

theorem exec_sleep (hopen : s.portOpen) (b : Byte) : exec (.sleep [b]) s = .next s.wakeSource.sleepRule.settle :=
  congrArg completed (s.takeCommand_taken false runctlData State.sleepRule (.inl hopen))

theorem exec_idleSleepExpiry {due : Nat} (hrun : s.rsc.run = .running) (hend : s.rsc.idleEnd = some due) :
    exec .idleSleepExpiry s = .next ((s.reach due).enterSleep .fromRunning).settle := by
  simp [exec, execIdleSleepExpiry, hend, hrun, completed]

theorem State.sleepRule_halted (h : s.rsc.run = .halted) : s.sleepRule = (s.enterSleep .fromHalted).runctl .ok := by
  unfold State.sleepRule
  rw [h]

/-- In SLEEP the command is a success that changes nothing, and elsewhere it is refused (R157). -/
theorem State.sleepRule_elsewhere (h : s.rsc.run ≠ .halted) :
    s.sleepRule = s.runctl (if s.rsc.run = .sleep then .ok else .refusedState) := by
  unfold State.sleepRule
  split
  next hrun => exact absurd hrun h
  next hrun => rw [if_pos hrun]
  next hrun => rw [if_neg hrun]

/-- The grant table at entry to SLEEP (R64, R161). -/
def Grt.slept (g : Grt) (c : Settings) : Grt :=
  { g.allToFs c with link := .never, freshEnd := none, lastDecoded := PerFn.build fun _ => none }

/-- The table at entry to SLEEP committed behind the opened switch. -/
def State.sleepPassed (s : State) : State := s.openSwitch.commitGrants (s.grt.slept s.cfg)

theorem State.enterSleep_eq (s : State) (o : SleepOrigin) :
    s.enterSleep o =
      s.sleepPassed.withRsc
        { s.sleepPassed.rsc with
          run := .sleep, startInFlight := false, sleepOrigin := some o, armingEnd := none, idleEnd := none } := by
  have hgrt : s.openSwitch.grt = s.grt := s.openSwitch_grt
  have hcfg : s.openSwitch.cfg = s.cfg := by rw [State.cfg, State.openSwitch_rsc, State.cfg]
  unfold State.enterSleep State.sleepPassed Grt.slept
  dsimp only
  rw [hgrt, hcfg]

section
variable (s) (o : SleepOrigin)

theorem State.enterSleep_rsc :
    (s.enterSleep o).rsc =
      { s.rsc with run := .sleep, startInFlight := false, sleepOrigin := some o, armingEnd := none, idleEnd := none } := by
  simp [State.enterSleep_eq, State.sleepPassed]

theorem State.enterSleep_sw : (s.enterSleep o).prot.sw = .opened := by
  simp [State.enterSleep_eq, State.sleepPassed]

theorem State.enterSleep_grt : (s.enterSleep o).grt = s.grt.slept s.cfg := by
  simp [State.enterSleep_eq, State.sleepPassed]

theorem State.enterSleep_acp : (s.enterSleep o).acp = { s.acp with orderDone := (s.enterSleep o).acp.orderDone } := by
  rw [State.enterSleep_eq, State.withRsc_acp, State.sleepPassed, State.commitGrants_acp, State.openSwitch_acp]

/-- At entry to SLEEP every function passes to FS with its neutral value (R64). -/
theorem State.enterSleep_passed (f : Fn) :
    passedToFs s.cfg f 0 (s.grt.fns.get f) ((s.enterSleep o).grt.fns.get f) := by
  simp [State.enterSleep_grt, Grt.slept, Grt.allToFs, passedToFs, FnRecord.toFs]

theorem State.enterSleep_undecoded (f : Fn) : (s.enterSleep o).grt.lastDecoded.get f = none := by
  simp [State.enterSleep_grt, Grt.slept]

theorem State.enterSleep_preempted (hq : s.queueOk) : preempted s (s.enterSleep o) := by
  have hsame : sameQueue s s.openSwitch := sameQueue_openSwitch s
  have hopened : s.openSwitch.queueOk := State.queueOk_congr hsame (by simp [State.holderOf]) hq
  have hpassed := s.openSwitch.commitGrants_preempted (s.grt.slept s.cfg) hopened (State.allToFs_winch _ _)
  rw [State.enterSleep_eq]
  exact hpassed.of_sameQueue hsame

theorem State.enterSleep_capsKept : capsKept s (s.enterSleep o) := by
  rw [State.enterSleep_eq]
  exact s.openSwitch_capsKept.trans (s.openSwitch.commitGrants_capsKept _)

theorem State.enterSleep_directEnded (h : s.prot.sw = .closed ∨ s.holderOf .winch ≠ .fs) :
    (s.enterSleep o).wch.directEnded := by
  rw [State.enterSleep_eq]
  exact State.switchedOff_directEnded (State.allToFs_winch_fs s.grt s.cfg) h

theorem unchangedBut_enterSleep :
    unchangedBut [.prot, .bgt, .grt, .drv, .str, .wch, .lgt, .acp, .rsc] s (s.enterSleep o) := by
  intro b hb
  cases b <;> simp at hb <;> simp [State.agree]

end

/-- What either way into SLEEP leaves, the answer and the clock apart (R64, R78, R99, R113, R161). -/
structure sleptTo (s t : State) (origin : SleepOrigin) : Prop where
  rsc : t.rsc =
    { s.rsc with run := .sleep, startInFlight := false, sleepOrigin := some origin, armingEnd := none, idleEnd := none }
  sw : t.prot.sw = .opened
  link : t.grt.link = .never
  freshEnd : t.grt.freshEnd = none
  undecoded : ∀ f, t.grt.lastDecoded.get f = none
  passed : ∀ f, passedToFs s.cfg f 0 (s.grt.fns.get f) (t.grt.fns.get f)
  preempts : s.queueOk → preempted s t
  caps : capsKept s t
  direct : s.prot.sw = .closed ∨ s.holderOf .winch ≠ .fs → t.wch.directEnded
  acp : t.acp = { s.acp with orderDone := t.acp.orderDone }

theorem State.enterSleep_sleptTo (s : State) (o : SleepOrigin) : sleptTo s (s.enterSleep o) o where
  rsc := s.enterSleep_rsc o
  sw := s.enterSleep_sw o
  link := congrArg Grt.link (s.enterSleep_grt o)
  freshEnd := congrArg Grt.freshEnd (s.enterSleep_grt o)
  undecoded := s.enterSleep_undecoded o
  passed := s.enterSleep_passed o
  preempts := s.enterSleep_preempted o
  caps := s.enterSleep_capsKept o
  direct := s.enterSleep_directEnded o
  acp := s.enterSleep_acp o

/-- Entry to SLEEP reads of the clock nothing that this relation holds. -/
theorem sleptTo.of_reach {due : Nat} {t : State} {o : SleepOrigin} (h : sleptTo (s.reach due) t o) : sleptTo s t o :=
  ⟨h.rsc, h.sw, h.link, h.freshEnd, h.undecoded, h.passed, h.preempts, h.caps, h.direct, h.acp⟩

/-- Settles O23: the entry to SLEEP by its relation, answered or at the moment of the expiry. -/
theorem sleepEntered : Obligations.SleepEntered := by
  intro s b due hopen _
  refine ⟨fun hrun => ?commanded, fun hrun hend => ?idle, fun hrun => ?elsewhere⟩
  case commanded =>
    have hslept := s.enterSleep_sleptTo .fromHalted
    have hframe := unchangedBut_enterSleep s .fromHalted
    have hnow := s.enterSleep_now .fromHalted
    rw [exec_sleep hopen, s.wakeSource_awake (hrun ▸ nofun), State.sleepRule_halted hrun]
    generalize s.enterSleep .fromHalted = v at *
    obtain ⟨hrsc, hsw, hlink, hfresh, hundecoded, hpassed, hpreempted, hcaps, hdirect, hacp⟩ := hslept
    have hdata : runctlData v = [4, 0, if s.rsc.pendingStart then 1 else 0] := by
      rw [runctlData, hrsc]
      rfl
    have hstopped : (v.respond .ok (runctlData v)).settle.rsc = { v.rsc with idleEnd := none } :=
      State.settle_rsc_stopped (by simp [hrsc])
    rw [hdata, hrsc] at hstopped
    rw [State.runctl, hdata]
    refine ⟨_, rfl, answersPosted_respond hacp _ _, hnow, congrArg Rsc.run hstopped, congrArg Rsc.sleepOrigin hstopped,
      congrArg Rsc.startInFlight hstopped, congrArg Rsc.armingEnd hstopped, congrArg Rsc.idleEnd hstopped, hsw, hlink,
      hfresh, hundecoded, hpassed, fun hq => (hpreempted hq).ended rfl rfl, hcaps, hdirect,
      hframe.answered (List.Subset.refl _) (by simp) (by simp) (by simp) _ _⟩
  case idle =>
    have hslept := ((s.reach due).enterSleep_sleptTo .fromRunning).of_reach
    have hnow : ((s.reach due).enterSleep .fromRunning).now = max s.now due := (s.reach due).enterSleep_now .fromRunning
    have hlines : s.agree ((s.reach due).enterSleep .fromRunning) .lines := (s.reach due).enterSleep_lines .fromRunning
    have hframe := (unchangedBut_reach s due).append (unchangedBut_enterSleep (s.reach due) .fromRunning)
    rw [exec_idleSleepExpiry hrun hend]
    generalize (s.reach due).enterSleep .fromRunning = v at *
    obtain ⟨hrsc, hsw, hlink, -, hundecoded, hpassed, hpreempted, hcaps, hdirect, hacp⟩ := hslept
    have hstopped : v.settle.rsc = { v.rsc with idleEnd := none } := State.settle_rsc_stopped (by simp [hrsc])
    rw [hrsc] at hstopped
    have hframe' := hframe.without (l' := [.now, .prot, .bgt, .grt, .drv, .str, .wch, .lgt, .acp, .rsc]) .lines hlines
      (by simp)
    refine ⟨_, rfl, hnow, congrArg Rsc.run hstopped, congrArg Rsc.sleepOrigin hstopped, congrArg Rsc.armingEnd hstopped,
      congrArg Rsc.idleEnd hstopped, hsw, hlink, hundecoded, hpassed, fun hq => ?_, hcaps, hdirect, acpPosted_settle hacp,
      hframe'.settle (List.Subset.refl _) (by simp) (by simp)⟩
    exact (hpreempted hq).ended rfl rfl
  case elsewhere =>
    rw [exec_sleep hopen, State.sleepRule_elsewhere (s := s.wakeSource) hrun]
    exact ⟨_, rfl, answersWith_runctl s _⟩

end Sys2Proof.Machine
end

section
/-! PROOFS. What a replaced working copy sets off (R65, R71, R90, R94, R100, R106, R113): `applySettings` meets the relation
`reconfigured` of Safety.lean. -/

namespace Sys2Proof.Machine

/-! ### One record re-examined (R65) -/

section
variable {g : Grt} {old new : Settings} {f : Fn}

theorem Grt.reexamineFn_fs (h : (g.fns.get f).holder = .fs) :
    g.reexamineFn old new f = (g.fns.get f).toFs new f true := if_pos (beq_iff_eq.2 h)

theorem Grt.reexamineFn_dropped (hfs : (g.fns.get f).holder ≠ .fs)
    (h : new.allows f (g.fns.get f).holder = false ∨ ((g.fns.get f).holder = .dl ∧ new.dlChannel f = 0)) :
    g.reexamineFn old new f = (g.fns.get f).toFs new f false := by
  unfold Grt.reexamineFn
  dsimp only
  rw [if_neg (by simpa using hfs), if_pos (by simpa using h)]

/-- The radio's right to a stick that AP holds, under a new copy that leaves its channel (R52, R65). -/
def Grt.overrides (g : Grt) (old new : Settings) (f : Fn) (v : Int) : Prop :=
  (g.fns.get f).holder = .ap ∧ f.proportional = true ∧ g.link = .fresh ∧ ¬new.dlChannel f ≠ old.dlChannel f ∧
    g.lastDecoded.get f = some v ∧ new.neutralBand f < v.natAbs

theorem Grt.reexamineFn_kept (hfs : (g.fns.get f).holder ≠ .fs)
    (h : ¬(new.allows f (g.fns.get f).holder = false ∨ ((g.fns.get f).holder = .dl ∧ new.dlChannel f = 0)))
    (hover : ∀ v, ¬g.overrides old new f v) : g.reexamineFn old new f = g.fns.get f := by
  unfold Grt.reexamineFn
  dsimp only
  rw [if_neg (by simpa using hfs), if_neg (by simpa using h)]
  split
  next v hv =>
    refine if_neg fun hall => hover v ?_
    simp only [Bool.and_eq_true, beq_iff_eq, Bool.not_eq_true', bne_eq_false_iff_eq, outsideBand,
      decide_eq_true_eq] at hall
    obtain ⟨⟨⟨⟨hfresh, hp⟩, hap⟩, hmoved⟩, hout⟩ := hall
    exact ⟨hap, hp, hfresh, not_not_intro hmoved.symm, hv, hout⟩
  next => rfl

theorem Grt.reexamineFn_overridden {v : Int}
    (h : ¬(new.allows f (g.fns.get f).holder = false ∨ ((g.fns.get f).holder = .dl ∧ new.dlChannel f = 0)))
    (hover : g.overrides old new f v) : g.reexamineFn old new f = (g.fns.get f).moveTo .dl v none := by
  obtain ⟨hap, hp, hfresh, hmoved, hv, hout⟩ := hover
  have hfs : (g.fns.get f).holder ≠ .fs := by rw [hap]; exact nofun
  unfold Grt.reexamineFn
  dsimp only
  rw [if_neg (by simpa using hfs), if_neg (by simpa using h), hv]
  exact if_pos (by simp [hfresh, hp, hap, not_not.1 hmoved, outsideBand, hout])

/-- R65 never brings AP a function. -/
theorem Grt.reexamineFn_ap (h : (g.reexamineFn old new f).holder = .ap) : (g.fns.get f).holder = .ap := by
  unfold Grt.reexamineFn at h
  dsimp only at h
  split at h
  · exact nomatch h
  split at h
  · exact nomatch h
  split at h
  · split at h
    · exact nomatch h
    · exact h
  · exact h

end

/-! ### An order preempted where WINCH_EN goes (R113) -/

/-- The working copy replaced, and an ACTIVE order preempted where WINCH_EN goes with the old one. -/
def State.copyReplaced (s : State) (c : Settings) : State :=
  if s.cfg.winchEn && !c.winchEn then (s.reconfigured c).preempt else s.reconfigured c

/-- The functions re-examined by a new working copy (R65). -/
def State.copyJudged (s : State) (c : Settings) : Grt := (s.copyReplaced c).grt.reexamine s.cfg c

theorem State.applySettings_judged (s : State) (c : Settings) :
    s.applySettings c = (s.copyReplaced c).commitGrants (s.copyJudged c) := rfl

section
variable {s : State} {c : Settings} {f : Fn}

theorem State.copyReplaced_dropped (h : s.cfg.winchEn = true ∧ c.winchEn = false) :
    s.copyReplaced c = (s.reconfigured c).preempt := if_pos (by simp [h])

theorem State.copyReplaced_kept (h : ¬(s.cfg.winchEn = true ∧ c.winchEn = false)) :
    s.copyReplaced c = s.reconfigured c := if_neg (by simpa using h)

theorem sameQueue_reconfigured (s : State) (c : Settings) : sameQueue s (s.reconfigured c) :=
  ⟨rfl, rfl, rfl, rfl, rfl⟩

theorem State.preempt_motorEases (s : State) : s.motorEases s.preempt := by
  unfold State.preempt State.endActive
  split
  · exact s.endOrder_motorEases _ _ _
  · exact .rfl

/-- A drive that has followed a winch left as it is, or stopped. -/
theorem State.motorEases_of_follows {t : State} (h : driveFollows s t)
    (hm : t.wch.moving = s.wch.moving ∨ t.wch.moving = false) : s.motorEases t := by
  obtain ⟨hsame, hfalls, -⟩ := h
  by_cases hkept : t.wch.moving = s.wch.moving
  · exact .inl ⟨hkept, hsame hkept⟩
  · have hfalse : t.wch.moving = false := hm.resolve_left hkept
    have htrue : s.wch.moving = true := by simpa [hfalse] using hkept
    refine .inr ⟨hfalse, (hfalls htrue hfalse).trans ?_⟩
    rw [htrue]
    simp

theorem State.commitGrants_motorEases (s : State) (g : Grt) : s.motorEases (s.commitGrants g) :=
  State.motorEases_of_follows (s.commitGrants_driveFollows g)
    ((s.commitGrants_eases g).calm.winch.imp And.right And.right)

section
variable (s c)

theorem State.copyReplaced_motorEases : s.motorEases (s.copyReplaced c) := by
  by_cases h : s.cfg.winchEn = true ∧ c.winchEn = false
  · rw [State.copyReplaced_dropped h]
    exact State.motorEases.trans (.inl ⟨rfl, rfl⟩) (State.preempt_motorEases (s.reconfigured c))
  · rw [State.copyReplaced_kept h]
    exact .inl ⟨rfl, rfl⟩

theorem unchangedBut_copyReplaced : unchangedBut [.grt, .drv, .str, .wch, .acp, .rsc] s (s.copyReplaced c) := by
  intro b hb
  by_cases h : s.cfg.winchEn = true ∧ c.winchEn = false
  · rw [State.copyReplaced_dropped h]
    cases b <;> simp at hb <;> simp [State.agree, State.reconfigured]
  · rw [State.copyReplaced_kept h]
    cases b <;> simp at hb <;> rfl

theorem State.copyReplaced_rsc : (s.copyReplaced c).rsc = { s.rsc with work := c } := by
  by_cases h : s.cfg.winchEn = true ∧ c.winchEn = false
  · rw [State.copyReplaced_dropped h, State.preempt_rsc]
    rfl
  · rw [State.copyReplaced_kept h]
    rfl

theorem State.copyReplaced_str : (s.copyReplaced c).str = s.str.rebound s.cfg c := by
  by_cases h : s.cfg.winchEn = true ∧ c.winchEn = false
  · rw [State.copyReplaced_dropped h, State.preempt_str]
    rfl
  · rw [State.copyReplaced_kept h]
    rfl

theorem State.copyReplaced_acp : (s.copyReplaced c).acp = { s.acp with orderDone := (s.copyReplaced c).acp.orderDone } := by
  by_cases h : s.cfg.winchEn = true ∧ c.winchEn = false
  · rw [State.copyReplaced_dropped h, State.preempt_acp]
    rfl
  · rw [State.copyReplaced_kept h]
    rfl

/-- The winch under a new working copy: the referenced flag, and the queue and the motor of an order preempted (R94). -/
theorem State.copyReplaced_wch :
    (s.copyReplaced c).wch =
      { s.wch with
        referenced := s.wch.referenced && s.cfg.pulsesPerTurn == c.pulsesPerTurn
        slots := (s.copyReplaced c).wch.slots, runFlag := (s.copyReplaced c).wch.runFlag
        duty := (s.copyReplaced c).wch.duty, moving := (s.copyReplaced c).wch.moving
        pwm := (s.copyReplaced c).wch.pwm } := by
  by_cases h : s.cfg.winchEn = true ∧ c.winchEn = false
  · rw [State.copyReplaced_dropped h]
    exact State.preempt_wch (s.reconfigured c)
  · rw [State.copyReplaced_kept h]
    rfl

/-- The end of an ACTIVE order under AP leaves the WINCH value 0 (R106). -/
theorem State.preempt_fn :
    s.preempt.grt.fns.get f =
      if f = .winch ∧ s.holderOf .winch = .ap ∧ s.wch.active ≠ none then { s.grt.fns.get f with value := 0 }
      else s.grt.fns.get f := by
  rw [State.preempt_grt]
  cases ha : s.wch.active with
  | none => simp
  | some a => simp [State.writeHeldWinchValue_get]

theorem State.preempt_grt_fns : s.preempt.grt = { s.grt with fns := s.preempt.grt.fns } := by
  rw [State.preempt_grt]
  split <;> rfl

theorem State.copyReplaced_grt : (s.copyReplaced c).grt = { s.grt with fns := (s.copyReplaced c).grt.fns } := by
  by_cases h : s.cfg.winchEn = true ∧ c.winchEn = false
  · rw [State.copyReplaced_dropped h]
    exact State.preempt_grt_fns (s.reconfigured c)
  · rw [State.copyReplaced_kept h]
    rfl

/-- The record of a function behind a new working copy, before it is re-examined: that of WINCH ends with its order. -/
theorem State.copyReplaced_fn :
    (s.copyReplaced c).grt.fns.get f =
      if f = .winch ∧ (s.grt.fns.get f).holder = .ap ∧ s.cfg.winchEn = true ∧ c.winchEn = false ∧ s.wch.active ≠ none then
        { s.grt.fns.get f with value := 0 }
      else s.grt.fns.get f := by
  by_cases h : s.cfg.winchEn = true ∧ c.winchEn = false
  · rw [State.copyReplaced_dropped h, State.preempt_fn]
    refine if_congr ⟨?_, ?_⟩ rfl rfl
    · rintro ⟨rfl, hap, hactive⟩
      exact ⟨rfl, hap, h.1, h.2, hactive⟩
    · rintro ⟨rfl, hap, -, -, hactive⟩
      exact ⟨rfl, hap, hactive⟩
  · rw [State.copyReplaced_kept h, if_neg fun hall => h ⟨hall.2.2.1, hall.2.2.2.1⟩]
    rfl

theorem State.copyReplaced_holder : ((s.copyReplaced c).grt.fns.get f).holder = (s.grt.fns.get f).holder := by
  rw [State.copyReplaced_fn]
  split <;> rfl

/-! ### The working copy replaced (R65, R90, R94, R100, R113) -/

@[simp] theorem State.applySettings_cfg : (s.applySettings c).cfg = c := by
  simp [State.cfg, State.applySettings_judged, State.copyReplaced_rsc]

@[simp] theorem State.applySettings_grt : (s.applySettings c).grt = s.copyJudged c := by
  rw [State.applySettings_judged, State.commitGrants_grt]

theorem State.copyJudged_fn : (s.copyJudged c).fns.get f = (s.copyReplaced c).grt.reexamineFn s.cfg c f :=
  PerFn.get_build _ f

theorem State.copyJudged_lastDecoded : (s.copyJudged c).lastDecoded.get f =
    if c.dlChannel f ≠ s.cfg.dlChannel f then none else s.grt.lastDecoded.get f := by
  rw [State.copyJudged, State.copyReplaced_grt]
  refine (PerFn.get_build _ f).trans (if_congr ?_ rfl rfl)
  rw [bne_iff_ne, ne_comm]

/-- A working copy replaced re-examines every function (R65). -/
theorem State.applySettings_reexamined : reexamined s (s.applySettings c) f := by
  have hlast := s.copyJudged_lastDecoded c (f := f)
  have hfn := s.copyReplaced_fn c (f := f)
  have hholder := s.copyReplaced_holder c (f := f)
  have hover (v : Int) : (s.copyReplaced c).grt.overrides s.cfg c f v ↔
      (s.grt.fns.get f).holder = .ap ∧ f.proportional = true ∧ s.grt.link = .fresh ∧
        ¬c.dlChannel f ≠ s.cfg.dlChannel f ∧ s.grt.lastDecoded.get f = some v ∧ c.neutralBand f < v.natAbs := by
    unfold Grt.overrides
    rw [hholder, s.copyReplaced_grt c]
  unfold reexamined
  rw [State.applySettings_grt, State.copyJudged_fn, State.applySettings_cfg]
  generalize (s.copyReplaced c).grt = g at *
  refine ⟨fun hfs => ?fs, fun hfs hdropped => ?dropped, fun hdropped hoverridden v hv => ?overridden,
    fun hfs hdropped hkept => ?kept, hlast⟩
  case fs =>
    have hsame : g.fns.get f = s.grt.fns.get f := hfn.trans (if_neg fun hall => by
      obtain ⟨-, hap, -⟩ := hall
      exact nomatch hap.symm.trans hfs)
    rw [Grt.reexamineFn_fs (by rwa [hholder]), hsame]
    exact FnRecord.passedToFs_toFs c f _ true
  case dropped =>
    rw [Grt.reexamineFn_dropped (by rwa [hholder]) (by rwa [hholder]), hfn]
    split
    · exact FnRecord.passedToFs_toFs c f { s.grt.fns.get f with value := 0 } false
    · exact FnRecord.passedToFs_toFs c f (s.grt.fns.get f) false
  case overridden =>
    obtain ⟨hap, hp, hfresh, hmoved, w, hw, hout⟩ := hoverridden
    obtain rfl := Option.some.inj (hv.symm.trans hw)
    rw [Grt.reexamineFn_overridden (by rwa [hholder]) ((hover v).2 ⟨hap, hp, hfresh, hmoved, hv, hout⟩), hfn]
    split <;> rfl
  case kept =>
    rw [Grt.reexamineFn_kept (by rwa [hholder]) (by rwa [hholder]) fun v hv => hkept ?_, hfn]
    obtain ⟨hap, hp, hfresh, hmoved, hdecoded, hout⟩ := (hover v).1 hv
    exact ⟨hap, hp, hfresh, hmoved, v, hdecoded, hout⟩

end

end

end Sys2Proof.Machine
end

section
/-! PROOFS. The rest of what a replaced working copy sets off: the servos, the winch and its queue, the pending scene, the
rearm condition and the drive (R11, R71, R90, R94, R100, R113, R123). -/

namespace Sys2Proof.Machine

section
variable {s : State} {c : Settings}

/-! ### The servos (R90) -/

theorem servoChanged_iff (old new : Settings) (v : Servo) : servoChanged old new v = false ↔
    new.servoMin v = old.servoMin v ∧ new.servoCenter v = old.servoCenter v ∧ new.servoMax v = old.servoMax v ∧
      new.servoTrim v = old.servoTrim v := by
  simp only [servoChanged, Bool.or_eq_false_iff, bne_eq_false_iff_eq, and_assoc, eq_comm (b := old.servoMin v),
    eq_comm (b := old.servoCenter v), eq_comm (b := old.servoMax v), eq_comm (b := old.servoTrim v)]

/-- A pulse becomes absent where the bounds or the trim of its servo changed (R90). -/
theorem Str.rebound_servo (x : Str) (old new : Settings) (v : Servo) :
    (x.rebound old new).servo.get v =
      { x.servo.get v with
        emitted :=
          if new.servoMin v = old.servoMin v ∧ new.servoCenter v = old.servoCenter v ∧
              new.servoMax v = old.servoMax v ∧ new.servoTrim v = old.servoTrim v then
            (x.servo.get v).emitted
          else none } := by
  refine (PerServo.get_build _ v).trans ?_
  cases h : servoChanged old new v with
  | false => rw [if_pos ((servoChanged_iff old new v).1 h)]; rfl
  | true => rw [if_neg fun hsame => nomatch h.symm.trans ((servoChanged_iff old new v).2 hsame)]; rfl

section
variable (s c)

theorem State.applySettings_str : (s.applySettings c).str = s.str.rebound s.cfg c := by
  rw [State.applySettings_judged, State.commitGrants_str, State.copyReplaced_str]

/-! ### The tables of the other blocks (R11, R65, R123) -/

theorem State.copyJudged_eq :
    s.copyJudged c = { s.grt with fns := (s.copyJudged c).fns, lastDecoded := (s.copyJudged c).lastDecoded } := by
  unfold State.copyJudged Grt.reexamine
  rw [State.copyReplaced_grt]

theorem State.copyReplaced_valueOf {f : Fn} (hf : f ≠ .winch) : (s.copyReplaced c).valueOf f = s.valueOf f := by
  rw [State.valueOf, State.copyReplaced_fn, if_neg fun h => hf h.1]
  rfl

theorem State.applySettings_valueOf (f : Fn) :
    (s.applySettings c).valueOf f = ((s.copyJudged c).fns.get f).value := by
  rw [State.valueOf, State.applySettings_grt]

theorem State.applySettings_holderOf (f : Fn) :
    (s.applySettings c).holderOf f = ((s.copyJudged c).fns.get f).holder := by
  rw [State.holderOf, State.applySettings_grt]

/-- The pending scene follows the value of SCENE (R123). -/
theorem State.applySettings_lgt :
    (s.applySettings c).lgt =
      { s.lgt with
        pendingScene :=
          if (s.applySettings c).valueOf .scene = s.valueOf .scene then s.lgt.pendingScene
          else ((s.applySettings c).valueOf .scene).toNat } := by
  have hlgt : (s.copyReplaced c).lgt = s.lgt := unchangedBut_copyReplaced s c .lgt (by simp)
  rw [State.applySettings_valueOf, State.applySettings_judged, State.commitGrants_lgt, hlgt,
    State.copyReplaced_valueOf s c (f := .scene) nofun]
  simp only [beq_iff_eq]

/-- The rearm condition follows the value of THROTTLE (R11). -/
theorem State.applySettings_prot :
    (s.applySettings c).prot =
      { s.prot with
        throttleRested := s.prot.throttleRested && (s.applySettings c).valueOf .throttle == 0 } := by
  have hprot : (s.copyReplaced c).prot = s.prot := unchangedBut_copyReplaced s c .prot (by simp)
  rw [State.applySettings_valueOf, State.applySettings_judged, State.commitGrants_prot, hprot]

/-- Out of ARMING a new working copy replaces the old one, and touches nothing else of the run-state controller (R160). -/
theorem State.applySettings_rsc (h : s.rsc.run ≠ .arming) : (s.applySettings c).rsc = { s.rsc with work := c } := by
  have hrun : (s.copyReplaced c).rsc.run ≠ .arming := by rwa [State.copyReplaced_rsc]
  rw [State.applySettings_judged, State.commitGrants_rsc, State.armingAfter_kept _ _ (.inl hrun), State.copyReplaced_rsc]

theorem State.applySettings_acp :
    (s.applySettings c).acp = { s.acp with orderDone := (s.applySettings c).acp.orderDone } := by
  rw [State.applySettings_judged, State.commitGrants_acp, State.copyReplaced_acp]

theorem unchangedBut_applySettings :
    unchangedBut [.prot, .grt, .drv, .str, .wch, .lgt, .acp, .rsc] s (s.applySettings c) := by
  intro b hb
  cases b <;> simp at hb <;> simp [State.agree]

/-! ### The winch and the drive (R71, R94, R100, R113) -/

theorem State.applySettings_wch :
    (s.applySettings c).wch =
      { s.wch with
        referenced := s.wch.referenced && s.cfg.pulsesPerTurn == c.pulsesPerTurn
        stallHold := (s.applySettings c).wch.stallHold
        stalledSign := (s.applySettings c).wch.stalledSign
        directCurrent := (s.applySettings c).wch.directCurrent
        directDrum := (s.applySettings c).wch.directDrum
        slots := (s.applySettings c).wch.slots
        runFlag := (s.applySettings c).wch.runFlag
        duty := (s.applySettings c).wch.duty
        moving := (s.applySettings c).wch.moving
        pwm := (s.applySettings c).wch.pwm } := by
  rw [State.applySettings_judged, State.commitGrants_wch_frame, State.copyReplaced_wch]

/-- The line, the stall arm and the post list stay under a new working copy. -/
theorem State.applySettings_line :
    (s.applySettings c).wch.linePos = s.wch.linePos ∧ (s.applySettings c).wch.dir = s.wch.dir ∧
      (s.applySettings c).wch.stallArm = s.wch.stallArm ∧ (s.applySettings c).wch.postList = s.wch.postList ∧
      (s.applySettings c).wch.lastPosted = s.wch.lastPosted := by
  rw [State.applySettings_wch]
  exact ⟨rfl, rfl, rfl, rfl, rfl⟩

theorem State.copyReplaced_holderOf (f : Fn) : (s.copyReplaced c).holderOf f = s.holderOf f := s.copyReplaced_holder c

/-- The new table hands WINCH over as it finds it (R100, R113). -/
theorem State.applySettings_handedOver : handedOver (s.copyReplaced c) (s.applySettings c) :=
  (s.copyReplaced c).commitGrants_handedOver _

theorem State.applySettings_driveFollows : driveFollows s (s.applySettings c) :=
  ((s.copyReplaced_motorEases c).trans (State.commitGrants_motorEases _ _)).driveFollows

end

/-- An order ACTIVE as WINCH_EN goes is preempted (R113). -/
theorem State.applySettings_preempted_disabled (h : s.cfg.winchEn = true ∧ c.winchEn = false) (hq : s.queueOk) :
    preempted s (s.applySettings c) := by
  obtain ⟨-, -, -, hone, -⟩ := hq
  have hreplaced : preempted (s.reconfigured c) (s.copyReplaced c) := by
    rw [State.copyReplaced_dropped h]
    exact State.preempt_preempted (s.reconfigured c) hone
  have hfrom := hreplaced.of_sameQueue (sameQueue_reconfigured s c)
  obtain ⟨hnone, -⟩ := id hfrom
  exact hfrom.to_sameQueue (State.commitGrants_sameQueue _ _ ((Wch.active_eq_none_iff _).2 hnone))
    (State.commitGrants_rest _ _)

/-- An order ACTIVE as AP loses WINCH is preempted (R113). -/
theorem State.applySettings_preempted_lost (h : ¬(s.cfg.winchEn = true ∧ c.winchEn = false))
    (hlost : (s.applySettings c).holderOf .winch ≠ .ap) (hq : s.queueOk) : preempted s (s.applySettings c) := by
  have hsame : sameQueue s (s.copyReplaced c) := by
    rw [State.copyReplaced_kept h]
    exact sameQueue_reconfigured s c
  have hok : (s.copyReplaced c).queueOk := State.queueOk_congr hsame (s.copyReplaced_holderOf c .winch) hq
  rw [State.applySettings_holderOf] at hlost
  exact ((s.copyReplaced c).commitGrants_preempted _ hok hlost).of_sameQueue hsame

/-- Where WINCH_EN stays and AP does not lose WINCH, the queue and the motor go on (R113). -/
theorem State.applySettings_undisturbed (h : ¬(s.cfg.winchEn = true ∧ c.winchEn = false))
    (hap : s.holderOf .winch = .ap → (s.applySettings c).holderOf .winch = .ap) :
    (s.applySettings c).wch.slots = s.wch.slots ∧ (s.applySettings c).wch.runFlag = s.wch.runFlag ∧
      (s.applySettings c).wch.duty = s.wch.duty ∧ (s.applySettings c).wch.moving = s.wch.moving ∧
      (s.applySettings c).wch.pwm = s.wch.pwm ∧ (s.applySettings c).acp.orderDone = s.acp.orderDone := by
  obtain ⟨hkept, hmoved, -⟩ := s.applySettings_handedOver c
  have hnever : (s.applySettings c).holderOf .winch = .ap → s.holderOf .winch = .ap := by
    rw [State.applySettings_holderOf, State.copyJudged_fn, ← s.copyReplaced_holderOf c]
    exact Grt.reexamineFn_ap
  rw [s.copyReplaced_holderOf c, State.copyReplaced_kept h] at hkept hmoved
  generalize s.applySettings c = t at *
  by_cases hsame : t.holderOf .winch = s.holderOf .winch
  · obtain ⟨hwch, -, hdone⟩ := hkept hsame
    rw [hwch, hdone]
    exact ⟨rfl, rfl, rfl, rfl, rfl, rfl⟩
  · have hs : s.holderOf .winch ≠ .ap := fun hs => hsame ((hap hs).trans hs.symm)
    have ht : t.holderOf .winch ≠ .ap := fun ht => hs (hnever ht)
    obtain ⟨hwch, hqueue, -⟩ := hmoved hsame
    obtain ⟨hslots, hflag, hdone⟩ := hqueue hs
    rw [beq_false_of_ne ht, beq_false_of_ne hs] at hwch
    have hduty := congrArg Wch.duty hwch
    have hmoving := congrArg Wch.moving hwch
    have hpwm := congrArg Wch.pwm hwch
    exact ⟨hslots, hflag, hduty, hmoving, hpwm, hdone⟩

/-- Where WINCH keeps its holder, the direct stall is left as it is (R100). -/
theorem State.applySettings_direct_kept (h : (s.applySettings c).holderOf .winch = s.holderOf .winch) :
    (s.applySettings c).wch.stallHold = s.wch.stallHold ∧ (s.applySettings c).wch.stalledSign = s.wch.stalledSign ∧
      (s.applySettings c).wch.directCurrent = s.wch.directCurrent ∧
      (s.applySettings c).wch.directDrum = s.wch.directDrum := by
  obtain ⟨hkept, -⟩ := s.applySettings_handedOver c
  obtain ⟨hwch, -⟩ := hkept (h.trans (s.copyReplaced_holderOf c .winch).symm)
  rw [hwch, State.copyReplaced_wch]
  exact ⟨rfl, rfl, rfl, rfl⟩

/-- A working copy replaced sets off what `reconfigured` says. -/
theorem reconfigured_applySettings (s : State) (c : Settings) : reconfigured s (s.applySettings c) := by
  obtain ⟨hline, hdir, harm, hpost, hlast⟩ := s.applySettings_line c
  have hprot := s.applySettings_prot c
  have hover := s.applySettings_handedOver c
  refine ⟨fun f => s.applySettings_reexamined c, ?grt, ?str, fun v => ?servo, ?referenced, hline, hdir, harm,
    fun hpre hq => ?preempted, fun hpre => ?undisturbed, hpost, hlast, fun hne => ?direct, State.applySettings_direct_kept,
    s.applySettings_lgt c, congrArg Prot.throttleRested hprot, s.applySettings_driveFollows c⟩
  case grt =>
    rw [State.applySettings_grt, State.copyJudged_eq]
  case str =>
    rw [State.applySettings_str]
    rfl
  case servo =>
    rw [State.applySettings_str, State.applySettings_cfg]
    exact s.str.rebound_servo s.cfg c v
  case referenced =>
    refine (congrArg Wch.referenced (s.applySettings_wch c)).trans ?_
    rw [State.applySettings_cfg, beq_eq_decide]
    simp only [eq_comm]
  case preempted =>
    rw [State.applySettings_cfg] at hpre
    by_cases hen : s.cfg.winchEn = true ∧ c.winchEn = false
    · exact State.applySettings_preempted_disabled hen hq
    · exact State.applySettings_preempted_lost hen (hpre.resolve_left hen).2 hq
  case undisturbed =>
    rw [State.applySettings_cfg, not_or, not_and_not_right] at hpre
    exact State.applySettings_undisturbed hpre.1 hpre.2
  case direct => exact hover.directEnded fun h => hne (h.trans (s.copyReplaced_holderOf c .winch))

end

/-- `reconfigured` reads of the state after it these blocks alone, and nothing of AP_LOST. -/
theorem reconfigured.congr {s t u : State} (h : reconfigured s u) (hcfg : t.cfg = u.cfg) (hfns : t.grt.fns = u.grt.fns)
    (hgrt : t.grt = { u.grt with apLost := t.grt.apLost }) (hdrv : t.drv = u.drv) (hstr : t.str = u.str)
    (hwch : t.wch = u.wch) (hlgt : t.lgt = u.lgt) (hrested : t.prot.throttleRested = u.prot.throttleRested)
    (hdone : t.acp.orderDone = u.acp.orderDone) : reconfigured s t := by
  have hlast : t.grt.lastDecoded = u.grt.lastDecoded := by rw [hgrt]
  obtain ⟨hre, htable, hrest⟩ := h
  refine ⟨fun f => ?_, ?_, ?_⟩
  · have hf := hre f
    unfold reexamined at hf ⊢
    rwa [hcfg, hfns, hlast]
  · rw [htable] at hgrt
    rw [hfns, hlast]
    exact hgrt
  · unfold preempted driveFollows State.holderOf State.valueOf at hrest ⊢
    rwa [hcfg, hfns, hdrv, hstr, hwch, hlgt, hrested, hdone]

theorem reconfigured.withRsc {s u : State} {x : Rsc} (h : reconfigured s u) (hx : x.work = u.rsc.work) :
    reconfigured s (u.withRsc x) :=
  h.congr hx rfl rfl rfl rfl rfl rfl rfl rfl

theorem reconfigured.withAcp {s u : State} {x : Acp} (h : reconfigured s u) (hx : x.orderDone = u.acp.orderDone) :
    reconfigured s (u.withAcp x) :=
  h.congr rfl rfl rfl rfl rfl rfl rfl rfl hx

end Sys2Proof.Machine
end

section
/-! PROOFS. O28: CFG_READ, CFG_CHECK and CFG_WRITE (R65, R90, R94, R113, R147, R163). -/

namespace Sys2Proof.Machine

variable {s : State} {hi lo n : Byte} {data : List Byte}

/-! ### CFG_READ and CFG_CHECK (R163) -/

theorem exec_cfgRead (hopen : s.portOpen) (hi lo n : Byte) :
    exec (.cfgRead [hi, lo, n]) s = .next (s.wakeSource.cfgRead [hi, lo, n]).settle :=
  congrArg completed (s.takeCommand_taken false noData (State.cfgRead · _) (.inl hopen))

theorem exec_cfgCheck (hopen : s.portOpen) : exec (.cfgCheck []) s = .next s.wakeSource.cfgCheck.settle :=
  congrArg completed (s.takeCommand_taken false noData State.cfgCheck (.inl hopen))

/-- What CFG_READ asks of its parameters (R163). -/
theorem cfgReadOk_iff (offset len : Nat) :
    (within 1 len 16 && decide (offset + len ≤ 352)) = true ↔ 1 ≤ len ∧ len ≤ 16 ∧ offset + len ≤ 352 := by
  simp [within, and_assoc]

theorem State.cfgRead_taken (h : 1 ≤ n.toNat ∧ n.toNat ≤ 16 ∧ hi.toNat * 256 + lo.toNat + n.toNat ≤ 352) :
    s.cfgRead [hi, lo, n] = s.respond .ok ((s.cfg.withCrc.drop (hi.toNat * 256 + lo.toNat)).take n.toNat) :=
  if_pos ((cfgReadOk_iff (hi.toNat * 256 + lo.toNat) n.toNat).2 h)

theorem State.cfgRead_refused (h : ¬(1 ≤ n.toNat ∧ n.toNat ≤ 16 ∧ hi.toNat * 256 + lo.toNat + n.toNat ≤ 352)) :
    s.cfgRead [hi, lo, n] = s.respond .badValue [] :=
  if_neg (mt (cfgReadOk_iff (hi.toNat * 256 + lo.toNat) n.toNat).1 h)

/-- The working copy marked valid or not. -/
def State.marked (s : State) (valid : Bool) : State := s.withRsc { s.rsc with valid := valid }

theorem unchangedBut_marked (s : State) (valid : Bool) : unchangedBut [.rsc] s (s.marked valid) :=
  unchangedBut_withRsc s _

theorem State.cfgCheck_passed (h : firstBad s.cfg = none) : s.cfgCheck = (s.marked true).respond .ok [] := by
  unfold State.cfgCheck
  rw [h]
  rfl

theorem State.cfgCheck_failed (h : firstBad s.cfg ≠ none) :
    s.cfgCheck = (s.marked false).respond .configField s.badFieldBytes := by
  rw [← s.fieldData_firstBad]
  unfold State.cfgCheck
  cases hbad : firstBad s.cfg with
  | none => exact absurd hbad h
  | some bad => rfl

theorem State.wakeSource_badFieldBytes (s : State) : s.wakeSource.badFieldBytes = s.badFieldBytes := by
  rw [← State.fieldData_firstBad, ← State.fieldData_firstBad]
  rfl

/-- What a check leaves, beside its answer: the mark (R163). -/
theorem answered_marked (s : State) (valid : Bool) (st : Status) (d : List Byte) :
    ((s.wakeSource.marked valid).respond st d).settle.rsc =
        { s.wakeSource.rsc with
          valid := valid, idleEnd := s.idleUntil ((s.wakeSource.marked valid).respond st d).settle } ∧
      answers s ((s.wakeSource.marked valid).respond st d).settle st d ∧
      unchangedBut [.acp, .grt, .rsc] s ((s.wakeSource.marked valid).respond st d).settle := by
  have hacp : (s.wakeSource.marked valid).acp = s.acp := rfl
  have hrsc : (s.wakeSource.marked valid).rsc = { s.wakeSource.rsc with valid := valid } := rfl
  have hend : (s.wakeSource.marked valid).rsc.idleEnd = s.rsc.idleEnd := rfl
  have hframe := (unchangedBut_wakeSource s).append (unchangedBut_marked s.wakeSource valid)
  generalize s.wakeSource.marked valid = u at *
  have hjudged : (u.respond st d).settle.rsc = { u.rsc with idleEnd := s.idleUntil (u.respond st d).settle } :=
    State.settle_rsc_judged hend
  rw [hrsc] at hjudged
  exact ⟨hjudged, answers_respond hacp st d, hframe.answered (by simp) (by simp) (by simp) (by simp) st d⟩

/-! ### CFG_WRITE judged (R147, R163) -/

theorem exec_cfgWrite (hopen : s.portOpen) (hlen : data.length = n.toNat) :
    exec (.cfgWrite (hi :: lo :: n :: data)) s = .next (s.wakeSource.cfgWrite (hi :: lo :: n :: data)).settle := by
  have hok : cfgWriteLengthOk (hi :: lo :: n :: data) = true := by
    simp [cfgWriteLengthOk, param, hlen]
    omega
  have htaken := s.takeCommand_taken false noData (State.cfgWrite · (hi :: lo :: n :: data)) (.inl hopen)
  rw [← hok] at htaken
  exact congrArg completed htaken

theorem State.cfgWritable_iff :
    s.cfgWritable = true ↔ (s.rsc.run = .halted ∧ s.rsc.startInFlight = false) ∨ s.rsc.run = .benchDry := by
  simp [State.cfgWritable]

theorem State.cfgWrite_closed (ps : List Byte) (h : ¬s.cfgWritable = true) :
    s.cfgWrite ps = s.respond .refusedState [] := if_pos (by simpa using h)

/-- What CFG_WRITE asks of its count and its place (R163). -/
theorem cfgWriteOk_iff (offset len : Nat) :
    (!(within 1 len 16 && decide (offset + len ≤ 350))) = true ↔ len = 0 ∨ 16 < len ∨ 350 < offset + len := by
  simp only [within, Bool.not_eq_true', Bool.and_eq_false_iff, decide_eq_false_iff_not]
  omega

section
variable (hopened : s.cfgWritable = true)
include hopened

theorem State.cfgWrite_outside (h : data.length = 0 ∨ 16 < data.length ∨ 350 < hi.toNat * 256 + lo.toNat + data.length) :
    s.cfgWrite (hi :: lo :: n :: data) = s.respond .badValue [] := by
  unfold State.cfgWrite
  dsimp only
  rw [if_neg (by simpa using hopened)]
  exact if_pos ((cfgWriteOk_iff _ _).2 h)

/-- A write inside the image is judged by the fields it touches (R163, log 10). -/
theorem State.cfgWrite_judged
    (h : ¬(data.length = 0 ∨ 16 < data.length ∨ 350 < hi.toNat * 256 + lo.toNat + data.length)) :
    s.cfgWrite (hi :: lo :: n :: data) =
      match firstBadTouched (s.cfg.write (hi.toNat * 256 + lo.toNat) data) (hi.toNat * 256 + lo.toNat) data.length with
      | some field => s.respond .configField (fieldData (some (field, .range)))
      | none => (s.editConfig (s.cfg.write (hi.toNat * 256 + lo.toNat) data)).respond .ok [] := by
  unfold State.cfgWrite
  dsimp only
  rw [if_neg (by simpa using hopened)]
  exact if_neg (mt (cfgWriteOk_iff _ _).1 h)

end

/-! ### An accepted write (R65, R90, R94, R113, R163) -/

theorem reconfigured_editConfig (s : State) (c : Settings) : reconfigured s (s.editConfig c) :=
  (reconfigured_applySettings s c).withRsc rfl

theorem State.editConfig_rsc {c : Settings} (h : s.rsc.run ≠ .arming) :
    (s.editConfig c).rsc = { s.rsc with work := c, valid := false } := by
  rw [State.editConfig, State.withRsc_rsc, State.applySettings_rsc s c h]

theorem unchangedBut_editConfig (s : State) (c : Settings) :
    unchangedBut [.prot, .grt, .drv, .str, .wch, .lgt, .acp, .rsc] s (s.editConfig c) :=
  ((unchangedBut_applySettings s c).append (unchangedBut_withRsc _ _)).mono (by simp)

/-- What an accepted write leaves (R163). -/
theorem answered_editConfig {c : Settings} (hrun : s.rsc.run ≠ .running) (harming : s.rsc.run ≠ .arming) :
    ((s.editConfig c).respond .ok []).settle.rsc = { s.rsc with work := c, valid := false, idleEnd := none } ∧
      answersPosted s ((s.editConfig c).respond .ok []).settle .ok [] ∧
      reconfigured s ((s.editConfig c).respond .ok []).settle ∧
      ((s.editConfig c).respond .ok []).settle.grt.apLost = false ∧
      ((s.editConfig c).respond .ok []).settle.prot =
        { s.prot with throttleRested := ((s.editConfig c).respond .ok []).settle.prot.throttleRested } ∧
      unchangedBut [.prot, .grt, .drv, .str, .wch, .lgt, .acp, .rsc] s ((s.editConfig c).respond .ok []).settle := by
  have hrsc := State.editConfig_rsc (c := c) harming
  have hacp : (s.editConfig c).acp = { s.acp with orderDone := (s.editConfig c).acp.orderDone } := s.applySettings_acp c
  have hset := reconfigured_editConfig s c
  have hprot : (s.editConfig c).prot = { s.prot with throttleRested := (s.editConfig c).prot.throttleRested } := by
    have h := s.applySettings_prot c
    rw [State.editConfig, State.withRsc_prot, h]
  have hframe := unchangedBut_editConfig s c
  generalize s.editConfig c = u at *
  have hstopped : (u.respond .ok []).settle.rsc = { u.rsc with idleEnd := none } :=
    State.settle_rsc_stopped (by simpa [hrsc] using hrun)
  rw [hrsc] at hstopped
  exact ⟨hstopped, answersPosted_respond hacp _ _, hset.congr rfl rfl rfl rfl rfl rfl rfl rfl rfl, Bool.and_false _, hprot,
    hframe.answered (List.Subset.refl _) (by simp) (by simp) (by simp) _ _⟩

/-- Settles O28: CFG_READ and CFG_CHECK answered, CFG_WRITE by its checks, and an accepted one by what it sets off. -/
theorem configurationCommands : Obligations.ConfigurationCommands := by
  intro s hi lo n data hopen hlength offset writable
  have hwritable : s.cfgWritable = true ↔ writable := State.cfgWritable_iff
  rw [exec_cfgRead hopen, exec_cfgCheck hopen]
  refine ⟨fun h => ?read, fun h => ?unread, ?check, fun hlen hclosed => ?closed, fun hlen hw hout => ?outside,
    fun hlen hw hlow hhigh hend => ?inside⟩
  case read =>
    rw [State.cfgRead_taken h]
    exact ⟨_, rfl, answersWith_wake⟩
  case unread =>
    rw [State.cfgRead_refused h]
    exact ⟨_, rfl, answersWith_wake⟩
  case check =>
    by_cases h : firstBad s.cfg = none
    · obtain ⟨hrsc, hanswers, hframe⟩ := answered_marked s true .ok []
      rw [State.cfgCheck_passed (s := s.wakeSource) h, decide_eq_true h]
      exact ⟨_, rfl, hrsc, fun _ => hanswers, fun hbad => absurd h hbad, hframe⟩
    · obtain ⟨hrsc, hanswers, hframe⟩ := answered_marked s false .configField s.badFieldBytes
      rw [State.cfgCheck_failed (s := s.wakeSource) h, s.wakeSource_badFieldBytes, decide_eq_false h]
      exact ⟨_, rfl, hrsc, fun hgood => absurd hgood h, fun _ => hanswers, hframe⟩
  case closed =>
    rw [exec_cfgWrite hopen hlen, State.cfgWrite_closed (s := s.wakeSource) _ (mt hwritable.1 hclosed)]
    exact ⟨_, rfl, answersWith_wake⟩
  case outside =>
    rw [exec_cfgWrite hopen hlen, State.cfgWrite_outside (s := s.wakeSource) (hwritable.2 hw) (by rwa [hlen])]
    exact ⟨_, rfl, answersWith_wake⟩
  case inside =>
    have hawake : s.rsc.run ≠ .sleep ∧ s.rsc.run ≠ .running ∧ s.rsc.run ≠ .arming := by
      rcases hw with ⟨hrun, -⟩ | hrun <;> simp [hrun]
    obtain ⟨hsleep, hrunning, harming⟩ := hawake
    have hin : ¬(data.length = 0 ∨ 16 < data.length ∨ 350 < offset + data.length) := by omega
    have hbytes : offset + data.length ≤ s.cfg.bytes.length := by
      rw [hlength]
      omega
    rw [exec_cfgWrite hopen hlen, s.wakeSource_awake hsleep, State.cfgWrite_judged (hwritable.2 hw) hin, hlen]
    refine ⟨fun field hfield => ?_, fun hgood => ?_⟩
    · rw [hfield]
      exact ⟨_, rfl, answersWith_awake hsleep _ _⟩
    · obtain ⟨hrsc, hanswers, hset, hlost, hprot, hframe⟩ :=
        answered_editConfig (c := s.cfg.write offset data) hrunning harming
      rw [hgood]
      generalize ((s.editConfig (s.cfg.write offset data)).respond .ok []).settle = t at *
      have hcfg : t.cfg = s.cfg.write offset data := congrArg Rsc.work hrsc
      refine ⟨t, rfl, ?_, hanswers, ?_, ?_, hset, hlost, hprot, hframe⟩
      · rw [hcfg]
        exact hrsc
      · rw [State.configOk, hcfg, Settings.write_length hbytes]
        exact hlength
      · rw [hcfg, ← hlen]
        exact Settings.write_getD hbytes

end Sys2Proof.Machine
end

section
/-! PROOFS. O25: a LOAD begun or refused, the image judged at its end, and the start that may follow (R17, R19, R65, R154,
R157 to R159, R165). -/

namespace Sys2Proof.Machine

variable {s u : State} {c : Settings} {l : LoadRun}

/-! ### A LOAD begun (R157, R158) -/

theorem exec_load (hopen : s.portOpen) (b : Byte) :
    exec (.load [b]) s = .next (s.wakeSource.loadRule (bit b.toNat 5)).settle :=
  congrArg completed (s.takeCommand_taken false runctlData (State.loadRule · (startFlag [b])) (.inl hopen))

/-- A LOAD in flight (R158). -/
def State.loadBegun (s : State) (start : Bool) : State :=
  s.withRsc { s.rsc with run := .loading, load := some ⟨s.now + loadTime, false⟩, pendingStart := start }

theorem State.loadRule_begun (start : Bool) (h : s.rsc.run = .halted ∧ s.rsc.startInFlight = false) :
    s.loadRule start = (s.loadBegun start).runctl .ok := if_pos (s.haltedIdle_iff.2 h)

theorem State.loadRule_refused (start : Bool) (h : ¬(s.rsc.run = .halted ∧ s.rsc.startInFlight = false)) :
    s.loadRule start = s.runctl .refusedState := if_neg (mt s.haltedIdle_iff.1 h)

/-! ### The image judged (R158) -/

/-- An image of 352 bytes that its CRC and its fields pass (R158, R163). -/
def imagePasses (bytes : List Byte) : Prop :=
  bytes.length = 352 ∧ bytes.drop 350 = word16 (crc16 (bytes.take 350)).toNat ∧ firstBad ⟨bytes.take 350⟩ = none

theorem StoreImage.passing_iff (image : StoreImage) (c : Settings) :
    image.passing = some c ↔ ∃ bytes, image = .written bytes ∧ imagePasses bytes ∧ c = ⟨bytes.take 350⟩ := by
  have hcrc (bytes : List Byte) : bytes = (⟨bytes.take 350⟩ : Settings).withCrc ↔
      bytes.drop 350 = word16 (crc16 (bytes.take 350)).toNat := by
    have hsplit := List.take_append_drop 350 bytes
    refine ⟨fun h => List.append_cancel_left (hsplit.trans h), fun h => ?_⟩
    rw [Settings.withCrc, ← h, hsplit]
  cases image with
  | neverWritten => simp [StoreImage.passing]
  | partlyWritten => simp [StoreImage.passing]
  | written bytes =>
    simp only [StoreImage.passing, Option.ite_none_right_eq_some, Bool.and_eq_true, beq_iff_eq, Option.isNone_iff_eq_none,
      hcrc, Option.some.injEq, imagePasses, and_assoc, StoreImage.written.injEq, exists_eq_left', eq_comm (b := c)]

/-! ### The working copy replaced at the end of a LOAD (R65, R154, R158) -/

/-- From `s` to `t` the end of the LOAD `l` has put `c` in the place of the working copy. A start made then, and the faults
latched, are left open. -/
structure loadedTo (s t : State) (l : LoadRun) (c : Settings) (valid : Bool) : Prop where
  now : t.now = max s.now l.endTime
  rsc : t.rsc =
    { s.rsc with
      run := .halted, work := c, load := none, pendingStart := false, valid := valid
      startInFlight := t.rsc.startInFlight, idleEnd := t.rsc.idleEnd }
  acp : t.acp = { s.acp with mask := c.attnDefault, orderDone := t.acp.orderDone, latched := t.acp.latched }
  prot : t.prot =
    { s.prot with sw := t.prot.sw, prechargeEnd := t.prot.prechargeEnd, throttleRested := t.prot.throttleRested }
  sets : reconfigured s t
  apLost : t.grt.apLost = s.grt.apLost
  frame : unchangedBut [.now, .prot, .grt, .drv, .str, .wch, .lgt, .acp, .rsc] s t

/-- What the end of a LOAD marks once the working copy is replaced (R154, R158). -/
def State.loadMarked (u : State) (c : Settings) (valid : Bool) : State :=
  (u.withRsc { u.rsc with run := .halted, load := none, pendingStart := false, valid := valid }).withAcp
    { u.acp with mask := c.attnDefault }

/-- The state in which a LOAD has ended, before the start it may make. -/
def State.loaded (s : State) (l : LoadRun) (c : Settings) (valid : Bool) : State :=
  ((s.reach l.endTime).applySettings c).loadMarked c valid

theorem reconfigured.of_reach {x : Nat} (h : reconfigured (s.reach x) u) : reconfigured s u := h

theorem unchangedBut_loadMarked (u : State) (c : Settings) (valid : Bool) :
    unchangedBut [.acp, .rsc] u (u.loadMarked c valid) := by
  intro b hb
  cases b with
  | acp | rsc => exact absurd (by simp) hb
  | _ => rfl

/-- The working copy replaced at the moment of the end, and marked (R65, R158). -/
theorem State.loaded_loadedTo (hrun : s.rsc.run = .loading) (valid : Bool) :
    loadedTo s (s.loaded l c valid) l c valid := by
  have hnow : ((s.reach l.endTime).applySettings c).now = max s.now l.endTime := State.applySettings_now _ c
  have hrsc : ((s.reach l.endTime).applySettings c).rsc = { s.rsc with work := c } :=
    (s.reach l.endTime).applySettings_rsc c (by simp [hrun])
  have hacp := (s.reach l.endTime).applySettings_acp c
  have hprot := (s.reach l.endTime).applySettings_prot c
  have hlost : ((s.reach l.endTime).applySettings c).grt.apLost = s.grt.apLost := by
    rw [State.applySettings_grt, State.copyJudged_eq]
    rfl
  have hset := (reconfigured_applySettings (s.reach l.endTime) c).of_reach
  have hlines : ((s.reach l.endTime).applySettings c).lines = s.lines := State.applySettings_lines _ c
  have hframe := (unchangedBut_reach s l.endTime).append (unchangedBut_applySettings (s.reach l.endTime) c)
  unfold State.loaded
  generalize (s.reach l.endTime).applySettings c = u at *
  have hmarked := hframe.append (unchangedBut_loadMarked u c valid)
  exact
    { now := hnow
      rsc := by rw [State.loadMarked, State.withAcp_rsc, State.withRsc_rsc, hrsc]
      acp := by rw [State.loadMarked, State.withAcp_acp, hacp]; rfl
      prot := by rw [State.loadMarked, State.withAcp_prot, State.withRsc_prot, hprot]; rfl
      sets := (hset.withRsc rfl).withAcp rfl
      apLost := hlost
      frame := hmarked.without .lines hlines (by simp) }

theorem State.loaded_prot (valid : Bool) :
    (s.loaded l c valid).prot.st = s.prot.st ∧ (s.loaded l c valid).prot.sw = s.prot.sw := by
  have hprot := (s.reach l.endTime).applySettings_prot c
  rw [State.loaded, State.loadMarked, State.withAcp_prot, State.withRsc_prot, hprot]
  exact ⟨rfl, rfl⟩

theorem State.loaded_startInFlight (hrun : s.rsc.run = .loading) (valid : Bool) :
    (s.loaded l c valid).rsc.startInFlight = s.rsc.startInFlight := by
  have hrsc := (s.reach l.endTime).applySettings_rsc c (by simp [hrun])
  rw [State.loaded, State.loadMarked, State.withAcp_rsc, State.withRsc_rsc, hrsc]
  rfl

theorem State.loaded_lines (valid : Bool) : (s.loaded l c valid).lines = s.lines := by
  rw [State.loaded, State.loadMarked, State.withAcp_lines, State.withRsc_lines]
  exact (s.reach l.endTime).applySettings_lines c

/-- What follows the end of a LOAD leaves it ended: a start made, a fault raised. -/
theorem loadedTo.followed {valid : Bool} {t : State} (h : loadedTo s u l c valid)
    (hrsc : t.rsc = { u.rsc with startInFlight := t.rsc.startInFlight, idleEnd := t.rsc.idleEnd })
    (hacp : t.acp = { u.acp with latched := t.acp.latched })
    (hprot : t.prot = { u.prot with sw := t.prot.sw, prechargeEnd := t.prot.prechargeEnd })
    (hframe : unchangedBut [.prot, .acp, .rsc] u t) : loadedTo s t l c valid := by
  have hgrt : t.grt = u.grt := hframe .grt (by simp)
  have hcfg : t.cfg = u.cfg := by rw [State.cfg, hrsc, State.cfg]
  have hrested : t.prot.throttleRested = u.prot.throttleRested := by rw [hprot]
  have hdone : t.acp.orderDone = u.acp.orderDone := by rw [hacp]
  exact
    { now := (hframe .now (by simp)).trans h.now
      rsc := by rw [hrsc, h.rsc]
      acp := by rw [hacp, h.acp]
      prot := by rw [hprot, h.prot]
      sets := h.sets.congr hcfg (by rw [hgrt]) (by rw [hgrt]) (hframe .drv (by simp)) (hframe .str (by simp))
        (hframe .wch (by simp)) (hframe .lgt (by simp)) hrested hdone
      apLost := by rw [hgrt, h.apLost]
      frame := (h.frame.append hframe).mono (by simp) }

section
variable {valid : Bool} (h : loadedTo s u l c valid)
include h

theorem loadedTo.settled : loadedTo s u.settle l c valid :=
  h.followed rfl rfl rfl (unchangedBut.settle (l := []) (fun b _ => by cases b <;> rfl) (by simp) (by simp) (by simp))

theorem loadedTo.raised (e : FaultEntry) : loadedTo s (u.raise e) l c valid := by
  refine h.followed rfl rfl rfl fun b hb => ?_
  cases b with
  | acp => exact absurd (by simp) hb
  | _ => rfl

theorem loadedTo.begun : loadedTo s (u.precharging.withRsc { u.rsc with startInFlight := true }) l c valid :=
  h.followed rfl rfl rfl ((unchangedBut_precharging u _).mono (by simp))

theorem loadedTo.tripped : loadedTo s u.startTripped l c valid :=
  h.followed rfl rfl rfl (unchangedBut_startTripped u)

theorem loadedTo.cfg : u.cfg = c := by rw [State.cfg, h.rsc]

theorem loadedTo.rsc_valid : u.rsc.valid = valid := by rw [h.rsc]

theorem loadedTo.run : u.rsc.run = .halted := by rw [h.rsc]

/-- The run-state controller at the end of the command that ends a LOAD (R158, R161). -/
theorem loadedTo.settled_rsc :
    u.settle.rsc =
      { s.rsc with
        run := .halted, work := u.settle.cfg, load := none, pendingStart := false, valid := u.settle.rsc.valid
        startInFlight := u.settle.rsc.startInFlight, idleEnd := none } := by
  have hstopped : u.settle.rsc = { u.rsc with idleEnd := none } :=
    State.settle_rsc_stopped (by rw [h.run]; exact nofun)
  rw [h.settled.cfg, h.settled.rsc_valid, hstopped, h.rsc]

/-- The port takes its mask from the new copy (R154). -/
theorem loadedTo.acp_masked :
    u.acp = { s.acp with mask := u.cfg.attnDefault, orderDone := u.acp.orderDone, latched := u.acp.latched } := by
  rw [h.cfg]
  exact h.acp

end

/-! ### The end of a LOAD (R158, R159, R165) -/

theorem exec_loadEnd (hload : s.rsc.load = some l) (hrun : s.rsc.run = .loading) :
    exec .loadEnd s = .next ((s.reach l.endTime).finishLoad l.powerUp).settle := by
  simp [exec, execLoadEnd, hload, hrun, completed]

/-- The end of a LOAD makes a start: one is asked for, and the protection state is not LOCKOUT (R158, R159, R165). -/
def State.startDue (s : State) (l : LoadRun) (c : Settings) : Prop :=
  (if l.powerUp then c.autoStart else s.rsc.pendingStart) = true ∧ s.prot.st ≠ .lockout

theorem State.finishLoad_failed (h : s.rsc.store.passing = none) :
    (s.reach l.endTime).finishLoad l.powerUp = (s.loaded l factorySettings false).raise .configBad := by
  simp only [State.finishLoad, State.reach_rsc, h]
  rfl

theorem State.finishLoad_passed (h : s.rsc.store.passing = some c) :
    (s.reach l.endTime).finishLoad l.powerUp =
      if (if l.powerUp then c.autoStart else s.rsc.pendingStart) then (s.loaded l c true).startAfterLoad
      else s.loaded l c true := by
  simp only [State.finishLoad, State.reach_rsc, h]
  rfl

/-- No start follows where none is asked for, or in LOCKOUT (R159). -/
theorem State.finishLoad_unstarted (hpass : s.rsc.store.passing = some c) (h : ¬s.startDue l c) :
    (s.reach l.endTime).finishLoad l.powerUp = s.loaded l c true := by
  obtain ⟨hst, -⟩ := s.loaded_prot (l := l) (c := c) true
  rw [State.finishLoad_passed hpass]
  by_cases hasked : (if l.powerUp then c.autoStart else s.rsc.pendingStart) = true
  · have hlocked : s.prot.st = .lockout := not_not.1 fun hne => h ⟨hasked, hne⟩
    rw [if_pos hasked]
    exact if_pos (by simp [hst, hlocked])
  · rw [if_neg hasked]

theorem State.finishLoad_started (hpass : s.rsc.store.passing = some c) (h : s.startDue l c) :
    (s.reach l.endTime).finishLoad l.powerUp = (s.loaded l c true).makeStart := by
  obtain ⟨hst, -⟩ := s.loaded_prot (l := l) (c := c) true
  obtain ⟨hasked, hne⟩ := h
  rw [State.finishLoad_passed hpass, if_pos hasked]
  exact if_neg (by simpa [hst] using hne)

/-- What becomes of the start, from `s` to `t` (R17, R19, R159): none made, a precharge begun, or one that OC_TRIP ended. -/
def startFollows (s t : State) (due : Prop) : Prop :=
  (¬due → t.rsc.startInFlight = s.rsc.startInFlight ∧ t.prot.sw = .opened) ∧
  (due → s.lines.ocTrip = false → t.rsc.startInFlight = true ∧ t.prot.sw = .precharging ∧
    t.prot.prechargeEnd = some (t.now + t.cfg.prechargeMs * msec)) ∧
  (due → s.lines.ocTrip = true → t.rsc.startInFlight = false ∧ t.prot.sw = .opened ∧
    t.faultLatched .hardTrip = true ∧ t.faultLatched .prechargeFail = true)

/-- The end of a LOAD whose image passes: the image stands, and a start follows where one is due. -/
theorem State.finishLoad_follows (hpass : s.rsc.store.passing = some c) (hrun : s.rsc.run = .loading)
    (hsw : s.prot.sw = .opened) :
    ∃ u, (s.reach l.endTime).finishLoad l.powerUp = u ∧ loadedTo s u l c true ∧
      startFollows s u.settle (s.startDue l c) := by
  have hto : loadedTo s (s.loaded l c true) l c true := State.loaded_loadedTo hrun true
  have hflight : (s.loaded l c true).rsc.startInFlight = s.rsc.startInFlight := State.loaded_startInFlight hrun true
  have hlines : (s.loaded l c true).lines = s.lines := State.loaded_lines true
  obtain ⟨hst, hsw'⟩ := s.loaded_prot (l := l) (c := c) true
  by_cases hdue : s.startDue l c
  · obtain ⟨-, hne⟩ := id hdue
    rw [State.finishLoad_started hpass hdue]
    generalize s.loaded l c true = v at *
    have hopened : v.prot.sw = .opened := hsw'.trans hsw
    have hlocked : v.prot.st ≠ .lockout := by rwa [hst]
    have hwet : v.rsc.run ≠ .benchWet := by rw [hto.run]; exact nofun
    cases hoc : s.lines.ocTrip with
    | false =>
      rw [State.makeStart_begun hopened hlocked (by rw [hlines, hoc])]
      exact ⟨_, rfl, hto.begun, fun h => absurd hdue h, fun _ _ => ⟨rfl, rfl, rfl⟩,
        fun _ h => Bool.noConfusion (hoc.symm.trans h)⟩
    | true =>
      obtain ⟨htrip, hfail⟩ := v.startTripped_latched
      rw [State.makeStart_tripped hwet hopened hlocked (by rw [hlines, hoc])]
      exact ⟨_, rfl, hto.tripped, fun h => absurd hdue h, fun _ h => Bool.noConfusion (hoc.symm.trans h),
        fun _ _ => ⟨rfl, rfl, State.settle_latched htrip, State.settle_latched hfail⟩⟩
  · rw [State.finishLoad_unstarted hpass hdue]
    exact ⟨_, rfl, hto, fun _ => ⟨hflight, hsw'.trans hsw⟩, fun h => absurd h hdue, fun h => absurd h hdue⟩

/-- Settles O25: a LOAD begun or refused by its rows; its end by the image, and by the start that follows. -/
theorem loadBeginsAndJudges : Obligations.LoadBeginsAndJudges := by
  refine ⟨fun s b hopen _ => ⟨fun h => ?begun, fun h => ?refused⟩, fun s l hload hrun hsw => ?ended⟩
  case begun =>
    obtain ⟨hrun, hidle⟩ := id h
    have hdata (start : Bool) : runctlData (s.loadBegun start) = [1, 0, if start then 1 else 0] := by
      simp only [runctlData, State.loadBegun, State.withRsc_rsc, hidle]
      rfl
    rw [exec_load hopen, s.wakeSource_awake (hrun ▸ nofun), State.loadRule_begun _ h, State.runctl, hdata]
    exact ⟨_, rfl, State.settle_rsc_stopped nofun, answers_respond rfl _ _, apHeard_respond rfl _ _,
      (unchangedBut_withRsc s _).answered (by simp) (by simp) (by simp) (by simp) _ _⟩
  case refused =>
    rw [exec_load hopen, State.loadRule_refused (s := s.wakeSource) _ h]
    exact ⟨_, rfl, answersWith_runctl s _⟩
  case ended =>
    rw [exec_loadEnd hload hrun]
    cases hpass : s.rsc.store.passing with
    | some c =>
      obtain ⟨image, himage, hgood, rfl⟩ := (StoreImage.passing_iff _ _).1 hpass
      obtain ⟨u, hu, hto, hfollows⟩ := State.finishLoad_follows (l := l) hpass hrun hsw
      obtain ⟨hlength, hcrc, hfields⟩ := hgood
      have hend := hto.settled
      rw [hu]
      refine ⟨_, rfl, hend.now, hto.settled_rsc, hend.acp_masked, hend.prot, hend.sets, hend.apLost,
        fun bytes hbytes _ _ _ => ?_, fun hbad => absurd hfields (hbad image himage hlength hcrc), hend.frame⟩
      obtain rfl : bytes = image := StoreImage.written.inj (hbytes.symm.trans himage)
      rw [hend.cfg]
      have hfollows' := hfollows
      unfold startFollows State.startDue at hfollows'
      rw [hend.cfg] at hfollows'
      exact ⟨rfl, hend.rsc_valid, hfollows'⟩
    | none =>
      have hto : loadedTo s (s.loaded l factorySettings false) l factorySettings false :=
        State.loaded_loadedTo hrun false
      obtain ⟨-, hsw'⟩ := s.loaded_prot (l := l) (c := factorySettings) false
      rw [State.finishLoad_failed hpass]
      generalize s.loaded l factorySettings false = v at *
      have hend := (hto.raised .configBad).settled
      refine ⟨_, rfl, hend.now, (hto.raised .configBad).settled_rsc, hend.acp_masked, hend.prot, hend.sets, hend.apLost,
        fun bytes hbytes hlength hcrc hfields => ?_, fun _ => ⟨hend.cfg, hend.rsc_valid, ?_, hsw'.trans hsw⟩, hend.frame⟩
      · have hsome := (StoreImage.passing_iff _ _).2 ⟨bytes, hbytes, ⟨hlength, hcrc, hfields⟩, rfl⟩
        exact nomatch hpass.symm.trans hsome
      · exact State.settle_latched (by simp)

end Sys2Proof.Machine
end
